-- ==== Sys2Proof/Word.lean ====
section
/-! DEFINITION. The word types of the YC-8 and the plain access to its fixed-size tables (steps 0-7,
order slots 0-31, channels 0-13: spec/00_scope.md, section 0.5). -/

namespace Sys2Proof

/-- A byte of a station link frame (R189). -/
abbrev Byte := BitVec 8

/-- A 16-bit slot of a sample frame (R2). -/
abbrev Half := BitVec 16

/-- A 32-bit count or setting value (R4, R193, R196). -/
abbrev Word := BitVec 32

/-- Steps are numbered 0-7. -/
abbrev StepId := Fin 8

/-- Order slots are numbered 0-31. -/
abbrev SlotId := Fin 32

/-- Analog channels are numbered 0-13. -/
abbrev ChanId := Fin 14

/-- The entry of a fixed-size table at an index. -/
def look {α : Type} {n : Nat} (v : Vector α n) (i : Fin n) : α := v[i.val]

/-- A fixed-size table with one entry replaced. -/
def put {α : Type} {n : Nat} (v : Vector α n) (i : Fin n) (a : α) : Vector α n := v.set i.val a

/-- All steps in ascending order. -/
def allSteps : List StepId := [0, 1, 2, 3, 4, 5, 6, 7]

/-- All order slots in ascending order. -/
def allSlots : List SlotId := List.finRange 32

/-- All channels in ascending order. -/
def allChannels : List ChanId := List.finRange 14

end Sys2Proof
end

