-- ==== Sys2Proof/Config.lean ====
section
/-! DEFINITION. What the manual leaves open and the model leaves open with it: the data bytes of a
refused read that have no referent (log 9). -/

namespace Sys2Proof

/-- A data byte of a response for which the manual gives no value (the record of a step above 7, the
value of a setting that does not exist). The first argument is the draw, fresh for each refused
response; the second the place of the byte among the 13. DESIGN CHOICE, safe: no value is chosen
(log 9). -/
opaque Config.unstatedByte : Nat → Nat → BitVec 8

end Sys2Proof
end

