-- ==== Sys2Proof/Syntax.lean ====
section
/-! DEFINITION. The commands of the YC-8: one constructor per row of spec/opcode_table.json, with the
row's operands. Requests carry their tag and the argument bytes of section 11.9.2 unjudged, because
judging them is part of the request's meaning (R192). -/

namespace Sys2Proof

/-- The sample frame a frame sync closes (R1, R2): how many bits arrived since the previous sync, the
bit at that sync included, and the 16 slots, read only when exactly 256 bits arrived. -/
structure SampleFrame where
  bitCount : Nat
  slots : Vector Half 16
  deriving DecidableEq, Repr

/-- The levels of INP0, INP1 and INP2 (R178, R179) and of the station link's select (R203) at one moment; `true`
is active. -/
structure Pins where
  inp0 : Bool
  inp1 : Bool
  inp2 : Bool
  select : Bool
  deriving DecidableEq, Repr

/-- The three multi-use inputs: CLOSE_INHIBIT, EMERGENCY_OPEN, MAINT_PERMIT (chapter 10). -/
inductive InputLine where
  | inp0
  | inp1
  | inp2
  deriving DecidableEq, Repr

/-- The commands. The comment on each names its row's rule. -/
inductive Instr where
  /-- RESET_ASSERT (R97, R203) -/
  | resetAssert
  /-- RESET_RELEASE (R38, R178, R203): the pins at the moment of release -/
  | resetRelease (pins : Pins)
  /-- FRAME_END (R1) -/
  | frameEnd (frame : SampleFrame)
  /-- SCHEDULED_CLOSE_PULSE (R79) -/
  | scheduledClosePulse
  /-- WINDOW_TIMER_EXPIRY (R8) -/
  | windowTimerExpiry
  /-- FEED_TIMER_EXPIRY (R15) -/
  | feedTimerExpiry
  /-- WINDOW_END (R11) -/
  | windowEnd
  /-- PUBLICATION (R21) -/
  | publication
  /-- VC_EVALUATION (R100) -/
  | vcEvaluation
  /-- HARMONIC_EVALUATION (R120) -/
  | harmonicEvaluation
  /-- UNBALANCE_EVALUATION (R139) -/
  | unbalanceEvaluation
  /-- COOLDOWN_EXPIRY (R65) -/
  | cooldownExpiry (step : StepId)
  /-- HOLDOFF_EXPIRY (R72) -/
  | holdoffExpiry (step : StepId)
  /-- CLOSE_PULSE_END (R81) -/
  | closePulseEnd (step : StepId)
  /-- TRIP_PULSE_END (R86) -/
  | tripPulseEnd (step : StepId)
  /-- CLOSE_CONFIRM_EXPIRY (R83, R84) -/
  | closeConfirmExpiry (step : StepId)
  /-- OPEN_CONFIRM_EXPIRY (R87) -/
  | openConfirmExpiry (step : StepId)
  /-- YARD_TRIP_END (R88) -/
  | yardTripEnd
  /-- SYNC_WAIT_EXPIRY (R80) -/
  | syncWaitExpiry
  /-- SETTLE_EXPIRY (R92) -/
  | settleExpiry
  /-- RESONANCE_WATCH_EXPIRY (R130) -/
  | resonanceWatchExpiry
  /-- NOT_BEFORE_ELAPSED (R164) -/
  | notBeforeElapsed (slot : SlotId)
  /-- DEADLINE_EXPIRY (R164) -/
  | deadlineExpiry (slot : SlotId)
  /-- INPUT_LEVEL_CHANGE (R179): the input and the level it has shown on four ticks -/
  | inputLevelChange (line : InputLine) (level : Bool)
  /-- FRAME_ABORT (R189): how many bits were clocked before select was deasserted -/
  | frameAbort (bits : Nat)
  /-- FILLER_FRAME (R191) -/
  | fillerFrame
  /-- RESPONSE_LOAD (R190) -/
  | responseLoad
  /-- BAD_CODE (R192): a complete frame whose code names no request -/
  | badCode (code tag : Byte)
  /-- POLL (R193) -/
  | poll (tag : Byte)
  /-- READ_IDENT (R193) -/
  | readIdent (tag : Byte)
  /-- READ_STEP (R194) -/
  | readStep (tag step page : Byte)
  /-- READ_CHANNEL (R194) -/
  | readChannel (tag channel page : Byte)
  /-- READ_YARD (R195) -/
  | readYard (tag page : Byte)
  /-- READ_SETTING (R196) -/
  | readSetting (tag ident : Byte)
  /-- WRITE_SETTING (R196) -/
  | writeSetting (tag ident : Byte) (value : Word)
  /-- READ_STEP_SETTING (R196) -/
  | readStepSetting (tag step ident : Byte)
  /-- WRITE_STEP_SETTING (R196) -/
  | writeStepSetting (tag step ident : Byte) (value : Word)
  /-- DEFAULT_SETTINGS (R197) -/
  | defaultSettings (tag : Byte)
  /-- SET_MODE (R198) -/
  | setMode (tag mode : Byte)
  /-- READ_ALARM (R200) -/
  | readAlarm (tag index : Byte)
  /-- ACK_ALARM (R201) -/
  | ackAlarm (tag kind subject : Byte)
  /-- ACK_ALL (R201) -/
  | ackAll (tag : Byte)
  /-- TAKE_SLOT (R157) -/
  | takeSlot (tag : Byte)
  /-- FILL_ORDER (R158) -/
  | fillOrder (tag slot generation kind step timing : Byte) (notBefore deadline : Half)
  /-- POST_ORDER (R159) -/
  | postOrder (tag slot generation : Byte)
  /-- WITHDRAW_ORDER (R160) -/
  | withdrawOrder (tag slot generation : Byte)
  /-- RETIRE_ORDER (R161) -/
  | retireOrder (tag slot generation : Byte)
  /-- READ_ORDER (R162): mode 0 by handle, 1 by slot number -/
  | readOrder (tag mode slot generation page : Byte)
  /-- STAGE_LINES (R184) -/
  | stageLines (tag step close trip : Byte)
  /-- HANDOVER (R185) -/
  | handover (tag step : Byte)
  /-- DRIVE_LINES (R186) -/
  | driveLines (tag step close trip : Byte)
  /-- RETURN_LINES (R187) -/
  | returnLines (tag step : Byte)
  /-- READ_LINES (R188) -/
  | readLines (tag : Byte)
  /-- FIRST_FRAME_SYNC (R1) -/
  | firstFrameSync
  deriving DecidableEq, Repr

end Sys2Proof
end

