-- ==== Sys2Proof/Machine/State.lean ====
section
/-! DEFINITION. The state of the YC-8 as plain data, block by block as spec/00_scope.md section 0.4
lists the owners, and the state right after reset. Fields that exist under a condition only (a fault
cause, a lockout reason) are carried by the value that makes the condition true. -/

namespace Sys2Proof.Machine

/-! ### Sample link receiver (chapter 1) -/

/-- The frame being assembled (R1, R17): bits so far, at most 256, and the mark of a 257th bit. -/
structure FrameAssembly where
  bits : Nat
  tooLong : Bool
  deriving DecidableEq, Repr

/-- The standing of the measurements as a whole (R9). -/
inductive MeasState where
  | noSync
  | valid
  | holding
  | stale
  deriving DecidableEq, Repr

/-- A settled switch position (R12). NONE is the absent position. -/
inductive Position where
  | opened
  | closed
  | invalid
  deriving DecidableEq, Repr

/-- The debounce record of a step (R13). -/
structure Debounce where
  delivered : Option Position
  candidate : Option Position
  repeats : Nat
  deriving DecidableEq, Repr

/-- The 14 samples of one frame (R2). -/
abbrev Samples := Vector Half 14

/-- Why a window failed (R7, R8). -/
inductive WindowFailure where
  | short
  | invalid
  | frameError
  | timeout
  deriving DecidableEq, Repr

/-- A window end on its way to the consumers (R11): a good window with its 32 frames and the frame
number and wave position of the frame end that completed it, or a failed one with its cause. -/
inductive WindowEnd where
  | good (frames : List Samples) (frameNumber : Word) (wave : BitVec 5)
  | failed (cause : WindowFailure)
  deriving DecidableEq, Repr

/-- The window end the consumers are evaluating: whether it is good, and which of voltage control, the
harmonic supervisor and the unbalance unit have still to evaluate it (R11). -/
structure InHand where
  good : Bool
  vc : Bool
  hs : Bool
  ub : Bool
  deriving DecidableEq, Repr

/-- The sample link receiver. -/
structure Receiver where
  /-- none until the first frame sync after reset release (R1) -/
  assembly : Option FrameAssembly
  frameNumber : Word
  wave : BitVec 5
  /-- the frames gathered so far; the last stands at position `length - 1` (R5, R6) -/
  window : Option (List Samples)
  failedCount : Nat
  meas : MeasState
  /-- ticks left of the window timer, which always runs (R8) -/
  windowTimer : Nat
  debounce : Vector Debounce 8
  feedLive : Bool
  /-- ticks left of the feed timer; none while it is stopped (R15) -/
  feedTimer : Option Nat
  ends : List WindowEnd
  inHand : Option InHand
  deriving DecidableEq, Repr

/-! ### Measurement unit (chapter 2) -/

/-- A channel table entry (R18); channel and kind follow from the index. `d = none` is UNDEFINED. -/
structure ChanEntry where
  re : Int
  im : Int
  m : Nat
  r : Nat
  f : Nat
  h : Nat
  d : Option Nat
  p : Nat
  pk : Nat
  clipped : Bool
  age : Nat
  deriving DecidableEq, Repr

/-- The window under computation with its nominal snapshot (R20). -/
structure Computation where
  frames : List Samples
  voltageNominal : Nat
  currentNominal : Nat
  deriving DecidableEq, Repr

/-- The measurement unit. -/
structure Measurement where
  entries : Vector ChanEntry 14
  computing : Option Computation
  deriving DecidableEq, Repr

/-! ### Step table (chapter 3) -/

/-- Why a step is FAULTED (R37). -/
inductive FaultCause where
  | positionInvalid
  | noIndication
  | switchFailure
  deriving DecidableEq, Repr

/-- The step states of section 3.2; FAULTED carries its cause. -/
inductive StepState where
  | absent
  | unknown
  | opened
  | closing
  | closed
  | opening
  | faulted (cause : FaultCause)
  deriving DecidableEq, Repr

/-- The cause that set LOCKOUT (R37). -/
inductive LockoutReason where
  | unbalance
  | closeFailure
  | switchFailure
  deriving DecidableEq, Repr

/-- Who last commanded the step's switch (R37, R48, R183). -/
inductive OpSource where
  | none
  | auto
  | order
  | protection
  | direct
  deriving DecidableEq, Repr

/-- The fields of a step record the step table owns (R37). The block set is `cooling`, `holdoff`,
`lockout` (present with its reason) and `hold`. -/
structure StepRec where
  fitted : Bool
  retired : Bool
  state : StepState
  indicated : Option Position
  cooling : Bool
  holdoff : Bool
  lockout : Option LockoutReason
  hold : Bool
  opCount : Nat
  suspect : Bool
  lastSource : OpSource
  deriving DecidableEq, Repr

/-- The step table: the eight records and the closed-order list, head first (R59). -/
structure StepTable where
  recs : Vector StepRec 8
  closedOrder : List StepId
  deriving DecidableEq, Repr

/-! ### Discharge timer unit (chapter 4) -/

/-- A step's countdowns in milliseconds and its holdoff arming. -/
structure DischargeTimer where
  cooldown : Nat
  holdoffMs : Nat
  arming : Bool
  deriving DecidableEq, Repr

/-! ### Switching sequencer and arbiter (chapter 5) -/

/-- How a close pulse is placed (section 5.1). -/
inductive Timing where
  | immediate
  | synchronized
  deriving DecidableEq, Repr

/-- The movement commanded; a close carries its timing. -/
inductive OpKind where
  | close (timing : Timing)
  | trip
  deriving DecidableEq, Repr

/-- Who asked for an operation. -/
inductive Requester where
  | vc
  | oe
  | protection
  deriving DecidableEq, Repr

/-- Where an operation stands. -/
inductive Phase where
  | awaitingValid
  | scheduled
  | inMotion
  deriving DecidableEq, Repr

/-- An operation record (section 5.1). -/
structure Operation where
  kind : OpKind
  source : Requester
  phase : Phase
  underRight : Bool
  deriving DecidableEq, Repr

/-- What the sequencer holds for one step: pulse times in milliseconds, 0 when inactive, and the
confirm timer, none when stopped. -/
structure Lane where
  op : Option Operation
  closePulse : Nat
  tripPulse : Nat
  confirm : Option Nat
  deriving DecidableEq, Repr

/-- The synchronized schedule (R79). -/
structure Schedule where
  pulseFrame : Word
  step : StepId
  deriving DecidableEq, Repr

/-- The switching sequencer. `syncWait` is none when stopped; `some 0` is the expired timer of a close
that is still SCHEDULED (R80). -/
structure Sequencer where
  lanes : Vector Lane 8
  schedule : Option Schedule
  syncWait : Option Nat
  yardTrip : Nat
  deriving DecidableEq, Repr

/-- The holder of the switching right (R92). -/
inductive Holder where
  | none
  | vc
  | oe
  deriving DecidableEq, Repr

/-- Whether the right is busy; SETTLING carries the settle remaining in milliseconds (R92). -/
inductive Busy where
  | notBusy
  | inOperation
  | settling (remaining : Nat)
  deriving DecidableEq, Repr

/-- The pending request of voltage control with its urgent flag (R92, R93). -/
inductive VcPending where
  | absent
  | ordinary
  | urgent
  deriving DecidableEq, Repr

/-- The switching arbiter (R92). -/
structure Arbiter where
  holder : Holder
  busy : Busy
  vcRequest : VcPending
  oeRequest : Bool
  deriving DecidableEq, Repr

/-! ### Voltage control (chapter 6) -/

/-- What voltage control is asking of the right, or doing under it (R105). -/
inductive VcRequestState where
  | idle
  | addPending
  | removePending
  | fastPending
  | operating
  | addBlocked
  deriving DecidableEq, Repr

/-- The voltage control unit. `auto` is the mode: AUTO when set, MANUAL when clear. `lowReached` and
`highReached` say that an accumulator has reached its delay, judged at its last update (R101); `bandLow` and
`bandHigh` are the band in force, which is the one of the last good window evaluated (R116, log 34). -/
structure VoltageControl where
  auto : Bool
  vctrl : Nat
  lowAcc : Nat
  highAcc : Nat
  lowReached : Bool
  highReached : Bool
  bandLow : Nat
  bandHigh : Nat
  fastAcc : Nat
  fastCondition : Bool
  fastDue : Bool
  deadAcc : Nat
  deadOpened : Bool
  request : VcRequestState
  noCandidate : Bool
  deriving DecidableEq, Repr

/-! ### Harmonic supervisor (chapter 7) -/

/-- The pulse snapshot (R127); `dv = none` is UNDEFINED. -/
structure Snapshot where
  step : StepId
  dv : Option Nat
  deriving DecidableEq, Repr

/-- An open resonance watch (R128), its remaining time in milliseconds. -/
structure Watch where
  step : StepId
  dvBefore : Nat
  remaining : Nat
  deriving DecidableEq, Repr

/-- The harmonic supervisor; DV and DI are none while UNDEFINED. -/
structure Harmonic where
  dv : Option Nat
  di : Option Nat
  vCount : Nat
  iCount : Nat
  vActive : Bool
  iActive : Bool
  tripCount : Nat
  shedding : Bool
  snapshot : Option Snapshot
  watch : Option Watch
  deriving DecidableEq, Repr

/-! ### Unbalance protection unit (chapter 8) -/

/-- A learning in progress (R148). -/
structure Learning where
  count : Nat
  sumRe : Int
  sumIm : Int
  deriving DecidableEq, Repr

/-- What the unbalance protection unit holds for one step. `departed`: the step has left CLOSED since the
publication of the good window end that the unit has still to evaluate, and the unit takes that departure after the
window end (R138, R150, log 37). -/
structure Unbalance where
  armed : Bool
  armCount : Nat
  alarmCount : Nat
  alarmActive : Bool
  tripTiming : Bool
  tripCount : Nat
  tripped : Bool
  lastU : Nat
  learning : Option Learning
  departed : Bool
  deriving DecidableEq, Repr

/-! ### Order engine (chapter 9) -/

/-- The lifecycle state of an order slot (R155). -/
inductive SlotState where
  | free
  | draft
  | posted
  | executing
  | finished
  deriving DecidableEq, Repr

/-- How an order ended (R154). -/
inductive OrderOutcome where
  | done
  | refused
  | expired
  | withdrawn
  | failed
  | preempted
  deriving DecidableEq, Repr

/-- Why an order or an operation ended so (R75, R154). -/
inductive Reason where
  | absent
  | unknownPosition
  | notOpen
  | notClosed
  | retired
  | inService
  | lockout
  | notLocked
  | linesDirect
  | faulted
  | noSync
  | noIndication
  | position
  | interrupted
  | inhibit
  deriving DecidableEq, Repr

/-- An order slot (R154). Kind, step and timing are the codes as written; the timers hold the
milliseconds left, none when stopped or elapsed (R164). -/
structure Slot where
  generation : Byte
  state : SlotState
  kind : Byte
  step : Byte
  timing : Byte
  notBefore : Nat
  deadline : Nat
  postedAt : Option Word
  outcome : Option OrderOutcome
  reason : Option Reason
  finishedAt : Option Word
  notBeforeTimer : Option Nat
  deadlineTimer : Option Nat
  deriving DecidableEq, Repr

/-- The order engine. `executing` names the slot of the EXECUTING order; none is IDLE. -/
structure OrderEngine where
  slots : Vector Slot 32
  freeQueue : List SlotId
  posted : List SlotId
  executing : Option SlotId
  deriving DecidableEq, Repr

/-! ### Input and line-ownership unit (chapter 10) -/

/-- A yard input: its pin, its filtered level and its filter (R179). -/
structure InputFilter where
  pin : Bool
  level : Bool
  candidate : Option Bool
  count : Nat
  deriving DecidableEq, Repr

/-- The line owner of a step (DIRECT when `direct`), its staged and its direct levels (R183). -/
structure LineState where
  direct : Bool
  stagedClose : Bool
  stagedTrip : Bool
  directClose : Bool
  directTrip : Bool
  deriving DecidableEq, Repr

/-- The input and line-ownership unit. -/
structure Inputs where
  strap : BitVec 3
  inp0 : InputFilter
  inp1 : InputFilter
  inp2 : InputFilter
  lines : Vector LineState 8
  deriving DecidableEq, Repr

/-! ### Station link interface (chapter 11) -/

/-- The status codes of R192. -/
inductive Status where
  | ok
  | clamped
  | noneToGive
  | badCode
  | badArg
  | staleHandle
  | wrongState
  | tooLate
  | inconsistent
  | notPermitted
  | notReady
  deriving DecidableEq, Repr

/-- A response frame: code, tag, status byte (status and overrun bit) and 13 data bytes (R192, R204). -/
structure Response where
  code : Byte
  tag : Byte
  status : Status
  overrun : Bool
  data : List Byte
  deriving DecidableEq, Repr

/-- The alarm kinds of section 11.9.6. -/
inductive AlarmKind where
  | resonance
  | unbalanceAlarm
  | unbalanceTrip
  | closeFail
  | switchFail
  | positionInvalid
  | uncommandedOpen
  | uncommandedClose
  | channelClipped
  | measLost
  | harmAlarmV
  | harmAlarmI
  | harmTrip
  | deadBusOpen
  | fastOv
  | emergencyOpen
  | permitLost
  deriving DecidableEq, Repr

/-- The subject of an alarm entry (R199). -/
inductive Subject where
  | step (i : StepId)
  | channel (c : ChanId)
  | yard
  deriving DecidableEq, Repr

/-- An entry of the alarm set (R199). `cooldownCut` is the detail COOLDOWN_CUT. -/
structure AlarmEntry where
  kind : AlarmKind
  subject : Subject
  raisedAt : Word
  acked : Bool
  cause : Bool
  cooldownCut : Bool
  deriving DecidableEq, Repr

/-- The station link interface. `ignoring`: a frame whose select was already asserted at the last release is
still in progress, and is ignored whole (R203, log 36). `dataOut` is the model's own record of the bits shifted
out in the last frame, the first one first (log 8). -/
structure Link where
  rxBytes : Nat
  rxBits : Nat
  tx : Response
  composed : Option Response
  ready : Bool
  overrun : Bool
  pubCount : Byte
  alarms : List AlarmEntry
  ignoring : Bool
  dataOut : List Bool
  deriving DecidableEq, Repr

/-! ### Settings store (section 11.4.1) -/

/-- The yard settings. -/
structure YardSettings where
  nominalFrequency : Nat
  voltageNominal : Nat
  currentNominal : Nat
  controlQuantity : Nat
  bandLow : Nat
  bandHigh : Nat
  delayIn : Nat
  delayOut : Nat
  margin : Nat
  sensitivity : Nat
  fastLevel : Nat
  fastDelay : Nat
  deadLevel : Nat
  deadDelay : Nat
  dvAlarm : Nat
  dvTrip : Nat
  diAlarm : Nat
  harmAlarmDelay : Nat
  harmTripDelay : Nat
  shedInterval : Nat
  resonanceWindow : Nat
  resonanceRise : Nat
  harmHoldoff : Nat
  settleClose : Nat
  settleOpen : Nat
  closePulse : Nat
  tripPulse : Nat
  confirmTime : Nat
  syncWait : Nat
  backupPulse : Nat
  deriving DecidableEq, Repr

/-- The per-step settings 0 to 9. -/
structure StepSettings where
  rating : Nat
  dischargeTime : Nat
  mechTime : Nat
  neutralRated : Nat
  unbAlarm : Nat
  unbAlarmDelay : Nat
  unbTrip : Nat
  unbTripDelay : Nat
  baselineRe : Int
  baselineIm : Int
  deriving DecidableEq, Repr

/-- The settings store. -/
structure Settings where
  yard : YardSettings
  perStep : Vector StepSettings 8
  deriving DecidableEq, Repr

/-- The time base: whole seconds since reset, wrapping, and the milliseconds of the running second
(R193). -/
structure Clock where
  seconds : Word
  ms : Nat
  deriving DecidableEq, Repr

/-! ### The machine -/

/-- Reasons to stop with a fault. There are none: the part answers, acts or stays as it is. -/
inductive Fault where
  deriving DecidableEq, Repr

/-- Reasons to refuse. -/
inductive Refusal where
  /-- Raised by an arm of `exec` whose command has no meaning yet; safe. No arm uses it. -/
  | notModelled (mnemonic : String)
  deriving DecidableEq, Repr

/-- The state of the part. `pending` is the queue of commands that wait; `freeDraws` counts the free
data bytes drawn (log 9); `extraBits` holds how many bits the master clocks after the sixteenth byte in each of
the coming complete frames, none where the list has ended (log 35). -/
structure State where
  resetHeld : Bool
  clock : Clock
  rx : Receiver
  mu : Measurement
  tbl : StepTable
  dt : Vector DischargeTimer 8
  seq : Sequencer
  arb : Arbiter
  vc : VoltageControl
  hs : Harmonic
  ub : Vector Unbalance 8
  oe : OrderEngine
  io : Inputs
  link : Link
  cfg : Settings
  freeDraws : Nat
  extraBits : List Nat
  pending : List Instr
  deriving DecidableEq, Repr

/-! ### Reset values -/

/-- R17. -/
def Receiver.released : Receiver where
  assembly := none
  frameNumber := 0
  wave := 0
  window := none
  failedCount := 0
  meas := .noSync
  windowTimer := 40
  debounce := Vector.replicate 8 ⟨none, none, 0⟩
  feedLive := false
  feedTimer := none
  ends := []
  inHand := none

/-- R19. -/
def ChanEntry.released : ChanEntry := ⟨0, 0, 0, 0, 0, 0, none, 0, 0, false, 255⟩

/-- R38: the record of a step under a strap code. -/
def StepRec.released (strap : BitVec 3) (i : StepId) : StepRec where
  fitted := decide (i.val ≤ strap.toNat)
  retired := false
  state := if i.val ≤ strap.toNat then .unknown else .absent
  indicated := none
  cooling := false
  holdoff := false
  lockout := none
  hold := false
  opCount := 0
  suspect := false
  lastSource := .none

/-- R97. -/
def Sequencer.released : Sequencer where
  lanes := Vector.replicate 8 ⟨none, 0, 0, none⟩
  schedule := none
  syncWait := none
  yardTrip := 0

/-- R118. -/
def VoltageControl.released : VoltageControl where
  auto := false
  vctrl := 0
  lowAcc := 0
  highAcc := 0
  lowReached := false
  highReached := false
  bandLow := 975
  bandHigh := 1035
  fastAcc := 0
  fastCondition := false
  fastDue := false
  deadAcc := 0
  deadOpened := false
  request := .idle
  noCandidate := false

/-- R135. -/
def Harmonic.released : Harmonic where
  dv := none
  di := none
  vCount := 0
  iCount := 0
  vActive := false
  iActive := false
  tripCount := 0
  shedding := false
  snapshot := none
  watch := none

/-- R153. -/
def Unbalance.released : Unbalance := ⟨false, 0, 0, false, false, 0, false, 0, none, false⟩

/-- A cleared record of generation `g` in state FREE (R154, R155). -/
def Slot.cleared (g : Byte) : Slot where
  generation := g
  state := .free
  kind := 0
  step := 0
  timing := 0
  notBefore := 0
  deadline := 0
  postedAt := none
  outcome := none
  reason := none
  finishedAt := none
  notBeforeTimer := none
  deadlineTimer := none

/-- R155, R177. -/
def OrderEngine.released : OrderEngine where
  slots := Vector.replicate 32 (Slot.cleared 0)
  freeQueue := allSlots
  posted := []
  executing := none

/-- R178: INP0 is the least significant bit of the strap code. -/
def Pins.strap (p : Pins) : BitVec 3 :=
  BitVec.ofNat 3 (p.inp0.toNat + 2 * p.inp1.toNat + 4 * p.inp2.toNat)

/-- R178, R179, R183: the pins at the release give the strap code and the first levels (log 11). -/
def Inputs.released (p : Pins) : Inputs where
  strap := Pins.strap p
  inp0 := ⟨p.inp0, p.inp0, none, 0⟩
  inp1 := ⟨p.inp1, p.inp1, none, 0⟩
  inp2 := ⟨p.inp2, p.inp2, none, 0⟩
  lines := Vector.replicate 8 ⟨false, false, false, false, false⟩

/-- The idle response of R203. -/
def Response.idle : Response := ⟨0, 0, .ok, false, List.replicate 13 0⟩

/-- R203. A frame whose select is already asserted at the release is to be ignored whole. -/
def Link.released (select : Bool) : Link where
  rxBytes := 0
  rxBits := 0
  tx := Response.idle
  composed := none
  ready := true
  overrun := false
  pubCount := 0
  alarms := []
  ignoring := select
  dataOut := []

/-- The defaults of the yard settings (section 11.4.1). -/
def YardSettings.default : YardSettings where
  nominalFrequency := 50
  voltageNominal := 10240
  currentNominal := 8000
  controlQuantity := 0
  bandLow := 975
  bandHigh := 1035
  delayIn := 30
  delayOut := 30
  margin := 5
  sensitivity := 8
  fastLevel := 1080
  fastDelay := 25
  deadLevel := 300
  deadDelay := 50
  dvAlarm := 50
  dvTrip := 100
  diAlarm := 150
  harmAlarmDelay := 250
  harmTripDelay := 100
  shedInterval := 100
  resonanceWindow := 10
  resonanceRise := 15
  harmHoldoff := 600
  settleClose := 5
  settleOpen := 1
  closePulse := 100
  tripPulse := 100
  confirmTime := 500
  syncWait := 2000
  backupPulse := 500

/-- The defaults of the per-step settings (section 11.4.1). -/
def StepSettings.default : StepSettings where
  rating := 100
  dischargeTime := 300
  mechTime := 40
  neutralRated := 2000
  unbAlarm := 50
  unbAlarmDelay := 250
  unbTrip := 120
  unbTripDelay := 25
  baselineRe := 0
  baselineIm := 0

/-- The settings store at its defaults (R197, R203). -/
def Settings.default : Settings := ⟨YardSettings.default, Vector.replicate 8 StepSettings.default⟩

/-- The state right after a release of RESET with the given pins (R17, R36, R38, R63, R74, R97, R118,
R135, R153, R177, R178, R179, R183, R203). -/
def State.released (p : Pins) : State where
  resetHeld := false
  clock := ⟨0, 0⟩
  rx := Receiver.released
  mu := ⟨Vector.replicate 14 ChanEntry.released, none⟩
  tbl := ⟨Vector.ofFn (StepRec.released (Pins.strap p)), []⟩
  dt := Vector.replicate 8 ⟨0, 0, false⟩
  seq := Sequencer.released
  arb := ⟨.none, .notBusy, .absent, false⟩
  vc := VoltageControl.released
  hs := Harmonic.released
  ub := Vector.replicate 8 Unbalance.released
  oe := OrderEngine.released
  io := Inputs.released p
  link := Link.released p.select
  cfg := Settings.default
  freeDraws := 0
  extraBits := []
  pending := []

/-- The machine right after reset, its three pins and select inactive: strap code 0, step 0 alone fitted.
DESIGN CHOICE for the pins, unsafe (log 10). -/
def State.reset : State := State.released ⟨false, false, false, false⟩

end Sys2Proof.Machine
end

