-- ==== Sys2Proof/Machine/Operands.lean ====
section
/-! DEFINITION. The operand forms of the requests and responses: big-endian bytes (R204), the codes of
section 11.9, clamping (R196), setting identifiers with their ranges (section 11.4.1), steps, slots,
levels and subjects as argument bytes, and the two 16-byte frames. -/

namespace Sys2Proof.Machine

/-! ### Bytes -/

/-- The low byte of a natural number. -/
def byteOf (n : Nat) : Byte := BitVec.ofNat 8 n

/-- Two bytes, most significant first (R204). -/
def be16 (n : Nat) : List Byte := [byteOf (n / 256), byteOf n]

/-- Four bytes, most significant first (R204). -/
def be32 (n : Nat) : List Byte := [byteOf (n / 16777216), byteOf (n / 65536), byteOf (n / 256), byteOf n]

/-- Two bytes of a signed number in two's complement (R204). -/
def sbe16 (x : Int) : List Byte := be16 (BitVec.ofInt 16 x).toNat

/-- Four bytes of a signed number in two's complement (R204). -/
def sbe32 (x : Int) : List Byte := be32 (BitVec.ofInt 32 x).toNat

/-- A big-endian 16-bit number from its two bytes. -/
def half16 (hi lo : Byte) : Half := hi ++ lo

/-- A big-endian 32-bit number from its four bytes. -/
def word32 (b3 b2 b1 b0 : Byte) : Word := b3 ++ b2 ++ (b1 ++ b0)

/-- Bit `k` of a byte when `b` holds, else 0. -/
def flagBit (k : Nat) (b : Bool) : Nat := if b then 2 ^ k else 0

/-- A level sent in 16 bits, 0xFFFF for UNDEFINED (11.9.5, 11.9.7). -/
def level16 : Option Nat → List Byte
  | some n => be16 n
  | none => [0xFF, 0xFF]

/-- Data bytes brought to 13: what a layout does not give is 0 (R192). -/
def pad13 (d : List Byte) : List Byte := (d ++ List.replicate 13 0).take 13

/-- The bits of a byte in the order they travel on the station link, the most significant first (R189). -/
def byteBits (b : Byte) : List Bool :=
  [b.getLsbD 7, b.getLsbD 6, b.getLsbD 5, b.getLsbD 4, b.getLsbD 3, b.getLsbD 2, b.getLsbD 1, b.getLsbD 0]

/-- The bits of a frame in the order they travel (R189). -/
def frameBits (bytes : List Byte) : List Bool := bytes.flatMap byteBits

/-- A byte from the bits of it that travelled, the most significant first (R189). -/
def byteOfBits (bits : List Bool) : Byte :=
  bits.foldl (fun a b => (a <<< 1) ||| (BitVec.ofBool b).setWidth 8) 0

/-- The first `n` whole bytes of the bits that travelled (R189). -/
def bytesOfBits : Nat → List Bool → List Byte
  | 0, _ => []
  | n + 1, bits => byteOfBits (bits.take 8) :: bytesOfBits n (bits.drop 8)

/-- `n` data bytes the manual gives no value for, from draw `k` (log 9). -/
def unstated (k n : Nat) : List Byte := (List.range n).map (Config.unstatedByte k)

/-- `n` bits shifted out that the manual gives no value for, from draw `k` (log 36). -/
def unstatedBits (k n : Nat) : List Bool := (frameBits (unstated k n)).take n

/-! ### Clamping and rounding -/

/-- A value brought within a range (R196). -/
def clampInt (lo hi v : Int) : Int := if v < lo then lo else if hi < v then hi else v

/-- CLAMPED when the value was changed, OK otherwise (R196). -/
def clampStatus (given stored : Int) : Status := if given = stored then .ok else .clamped

/-- Milliseconds in whole seconds, rounded up (R67, R72). -/
def secondsUp (ms : Nat) : Nat := (ms + 999) / 1000

/-! ### Steps, slots, levels -/

/-- A step named by a byte; none above 7. -/
def stepOfByte (b : Byte) : Option StepId := if h : b.toNat < 8 then some ⟨b.toNat, h⟩ else none

/-- A slot named by a byte; none above 31 (R156). -/
def slotOfByte (b : Byte) : Option SlotId := if h : b.toNat < 32 then some ⟨b.toNat, h⟩ else none

/-- A channel named by a byte; none above 13 (R194). -/
def chanOfByte (b : Byte) : Option ChanId := if h : b.toNat < 14 then some ⟨b.toNat, h⟩ else none

/-- A line level: 0 inactive, 1 active, anything else refused (section 10.3). -/
def levelOfByte (b : Byte) : Option Bool := if b = 0 then some false else if b = 1 then some true else none

/-- The levels of STAGE_LINES and DRIVE_LINES: a valid step, two valid levels, not both active
(section 10.3). -/
def lineArgs (step close trip : Byte) : Option (StepId × Bool × Bool) :=
  match stepOfByte step, levelOfByte close, levelOfByte trip with
  | some i, some c, some t => if c && t then none else some (i, c, t)
  | _, _, _ => none

/-- The neutral channel of a step (R2). -/
def neutralChannel (i : StepId) : ChanId := ⟨6 + i.val, by have := i.isLt; omega⟩

/-- The step whose neutral current a channel carries (R2); none for channels 0-5. -/
def stepOfChannel (c : ChanId) : Option StepId :=
  if h : 6 ≤ c.val then some ⟨c.val - 6, by have := c.isLt; omega⟩ else none

/-- Channel kinds (R18). -/
inductive ChannelKind where
  | voltage
  | yardCurrent
  | neutral
  deriving DecidableEq, Repr

/-- The kind of a channel is fixed by its number (R18). -/
def channelKind (c : ChanId) : ChannelKind :=
  if c.val < 3 then .voltage else if c.val < 6 then .yardCurrent else .neutral

/-! ### Order codes (11.9.8) -/

/-- The order kinds (R154). -/
inductive OrderKind where
  | closeStep
  | openStep
  | hold
  | release
  | resetLockout
  | learnBaseline
  | retireStep
  | reinstateStep
  deriving DecidableEq, Repr

/-- The order kind a code names; none for code 0 and unknown codes. -/
def orderKindOf (b : Byte) : Option OrderKind :=
  match b.toNat with
  | 1 => some .closeStep
  | 2 => some .openStep
  | 3 => some .hold
  | 4 => some .release
  | 5 => some .resetLockout
  | 6 => some .learnBaseline
  | 7 => some .retireStep
  | 8 => some .reinstateStep
  | _ => none

/-- The timing a code names. -/
def timingOf (b : Byte) : Option Timing :=
  if b = 0 then some .immediate else if b = 1 then some .synchronized else none

/-- The kinds that need the switching right (R166). -/
def OrderKind.switching : OrderKind → Bool
  | .closeStep => true
  | .openStep => true
  | _ => false

/-- Code of a slot state (11.9.8). -/
def slotStateCode : SlotState → Nat
  | .free => 0
  | .draft => 1
  | .posted => 2
  | .executing => 3
  | .finished => 4

/-- Code of an outcome (11.9.8). -/
def outcomeCode : Option OrderOutcome → Nat
  | none => 0
  | some .done => 1
  | some .refused => 2
  | some .expired => 3
  | some .withdrawn => 4
  | some .failed => 5
  | some .preempted => 6

/-- Code of a reason (11.9.8). -/
def reasonCode : Option Reason → Nat
  | none => 0
  | some .absent => 1
  | some .unknownPosition => 2
  | some .notOpen => 3
  | some .notClosed => 4
  | some .retired => 5
  | some .inService => 6
  | some .lockout => 7
  | some .notLocked => 8
  | some .linesDirect => 9
  | some .faulted => 10
  | some .noSync => 11
  | some .noIndication => 12
  | some .position => 13
  | some .interrupted => 14
  | some .inhibit => 15

/-! ### Alarm codes (11.9.6) -/

/-- Code of an alarm kind. -/
def alarmCode : AlarmKind → Nat
  | .resonance => 1
  | .unbalanceAlarm => 2
  | .unbalanceTrip => 3
  | .closeFail => 4
  | .switchFail => 5
  | .positionInvalid => 6
  | .uncommandedOpen => 7
  | .uncommandedClose => 8
  | .channelClipped => 9
  | .measLost => 10
  | .harmAlarmV => 11
  | .harmAlarmI => 12
  | .harmTrip => 13
  | .deadBusOpen => 14
  | .fastOv => 15
  | .emergencyOpen => 16
  | .permitLost => 17

/-- The alarm kind a code names. -/
def alarmKindOf (b : Byte) : Option AlarmKind :=
  match b.toNat with
  | 1 => some .resonance
  | 2 => some .unbalanceAlarm
  | 3 => some .unbalanceTrip
  | 4 => some .closeFail
  | 5 => some .switchFail
  | 6 => some .positionInvalid
  | 7 => some .uncommandedOpen
  | 8 => some .uncommandedClose
  | 9 => some .channelClipped
  | 10 => some .measLost
  | 11 => some .harmAlarmV
  | 12 => some .harmAlarmI
  | 13 => some .harmTrip
  | 14 => some .deadBusOpen
  | 15 => some .fastOv
  | 16 => some .emergencyOpen
  | 17 => some .permitLost
  | _ => none

/-- What kind of subject an alarm kind has (11.9.6): 0 a step, 1 a channel, 2 none. -/
def subjectClass : AlarmKind → Nat
  | .resonance | .unbalanceAlarm | .unbalanceTrip | .closeFail | .switchFail
  | .positionInvalid | .uncommandedOpen | .uncommandedClose => 0
  | .channelClipped => 1
  | _ => 2

/-- The subject a byte names for a kind; none when it does not fit (R201). -/
def subjectOf (k : AlarmKind) (b : Byte) : Option Subject :=
  match subjectClass k with
  | 0 => (stepOfByte b).map Subject.step
  | 1 => (chanOfByte b).map Subject.channel
  | _ => if b = 0xFF then some .yard else none

/-- The byte of a subject (11.9.6). -/
def subjectByte : Subject → Byte
  | .step i => byteOf i.val
  | .channel c => byteOf c.val
  | .yard => 0xFF

/-! ### Status and response frames (R192, R204) -/

/-- Status codes of R192. -/
def statusCode : Status → Nat
  | .ok => 0
  | .clamped => 1
  | .noneToGive => 2
  | .badCode => 3
  | .badArg => 4
  | .staleHandle => 5
  | .wrongState => 6
  | .tooLate => 7
  | .inconsistent => 8
  | .notPermitted => 9
  | .notReady => 10

/-- The status byte: code in bits 3 to 0, overrun in bit 7 (R204). -/
def statusByte (st : Status) (overrun : Bool) : Byte := byteOf (statusCode st + flagBit 7 overrun)

/-- The 16 bytes of a response frame (R192). -/
def responseBytes (r : Response) : List Byte := r.code :: r.tag :: statusByte r.status r.overrun :: pad13 r.data

/-- The 128 bits of a response frame (R189, R192). -/
def responseBits (r : Response) : List Bool := frameBits (responseBytes r)

/-- The filler response of R191. -/
def fillerResponse : Response := ⟨0, 0, .notReady, false, List.replicate 13 0⟩

/-! ### Setting identifiers (section 11.4.1) -/

/-- The yard settings by name. -/
inductive YardId where
  | nominalFrequency
  | voltageNominal
  | currentNominal
  | controlQuantity
  | bandLow
  | bandHigh
  | delayIn
  | delayOut
  | margin
  | sensitivity
  | fastLevel
  | fastDelay
  | deadLevel
  | deadDelay
  | dvAlarm
  | dvTrip
  | diAlarm
  | harmAlarmDelay
  | harmTripDelay
  | shedInterval
  | resonanceWindow
  | resonanceRise
  | harmHoldoff
  | settleClose
  | settleOpen
  | closePulse
  | tripPulse
  | confirmTime
  | syncWait
  | backupPulse
  deriving DecidableEq, Repr

/-- The yard setting an identifier names. -/
def yardIdOf (b : Byte) : Option YardId :=
  match b.toNat with
  | 0x01 => some .nominalFrequency
  | 0x02 => some .voltageNominal
  | 0x03 => some .currentNominal
  | 0x10 => some .controlQuantity
  | 0x11 => some .bandLow
  | 0x12 => some .bandHigh
  | 0x13 => some .delayIn
  | 0x14 => some .delayOut
  | 0x15 => some .margin
  | 0x16 => some .sensitivity
  | 0x17 => some .fastLevel
  | 0x18 => some .fastDelay
  | 0x19 => some .deadLevel
  | 0x1A => some .deadDelay
  | 0x30 => some .dvAlarm
  | 0x31 => some .dvTrip
  | 0x32 => some .diAlarm
  | 0x33 => some .harmAlarmDelay
  | 0x34 => some .harmTripDelay
  | 0x35 => some .shedInterval
  | 0x36 => some .resonanceWindow
  | 0x37 => some .resonanceRise
  | 0x38 => some .harmHoldoff
  | 0x40 => some .settleClose
  | 0x41 => some .settleOpen
  | 0x42 => some .closePulse
  | 0x43 => some .tripPulse
  | 0x44 => some .confirmTime
  | 0x45 => some .syncWait
  | 0x46 => some .backupPulse
  | _ => none

/-- Lower and upper limit of a yard setting (section 11.4.1). -/
def yardRange : YardId → Nat × Nat
  | .nominalFrequency => (50, 60)
  | .voltageNominal => (1000, 23000)
  | .currentNominal => (1000, 23000)
  | .controlQuantity => (0, 1)
  | .bandLow => (850, 1150)
  | .bandHigh => (850, 1150)
  | .delayIn => (1, 300)
  | .delayOut => (1, 300)
  | .margin => (0, 50)
  | .sensitivity => (1, 200)
  | .fastLevel => (1000, 1300)
  | .fastDelay => (1, 250)
  | .deadLevel => (100, 800)
  | .deadDelay => (1, 500)
  | .dvAlarm => (10, 500)
  | .dvTrip => (20, 999)
  | .diAlarm => (10, 999)
  | .harmAlarmDelay => (1, 3000)
  | .harmTripDelay => (1, 3000)
  | .shedInterval => (10, 3000)
  | .resonanceWindow => (1, 60)
  | .resonanceRise => (5, 200)
  | .harmHoldoff => (0, 3600)
  | .settleClose => (1, 60)
  | .settleOpen => (0, 60)
  | .closePulse => (20, 500)
  | .tripPulse => (20, 500)
  | .confirmTime => (100, 2000)
  | .syncWait => (100, 5000)
  | .backupPulse => (100, 2000)

/-- The value a write of a yard setting would store (R196 step 1): clamped, NOMINAL_FREQUENCY to 50 or
60 (R16). -/
def yardClamp (y : YardId) (v : Int) : Nat :=
  match y with
  | .nominalFrequency => if v ≤ 55 then 50 else 60
  | y => (clampInt (yardRange y).1 (yardRange y).2 v).toNat

/-- The stored value of a yard setting. -/
def yardRead (c : YardSettings) : YardId → Nat
  | .nominalFrequency => c.nominalFrequency
  | .voltageNominal => c.voltageNominal
  | .currentNominal => c.currentNominal
  | .controlQuantity => c.controlQuantity
  | .bandLow => c.bandLow
  | .bandHigh => c.bandHigh
  | .delayIn => c.delayIn
  | .delayOut => c.delayOut
  | .margin => c.margin
  | .sensitivity => c.sensitivity
  | .fastLevel => c.fastLevel
  | .fastDelay => c.fastDelay
  | .deadLevel => c.deadLevel
  | .deadDelay => c.deadDelay
  | .dvAlarm => c.dvAlarm
  | .dvTrip => c.dvTrip
  | .diAlarm => c.diAlarm
  | .harmAlarmDelay => c.harmAlarmDelay
  | .harmTripDelay => c.harmTripDelay
  | .shedInterval => c.shedInterval
  | .resonanceWindow => c.resonanceWindow
  | .resonanceRise => c.resonanceRise
  | .harmHoldoff => c.harmHoldoff
  | .settleClose => c.settleClose
  | .settleOpen => c.settleOpen
  | .closePulse => c.closePulse
  | .tripPulse => c.tripPulse
  | .confirmTime => c.confirmTime
  | .syncWait => c.syncWait
  | .backupPulse => c.backupPulse

/-- The yard settings with one value stored. -/
def yardWrite (c : YardSettings) (y : YardId) (v : Nat) : YardSettings :=
  match y with
  | .nominalFrequency => { c with nominalFrequency := v }
  | .voltageNominal => { c with voltageNominal := v }
  | .currentNominal => { c with currentNominal := v }
  | .controlQuantity => { c with controlQuantity := v }
  | .bandLow => { c with bandLow := v }
  | .bandHigh => { c with bandHigh := v }
  | .delayIn => { c with delayIn := v }
  | .delayOut => { c with delayOut := v }
  | .margin => { c with margin := v }
  | .sensitivity => { c with sensitivity := v }
  | .fastLevel => { c with fastLevel := v }
  | .fastDelay => { c with fastDelay := v }
  | .deadLevel => { c with deadLevel := v }
  | .deadDelay => { c with deadDelay := v }
  | .dvAlarm => { c with dvAlarm := v }
  | .dvTrip => { c with dvTrip := v }
  | .diAlarm => { c with diAlarm := v }
  | .harmAlarmDelay => { c with harmAlarmDelay := v }
  | .harmTripDelay => { c with harmTripDelay := v }
  | .shedInterval => { c with shedInterval := v }
  | .resonanceWindow => { c with resonanceWindow := v }
  | .resonanceRise => { c with resonanceRise := v }
  | .harmHoldoff => { c with harmHoldoff := v }
  | .settleClose => { c with settleClose := v }
  | .settleOpen => { c with settleOpen := v }
  | .closePulse => { c with closePulse := v }
  | .tripPulse => { c with tripPulse := v }
  | .confirmTime => { c with confirmTime := v }
  | .syncWait => { c with syncWait := v }
  | .backupPulse => { c with backupPulse := v }

/-- Whether a value agrees with the settings it must agree with (R115, R132). -/
def yardConsistent (c : YardSettings) (y : YardId) (v : Nat) : Bool :=
  match y with
  | .bandLow => v + 20 ≤ c.bandHigh
  | .bandHigh => c.bandLow + 20 ≤ v && v < c.fastLevel
  | .fastLevel => c.bandHigh < v
  | .dvAlarm => v < c.dvTrip
  | .dvTrip => c.dvAlarm < v
  | _ => true

/-- The per-step settings by name; OPERATION_COUNT is kept in the step record (R58). -/
inductive StepSettingId where
  | rating
  | dischargeTime
  | mechTime
  | neutralRated
  | unbAlarm
  | unbAlarmDelay
  | unbTrip
  | unbTripDelay
  | baselineRe
  | baselineIm
  | operationCount
  deriving DecidableEq, Repr

/-- The per-step setting an identifier names. -/
def stepSettingIdOf (b : Byte) : Option StepSettingId :=
  match b.toNat with
  | 0 => some .rating
  | 1 => some .dischargeTime
  | 2 => some .mechTime
  | 3 => some .neutralRated
  | 4 => some .unbAlarm
  | 5 => some .unbAlarmDelay
  | 6 => some .unbTrip
  | 7 => some .unbTripDelay
  | 8 => some .baselineRe
  | 9 => some .baselineIm
  | 10 => some .operationCount
  | _ => none

/-- Lower and upper limit of a per-step setting (section 11.4.1). -/
def stepRange : StepSettingId → Int × Int
  | .rating => (1, 1000)
  | .dischargeTime => (30, 900)
  | .mechTime => (0, 150)
  | .neutralRated => (100, 32767)
  | .unbAlarm => (1, 999)
  | .unbAlarmDelay => (0, 3000)
  | .unbTrip => (2, 999)
  | .unbTripDelay => (0, 500)
  | .baselineRe => (-32767, 32767)
  | .baselineIm => (-32767, 32767)
  | .operationCount => (0, 65535)

/-- The value a write of a per-step setting would store (R196 step 1). -/
def stepClamp (p : StepSettingId) (v : Int) : Int := clampInt (stepRange p).1 (stepRange p).2 v

/-- The stored value of a per-step setting; OPERATION_COUNT is given by the record's count. -/
def stepSettingRead (c : StepSettings) (opCount : Nat) : StepSettingId → Int
  | .rating => c.rating
  | .dischargeTime => c.dischargeTime
  | .mechTime => c.mechTime
  | .neutralRated => c.neutralRated
  | .unbAlarm => c.unbAlarm
  | .unbAlarmDelay => c.unbAlarmDelay
  | .unbTrip => c.unbTrip
  | .unbTripDelay => c.unbTripDelay
  | .baselineRe => c.baselineRe
  | .baselineIm => c.baselineIm
  | .operationCount => opCount

/-- The per-step settings with one value stored; OPERATION_COUNT is no setting of the store (R58). -/
def stepSettingWrite (c : StepSettings) (p : StepSettingId) (v : Int) : StepSettings :=
  match p with
  | .rating => { c with rating := v.toNat }
  | .dischargeTime => { c with dischargeTime := v.toNat }
  | .mechTime => { c with mechTime := v.toNat }
  | .neutralRated => { c with neutralRated := v.toNat }
  | .unbAlarm => { c with unbAlarm := v.toNat }
  | .unbAlarmDelay => { c with unbAlarmDelay := v.toNat }
  | .unbTrip => { c with unbTrip := v.toNat }
  | .unbTripDelay => { c with unbTripDelay := v.toNat }
  | .baselineRe => { c with baselineRe := v }
  | .baselineIm => { c with baselineIm := v }
  | .operationCount => c

/-- Whether a value agrees with the step's other level (R151). -/
def stepConsistent (c : StepSettings) (p : StepSettingId) (v : Int) : Bool :=
  match p with
  | .unbAlarm => decide (v < c.unbTrip)
  | .unbTrip => decide ((c.unbAlarm : Int) < v)
  | _ => true

end Sys2Proof.Machine
end

