-- ==== Sys2Proof/Decode.lean ====
section
/-! DEFINITION. The host's decoder over the table's bits, and the frames of the two links: a station link
frame read from its bits as a command and written from one (R189, R204, section 11.9.2), and the bits of a sample
frame (R2, section 11.9.1). -/

namespace Sys2Proof

/-- The command a word spells by the bits of spec/opcode_table.json. No row of the table gives bits, so
no word spells a command (log 28). -/
def decodeTableWord (_nbits _w : Nat) : Option Instr := none

/-! ### Station link frames -/

/-- Argument byte `k` of a request frame: frame byte `k + 2` (R192, R204). -/
def argByte (bytes : List Byte) (k : Nat) : Byte := bytes.getD (k + 2) 0

/-- A 16-bit argument (R204). -/
def argHalf (bytes : List Byte) (k : Nat) : Half := Machine.half16 (argByte bytes k) (argByte bytes (k + 1))

/-- A 32-bit argument (R204). -/
def argWord (bytes : List Byte) (k : Nat) : Word :=
  Machine.word32 (argByte bytes k) (argByte bytes (k + 1)) (argByte bytes (k + 2)) (argByte bytes (k + 3))

/-- The request of a complete frame by its code (section 11.9.2). -/
def decodeRequest (b : List Byte) : Instr :=
  let tag := b.getD 1 0
  let a := argByte b
  match (b.getD 0 0).toNat with
  | 0x01 => .poll tag
  | 0x02 => .readIdent tag
  | 0x03 => .readStep tag (a 0) (a 1)
  | 0x04 => .readChannel tag (a 0) (a 1)
  | 0x05 => .readYard tag (a 0)
  | 0x06 => .readSetting tag (a 0)
  | 0x07 => .writeSetting tag (a 0) (argWord b 1)
  | 0x08 => .readStepSetting tag (a 0) (a 1)
  | 0x09 => .writeStepSetting tag (a 0) (a 1) (argWord b 2)
  | 0x0A => .defaultSettings tag
  | 0x0B => .setMode tag (a 0)
  | 0x0C => .readAlarm tag (a 0)
  | 0x0D => .ackAlarm tag (a 0) (a 1)
  | 0x0E => .ackAll tag
  | 0x10 => .takeSlot tag
  | 0x11 => .fillOrder tag (a 0) (a 1) (a 2) (a 3) (a 4) (argHalf b 5) (argHalf b 7)
  | 0x12 => .postOrder tag (a 0) (a 1)
  | 0x13 => .withdrawOrder tag (a 0) (a 1)
  | 0x14 => .retireOrder tag (a 0) (a 1)
  | 0x15 => .readOrder tag (a 0) (a 1) (a 2) (a 3)
  | 0x20 => .stageLines tag (a 0) (a 1) (a 2)
  | 0x21 => .handover tag (a 0)
  | 0x22 => .driveLines tag (a 0) (a 1) (a 2)
  | 0x23 => .returnLines tag (a 0)
  | 0x24 => .readLines tag
  | _ => .badCode (b.getD 0 0) tag

/-- A station link frame by the bits it brought, the most significant of each byte first: partial below 16 whole
bytes, else the request in its first 16; what follows them is ignored (R189). -/
def decodeFrame (bits : List Bool) : Instr :=
  if bits.length < 128 then .frameAbort bits.length else decodeRequest (Machine.bytesOfBits 16 bits)

/-- A request frame: code, tag, arguments, the unused bytes 0. -/
def requestFrame (code tag : Byte) (args : List Byte) : List Byte :=
  code :: tag :: (args ++ List.replicate 14 0).take 14

/-- The two bytes of a 16-bit argument (R204). -/
def halfBytes (h : Half) : List Byte := [h.extractLsb' 8 8, h.extractLsb' 0 8]

/-- The four bytes of a 32-bit argument (R204). -/
def wordBytes (w : Word) : List Byte :=
  [w.extractLsb' 24 8, w.extractLsb' 16 8, w.extractLsb' 8 8, w.extractLsb' 0 8]

/-- The 16 bytes of the frame that carries a request, sent as `Machine.frameBits` gives; none for a command that
is no complete frame (section 11.9.2). -/
def encodeFrame : Instr → Option (List Byte)
  | .badCode code tag => some (requestFrame code tag [])
  | .poll tag => some (requestFrame 0x01 tag [])
  | .readIdent tag => some (requestFrame 0x02 tag [])
  | .readStep tag step page => some (requestFrame 0x03 tag [step, page])
  | .readChannel tag channel page => some (requestFrame 0x04 tag [channel, page])
  | .readYard tag page => some (requestFrame 0x05 tag [page])
  | .readSetting tag ident => some (requestFrame 0x06 tag [ident])
  | .writeSetting tag ident value => some (requestFrame 0x07 tag (ident :: wordBytes value))
  | .readStepSetting tag step ident => some (requestFrame 0x08 tag [step, ident])
  | .writeStepSetting tag step ident value => some (requestFrame 0x09 tag (step :: ident :: wordBytes value))
  | .defaultSettings tag => some (requestFrame 0x0A tag [])
  | .setMode tag mode => some (requestFrame 0x0B tag [mode])
  | .readAlarm tag index => some (requestFrame 0x0C tag [index])
  | .ackAlarm tag kind subject => some (requestFrame 0x0D tag [kind, subject])
  | .ackAll tag => some (requestFrame 0x0E tag [])
  | .takeSlot tag => some (requestFrame 0x10 tag [])
  | .fillOrder tag slot generation kind step timing notBefore deadline =>
    some (requestFrame 0x11 tag ([slot, generation, kind, step, timing] ++ halfBytes notBefore ++ halfBytes deadline))
  | .postOrder tag slot generation => some (requestFrame 0x12 tag [slot, generation])
  | .withdrawOrder tag slot generation => some (requestFrame 0x13 tag [slot, generation])
  | .retireOrder tag slot generation => some (requestFrame 0x14 tag [slot, generation])
  | .readOrder tag mode slot generation page => some (requestFrame 0x15 tag [mode, slot, generation, page])
  | .stageLines tag step close trip => some (requestFrame 0x20 tag [step, close, trip])
  | .handover tag step => some (requestFrame 0x21 tag [step])
  | .driveLines tag step close trip => some (requestFrame 0x22 tag [step, close, trip])
  | .returnLines tag step => some (requestFrame 0x23 tag [step])
  | .readLines tag => some (requestFrame 0x24 tag [])
  | _ => none

/-! ### Sample frames (R2, section 11.9.1) -/

/-- A 16-bit slot from its bits, bit 15 first. -/
def slotOfBits (bits : List Bool) : Half := bits.foldl (fun a b => (a <<< 1) ||| (BitVec.ofBool b).setWidth 16) 0

/-- A sample frame from the bits of the sample link: 16 slots of 16 bits, slot 0 first (R2). -/
def sampleFrameOf (bits : List Bool) : SampleFrame :=
  ⟨bits.length, Vector.ofFn fun k : Fin 16 => slotOfBits ((bits.drop (16 * k.val)).take 16)⟩

end Sys2Proof
end

