-- ==== Sys2Proof/Machine/Flags.lean ====
section
/-! DEFINITION. The flags and lines of the part: the alarm set with its notices and acknowledgements
(section 11.6), ATTN (R202), the command lines (R183, R88, R97), the two-level stages that alarm
counters follow (R121, R141), and the standing conditions other rules read. -/

namespace Sys2Proof.Machine

/-! ### The alarm set (R199 to R201) -/

/-- The kinds whose entry stays until acknowledged (R199). -/
def AlarmKind.latching : AlarmKind → Bool
  | .measLost | .harmAlarmV | .harmAlarmI | .unbalanceAlarm | .channelClipped | .positionInvalid => false
  | _ => true

/-- The kinds whose cause is present at the moment of raising only (R199). -/
def AlarmKind.momentary : AlarmKind → Bool
  | .uncommandedOpen | .uncommandedClose | .closeFail | .switchFail | .permitLost => true
  | _ => false

/-- Whether an entry is the one for a kind and subject. -/
def AlarmEntry.isFor (k : AlarmKind) (sub : Subject) (e : AlarmEntry) : Bool :=
  decide (e.kind = k) && decide (e.subject = sub)

/-- A raise notice applied to the alarm set (R199): an entry present has its acknowledged flag cleared,
its cause and detail renewed and its raised-at kept; otherwise a new entry joins at the tail. -/
def raiseIn (now : Word) (k : AlarmKind) (sub : Subject) (cut : Bool) (as : List AlarmEntry) : List AlarmEntry :=
  if as.any (AlarmEntry.isFor k sub) then
    as.map fun e =>
      if e.isFor k sub then { e with acked := false, cause := !k.momentary, cooldownCut := cut } else e
  else as ++ [⟨k, sub, now, false, !k.momentary, cut⟩]

/-- A cause-end notice applied to the alarm set (R199): a non-latching entry is removed, a latching one
has its cause marked ended. -/
def endCauseIn (k : AlarmKind) (sub : Subject) (as : List AlarmEntry) : List AlarmEntry :=
  if k.latching then as.map fun e => if e.isFor k sub then { e with cause := false } else e
  else as.filter fun e => !e.isFor k sub

/-- What acknowledging does to one entry (R201): a latching entry whose cause has ended leaves, any
other is marked. -/
def ackEntry (e : AlarmEntry) : Option AlarmEntry :=
  if e.kind.latching && !e.cause then none else some { e with acked := true }

/-- Acknowledgement of the entry for a kind and subject (R201). -/
def ackIn (k : AlarmKind) (sub : Subject) (as : List AlarmEntry) : List AlarmEntry :=
  as.filterMap fun e => if e.isFor k sub then ackEntry e else some e

/-- The number of unacknowledged entries (R200). -/
def unackedCount (as : List AlarmEntry) : Nat := as.countP fun e => !e.acked

/-- The alarm set of a state with a function applied to it. -/
def State.modAlarms (s : State) (f : List AlarmEntry → List AlarmEntry) : State :=
  { s with link.alarms := f s.link.alarms }

/-- A raise notice (R199) with no detail. -/
def raise (k : AlarmKind) (sub : Subject) (s : State) : State :=
  s.modAlarms (raiseIn s.clock.seconds k sub false)

/-- A raise notice of UNCOMMANDED_CLOSE with its detail (R43, R62). -/
def raiseCut (k : AlarmKind) (sub : Subject) (cut : Bool) (s : State) : State :=
  s.modAlarms (raiseIn s.clock.seconds k sub cut)

/-- A cause-end notice (R199). -/
def endCause (k : AlarmKind) (sub : Subject) (s : State) : State := s.modAlarms (endCauseIn k sub)

/-! ### ATTN, READY and the lines -/

/-- The number of FINISHED slots (R177, R193). -/
def finishedCount (s : State) : Nat := s.oe.slots.toList.countP fun o => decide (o.state = .finished)

/-- ATTN (R202, R203): an unacknowledged entry or a FINISHED slot; low while RESET is held. -/
def attn (s : State) : Bool :=
  !s.resetHeld && (decide (0 < unackedCount s.link.alarms) || decide (0 < finishedCount s))

/-- The CLOSE line of a step (R183); inactive while RESET is held (R97). -/
def closeLine (s : State) (i : StepId) : Bool :=
  !s.resetHeld &&
    if (look s.io.lines i).direct then (look s.io.lines i).directClose
    else decide (0 < (look s.seq.lanes i).closePulse)

/-- The TRIP line of a step (R183); inactive while RESET is held (R97). -/
def tripLine (s : State) (i : StepId) : Bool :=
  !s.resetHeld &&
    if (look s.io.lines i).direct then (look s.io.lines i).directTrip
    else decide (0 < (look s.seq.lanes i).tripPulse)

/-- The YARD TRIP line (R88, R97). -/
def yardTripLine (s : State) : Bool := !s.resetHeld && decide (0 < s.seq.yardTrip)

/-! ### Standing conditions -/

/-- CLOSE_INHIBIT is the level of INP0 (R180). -/
def closeInhibit (s : State) : Bool := s.io.inp0.level

/-- MAINT_PERMIT is the level of INP2 (R182). -/
def maintPermit (s : State) : Bool := s.io.inp2.level

/-- The dead condition is present while DEAD_ACC is above 0 (R111). -/
def deadCondition (v : VoltageControl) : Bool := decide (0 < v.deadAcc)

/-- The window end in hand, if a consumer has still to evaluate it and its figures are published: whether
it is good (R11, R21). -/
def dueFor (which : InHand → Bool) (s : State) : Option Bool :=
  match s.rx.inHand with
  | none => none
  | some h => if which h && s.mu.computing.isNone then some h.good else none

/-- DELAY_IN in cycles (R101). -/
def delayInCycles (c : YardSettings) : Nat := c.delayIn * c.nominalFrequency

/-- DELAY_OUT in cycles (R101). -/
def delayOutCycles (c : YardSettings) : Nat := c.delayOut * c.nominalFrequency

/-- The trip threshold of the harmonic supervisor (chapter 7). -/
def tripThreshold (c : YardSettings) (h : Harmonic) : Nat :=
  if h.shedding then c.shedInterval else c.harmTripDelay

/-- The drop-out of a stage: 95 per cent of its level, rounded down (R121, R141, R142). -/
def dropOut (level : Nat) : Nat := 95 * level / 100

/-- An alarm stage at a good window (R121, R141): its counter and its state after a level, which is
none when UNDEFINED. -/
def alarmStage (level : Option Nat) (setting delay count : Nat) (active : Bool) : Nat × Bool :=
  match level with
  | none => (count, active)
  | some x =>
    if setting ≤ x then
      let n := min (count + 1) delay
      (n, active || decide (n = delay))
    else if dropOut setting ≤ x then (count, active)
    else (0, false)

/-- The step is armed, with no departure from CLOSED that the unit has still to take (R137, R138, log 37). -/
def Unbalance.isArmed (u : Unbalance) : Bool := u.armed && !u.departed

/-- The unbalance stage shown in the step record (R144): 1 NORMAL, 2 ALARM_TIMING, 3 ALARM,
4 TRIP_TIMING, 5 TRIPPED (11.9.4). -/
def unbalanceStage (u : Unbalance) : Nat :=
  if u.tripped then 5 else if u.tripTiming then 4 else if u.alarmActive then 3
  else if 0 < u.alarmCount then 2 else 1

end Sys2Proof.Machine
end

