-- ==== Sys2Proof/Machine/Ops.lean ====
section
/-! DEFINITION. The named operations over the state that several commands share: updates of one step's,
lane's or slot's record, the ends of operations and orders (R75, R92, R108, R168), the blocks (R53),
the watch over a close that has not started its pulse (R77), and ONE operation for every change of a
step's state (`moveStep`: R41 to R52, R59, R64, R70, R71, R136, R138). -/

namespace Sys2Proof.Machine

/-! ### Records -/

/-- The record of a step. -/
def State.stepRec (s : State) (i : StepId) : StepRec := look s.tbl.recs i

/-- The sequencer's lane of a step. -/
def State.lane (s : State) (i : StepId) : Lane := look s.seq.lanes i

/-- The discharge timers of a step. -/
def State.timers (s : State) (i : StepId) : DischargeTimer := look s.dt i

/-- The unbalance record of a step. -/
def State.unb (s : State) (i : StepId) : Unbalance := look s.ub i

/-- An order slot. -/
def State.slot (s : State) (i : SlotId) : Slot := look s.oe.slots i

/-- The line state of a step. -/
def State.lines (s : State) (i : StepId) : LineState := look s.io.lines i

/-- The per-step settings of a step. -/
def State.stepCfg (s : State) (i : StepId) : StepSettings := look s.cfg.perStep i

/-- The record of a step changed. -/
def State.modStep (s : State) (i : StepId) (f : StepRec → StepRec) : State :=
  { s with tbl.recs := put s.tbl.recs i (f (look s.tbl.recs i)) }

/-- The sequencer's lane of a step changed. -/
def State.modLane (s : State) (i : StepId) (f : Lane → Lane) : State :=
  { s with seq.lanes := put s.seq.lanes i (f (look s.seq.lanes i)) }

/-- The discharge timers of a step changed. -/
def State.modTimers (s : State) (i : StepId) (f : DischargeTimer → DischargeTimer) : State :=
  { s with dt := put s.dt i (f (look s.dt i)) }

/-- The unbalance record of a step changed. -/
def State.modUnb (s : State) (i : StepId) (f : Unbalance → Unbalance) : State :=
  { s with ub := put s.ub i (f (look s.ub i)) }

/-- An order slot changed. -/
def State.modSlot (s : State) (i : SlotId) (f : Slot → Slot) : State :=
  { s with oe.slots := put s.oe.slots i (f (look s.oe.slots i)) }

/-- The line state of a step changed. -/
def State.modLines (s : State) (i : StepId) (f : LineState → LineState) : State :=
  { s with io.lines := put s.io.lines i (f (look s.io.lines i)) }

/-- A function applied to a state for each item of a list, in order. -/
def forEach {α : Type} (f : α → State → State) : List α → State → State
  | [], s => s
  | a :: as, s => forEach f as (f a s)

/-- A command's effect outside reset. While RESET is held the part takes no event but the release
(R17, R36, R63, R74, R97, R118, R135, R153, R177, R203). -/
def live (s : State) (f : State → State) : Host.Outcome State Fault Refusal :=
  .next (if s.resetHeld then s else f s)

/-! ### Ends of operations and orders -/

/-- An order becomes FINISHED with an outcome and a reason (R154, R168). -/
def finishSlot (i : SlotId) (out : OrderOutcome) (r : Option Reason) (s : State) : State :=
  s.modSlot i fun o =>
    { o with state := .finished, outcome := some out, reason := r, finishedAt := some s.clock.seconds,
             notBeforeTimer := none, deadlineTimer := none }

/-- The EXECUTING order, if any, becomes FINISHED and the engine IDLE (R168). -/
def finishExecuting (out : OrderOutcome) (r : Option Reason) (s : State) : State :=
  match s.oe.executing with
  | none => s
  | some i => { finishSlot i out r s with oe.executing := none }

/-- LOW_ACC and HIGH_ACC are set to 0, and neither has then reached its delay (R98, R101, R102, R108,
R112). -/
def clearBand (s : State) : State :=
  { s with vc.lowAcc := 0, vc.highAcc := 0, vc.lowReached := false, vc.highReached := false }

/-- Voltage control's receipt of an end report (R108). -/
def vcEndReport (s : State) : State :=
  { clearBand s with vc.request := if s.arb.vcRequest = .urgent then .fastPending else .idle }

/-- The end report of an operation to its requester (R75); a protective open makes none. -/
def endReport (src : Requester) (out : OrderOutcome) (r : Option Reason) (s : State) : State :=
  match src with
  | .vc => vcEndReport s
  | .oe => finishExecuting out r s
  | .protection => s

/-- A settle of some milliseconds; none makes the right NOT_BUSY at once (R92). -/
def settleOf (ms : Nat) : Busy := if ms = 0 then .notBusy else .settling ms

/-- The busy period passes on when the operation under the right has ended with a pulse (R92); with
the urgent flag set no settle is added (R95). -/
def passBusy (ms : Nat) (s : State) : State :=
  { s with arb.busy := if s.arb.vcRequest = .urgent then .notBusy else settleOf ms }

/-- The busy period ends with no settle: the operation ended before any pulse (R92). -/
def freeRight (s : State) : State := { s with arb.busy := .notBusy }

/-! ### The watch over a close without a pulse (R76, R77) -/

/-- The first condition of R76 that fails for a step, as the reason R77 gives it; the outer none means
that all hold. The order among several failing conditions is the table's (log 16). -/
def closeBar (s : State) (i : StepId) : Option (Option Reason) :=
  let r := s.stepRec i
  if closeInhibit s then some (some .inhibit)
  else if r.state ≠ .opened then
    (match r.state with
     | .faulted _ => some (some .faulted)
     | _ => some (some .notOpen))
  else if r.lockout.isSome then some (some .lockout)
  else if r.cooling || r.holdoff then some none
  else if r.retired || (s.lines i).direct then some (some .retired)
  else none

/-- Whether an operation is a close that has not started its pulse. -/
def Operation.unpulsed (o : Operation) : Bool :=
  match o.kind with
  | .close _ => decide (o.phase ≠ .inMotion)
  | .trip => false

/-- A close ends without a pulse (R77, R80, R106): its record, the schedule and the sync wait timer go,
the requester has its end report and the right is free with no settle. -/
def abandonClose (i : StepId) (out : OrderOutcome) (r : Option Reason) (s : State) : State :=
  match (s.lane i).op with
  | none => s
  | some o =>
    let s := s.modLane i fun l => { l with op := none }
    let s := { s with seq.schedule := none, seq.syncWait := none }
    freeRight (endReport o.source out r s)

/-- The sequencer's watch after a change of a step's state, service or blocks (R53, R77). -/
def watchClose (i : StepId) (s : State) : State :=
  match (s.lane i).op with
  | none => s
  | some o =>
    if o.unpulsed then
      match closeBar s i with
      | none => s
      | some r => abandonClose i .preempted r s
    else s

/-! ### Blocks, cooldown and holdoff (R53, R54, R64, R70) -/

/-- LOCKOUT is added with its reason unless the step carries it (R54). -/
def addLockout (i : StepId) (r : LockoutReason) (s : State) : State :=
  watchClose i (s.modStep i fun c => { c with lockout := some (c.lockout.getD r) })

/-- A full cooldown starts (R64). -/
def startCooldown (i : StepId) (s : State) : State :=
  let s := s.modTimers i fun t => { t with cooldown := 1000 * (s.stepCfg i).dischargeTime }
  watchClose i (s.modStep i fun c => { c with cooling := true })

/-- The cooldown stops and COOLING is removed (R51, R65, R66). -/
def stopCooldown (i : StepId) (s : State) : State :=
  (s.modTimers i fun t => { t with cooldown := 0 }).modStep i fun c => { c with cooling := false }

/-- A due holdoff start (R70): the arming is cleared; with HARM_HOLDOFF above 0 a full holdoff runs. -/
def startHoldoff (i : StepId) (s : State) : State :=
  let s := s.modTimers i fun t => { t with arming := false }
  if 0 < s.cfg.yard.harmHoldoff then
    let s := s.modTimers i fun t => { t with holdoffMs := 1000 * s.cfg.yard.harmHoldoff }
    watchClose i (s.modStep i fun c => { c with holdoff := true })
  else s

/-! ### Unbalance notices (R136, R138, R150) -/

/-- A learning in progress on the step ends FAILED with reason INTERRUPTED (R150). -/
def interruptLearning (i : StepId) (s : State) : State :=
  match (s.unb i).learning with
  | none => s
  | some _ => finishExecuting .failed (some .interrupted) (s.modUnb i fun u => { u with learning := none })

/-- Counters and standings of both stages cleared, ending the cause of UNBALANCE_ALARM if it stood
(R138, R143, R145, R146, R149). -/
def clearStages (i : StepId) (s : State) : State :=
  let s := if (s.unb i).alarmActive then endCause .unbalanceAlarm (.step i) s else s
  s.modUnb i fun u => { u with alarmCount := 0, alarmActive := false, tripTiming := false, tripCount := 0 }

/-- The unit takes a departure from CLOSED: the step is disarmed (R138). -/
def disarm (i : StepId) (s : State) : State :=
  let s := clearStages i s
  let s := s.modUnb i fun u => { u with armed := false, armCount := 0 }
  interruptLearning i s

/-- The step has left CLOSED (R138, R150). A good window end that is published and that the unit has still to
evaluate reached it first: the departure is noted and taken after it. Otherwise the departure is taken at once. Which
of the two is first goes by the publication (log 37). -/
def leaveClosed (i : StepId) (s : State) : State :=
  if dueFor InHand.ub s = some true then s.modUnb i fun u => { u with departed := true } else disarm i s

/-- Arming begins anew, with last u 0 (R136, R137, log 31). -/
def Unbalance.entered (u : Unbalance) : Unbalance :=
  { u with armed := false, armCount := 0, alarmCount := 0, alarmActive := false, tripTiming := false,
           tripCount := 0, lastU := 0 }

/-- The step has entered CLOSED: a holdoff arming is dropped (R71), and the unit takes the entry, after a departure
that it has still to take (R136, R137). -/
def enterClosed (i : StepId) (s : State) : State :=
  let s := s.modTimers i fun t => { t with arming := false }
  s.modUnb i fun u => if u.departed then u else u.entered

/-- The unit takes the departure it has still to take, if any, and the entry of a step that is CLOSED again (R136,
R138). -/
def takeDeparture (i : StepId) (s : State) : State :=
  if (s.unb i).departed then
    let s := (disarm i s).modUnb i fun u => { u with departed := false }
    if (s.stepRec i).state = .closed then s.modUnb i Unbalance.entered else s
  else s

/-! ### Step state changes -/

/-- A record that belongs in the closed-order list (R59). -/
def StepRec.listed (r : StepRec) : Bool :=
  !r.retired && (decide (r.state = .closed) || decide (r.state = .opening))

/-- The closed-order list after a change of a step's record: appended at the tail when the step comes
to belong, removed when it no longer does, kept in place otherwise (R59). -/
def relist (i : StepId) (s : State) : State :=
  if (s.stepRec i).listed then
    if i ∈ s.tbl.closedOrder then s else { s with tbl.closedOrder := s.tbl.closedOrder ++ [i] }
  else { s with tbl.closedOrder := s.tbl.closedOrder.filter (· ≠ i) }

/-- The resonance suspect flag is cleared and, when it was set, the cause of RESONANCE ends (R51, R52,
R130). -/
def clearSuspect (i : StepId) (s : State) : State :=
  if (s.stepRec i).suspect then
    endCause .resonance (.step i) (s.modStep i fun c => { c with suspect := false })
  else s

/-- The step has entered OPEN: full cooldown, and a holdoff when armed or suspect (R51, R64, R70). -/
def enterOpened (i : StepId) (s : State) : State :=
  let due := (s.stepRec i).suspect || (s.timers i).arming
  let s := startCooldown i (clearSuspect i s)
  if due then startHoldoff i s else s

/-- The step has entered FAULTED: a suspect's holdoff is armed (R52, R71), and POSITION_INVALID is
raised when that is the cause (R62). -/
def enterFaulted (i : StepId) (c : FaultCause) (s : State) : State :=
  let s := if (s.stepRec i).suspect then s.modTimers i fun t => { t with arming := true } else s
  let s := clearSuspect i s
  if c = .positionInvalid then raise .positionInvalid (.step i) s else s

/-- The step has left a state: leaving OPEN stops the cooldown (R51), leaving CLOSED disarms (R138),
leaving FAULTED with POSITION_INVALID ends that alarm's cause (R62). -/
def leaveState (i : StepId) (old : StepState) (s : State) : State :=
  match old with
  | .opened => stopCooldown i s
  | .closed => leaveClosed i s
  | .faulted .positionInvalid => endCause .positionInvalid (.step i) s
  | _ => s

/-- The step has entered a state. -/
def enterState (i : StepId) (new : StepState) (s : State) : State :=
  match new with
  | .opened => enterOpened i s
  | .closed => enterClosed i s
  | .faulted c => enterFaulted i c s
  | _ => s

/-- ONE operation for every change of a step's state: the record, the closed-order list, what leaving
the old and entering the new state brings, and the sequencer's watch (R40 to R52, R59). -/
def moveStep (i : StepId) (new : StepState) (s : State) : State :=
  let old := (s.stepRec i).state
  let s := relist i (s.modStep i fun c => { c with state := new })
  watchClose i (enterState i new (leaveState i old s))

/-- A FAULTED step's cause becomes POSITION_INVALID, raised unless its entry stands (R45, R47, log 25). -/
def faultInvalid (i : StepId) (s : State) : State :=
  let s := s.modStep i fun c => { c with state := .faulted .positionInvalid }
  if s.link.alarms.any (AlarmEntry.isFor .positionInvalid (.step i)) then s
  else raise .positionInvalid (.step i) s

/-- A resonance suspect mark, with the answer whether it was applied (R60). -/
def markSuspect (i : StepId) (s : State) : State × Bool :=
  let r := s.stepRec i
  if !r.retired && decide (r.state = .closed) && decide (i ∈ s.tbl.closedOrder) then
    let s := s.modStep i fun c => { c with suspect := true }
    ({ s with tbl.closedOrder := i :: s.tbl.closedOrder.filter (· ≠ i) }, true)
  else (s, false)

/-- An arming request of a shed (R69). -/
def armHoldoff (i : StepId) (s : State) : State :=
  match (s.stepRec i).state with
  | .opened => startHoldoff i s
  | .unknown => s
  | .absent => s
  | _ => s.modTimers i fun t => { t with arming := true }

end Sys2Proof.Machine
end

