-- ==== Sys2Proof/Machine/Sequencer.lean ====
section
/-! DEFINITION. The switching sequencer (chapter 5): taking a close or an open (R75 to R80, R85), close
and trip pulses (R81, R86), confirmations (R82, R86), failures (R83, R84, R87, R88) and protective
opens (R89, R90). -/

namespace Sys2Proof.Machine

/-- The last operation source a requester stands for (R48). -/
def sourceOf : Requester → OpSource
  | .vc => .auto
  | .oe => .order
  | .protection => .protection

/-- MECH_TIME in frames, a half rounded up (R79). -/
def mechFrames (mechTime nominalFrequency : Nat) : Nat := (mechTime * 32 * nominalFrequency + 500) / 1000

/-- How many frames after the current one the target frame of R79 lies: the first at or beyond the
mechanism time whose predicted wave position is 0 or 16. -/
def targetDelay (wave m : Nat) : Nat := m + (16 - (wave + m) % 16) % 16

/-- How many frames after the current one the pulse frame of R79 lies. -/
def pulseDelay (wave m : Nat) : Nat := targetDelay wave m - m

/-- A close pulse starts (R81, R48, R127). -/
def startClosePulse (i : StepId) (s : State) : State :=
  match (s.lane i).op with
  | none => s
  | some o =>
    let s := s.modLane i fun l =>
      { l with op := some { o with phase := .inMotion }, closePulse := s.cfg.yard.closePulse,
               confirm := some s.cfg.yard.confirmTime }
    let s := { s with seq.schedule := none, seq.syncWait := none, hs.snapshot := some ⟨i, s.hs.dv⟩ }
    moveStep i .closing (s.modStep i fun c => { c with lastSource := sourceOf o.source })

/-- The pulse of a close starts if the conditions of R76 hold, and the close ends if one fails (R77). -/
def tryClosePulse (i : StepId) (s : State) : State :=
  match closeBar s i with
  | none => startClosePulse i s
  | some r => abandonClose i .preempted r s

/-- A SYNCHRONIZED close is scheduled from a frame number and wave position (R79); when the pulse frame
is the current one the pulse starts at once. -/
def scheduleClose (i : StepId) (frame : Word) (wave : BitVec 5) (s : State) : State :=
  let k := pulseDelay wave.toNat (mechFrames (s.stepCfg i).mechTime s.cfg.yard.nominalFrequency)
  if k = 0 then tryClosePulse i s
  else
    let s := s.modLane i fun l => { l with op := l.op.map fun o => { o with phase := .scheduled } }
    { s with seq.schedule := some ⟨frame + BitVec.ofNat 32 k, i⟩ }

/-- The sequencer takes a close under the right (R75 to R80). -/
def takeClose (i : StepId) (src : Requester) (t : Timing) (s : State) : State :=
  let s := s.modLane i fun l => { l with op := some ⟨.close t, src, .awaitingValid, true⟩ }
  let s := { s with arb.busy := .inOperation }
  match closeBar s i with
  | some r => abandonClose i .preempted r s
  | none =>
    match t with
    | .immediate => tryClosePulse i s
    | .synchronized =>
      let s := if src = .oe then { s with seq.syncWait := some s.cfg.yard.syncWait } else s
      if s.rx.meas = .valid then scheduleClose i s.rx.frameNumber s.rx.wave s
      else if src = .oe then s
      else abandonClose i .preempted none s

/-- A trip pulse starts (R86, R48, R50). -/
def startTripPulse (i : StepId) (o : Operation) (s : State) : State :=
  let s := s.modLane i fun l =>
    { l with op := some { o with phase := .inMotion }, closePulse := 0, tripPulse := s.cfg.yard.tripPulse,
             confirm := some s.cfg.yard.confirmTime }
  moveStep i .opening (s.modStep i fun c => { c with lastSource := sourceOf o.source })

/-- The sequencer takes a voluntary open under the right (R85). -/
def takeOpen (i : StepId) (src : Requester) (s : State) : State :=
  let s := { s with arb.busy := .inOperation }
  if (s.stepRec i).state = .closed ∧ (s.lines i).direct = false then
    startTripPulse i ⟨.trip, src, .inMotion, true⟩ s
  else freeRight (endReport src .preempted (some .notClosed) s)

/-- A protective open of a step (R89, R90). -/
def protectiveOpen (i : StepId) (s : State) : State :=
  match (s.stepRec i).state with
  | .closed =>
    if (s.lines i).direct then s else startTripPulse i ⟨.trip, .protection, .inMotion, false⟩ s
  | .closing =>
    match (s.lane i).op with
    | none => startTripPulse i ⟨.trip, .protection, .inMotion, false⟩ s
    | some o =>
      endReport o.source .preempted none
        (startTripPulse i ⟨.trip, .protection, .inMotion, o.underRight⟩ s)
  | _ => s

/-- The busy period passes on after a pulse if the operation was under the right (R86, R87, R92). -/
def passIfUnder (o : Operation) (ms : Nat) (s : State) : State := if o.underRight then passBusy ms s else s

/-- The operation in flight on a step goes, with its confirm timer. -/
def dropOperation (i : StepId) (s : State) : State := s.modLane i fun l => { l with op := none, confirm := none }

/-- A confirmed close opens a resonance watch from the pulse snapshot (R128). -/
def openWatch (i : StepId) (s : State) : State :=
  let w :=
    match s.hs.snapshot with
    | some ⟨j, some dv⟩ => if j = i then some (Watch.mk i dv (1000 * s.cfg.yard.resonanceWindow)) else none
    | _ => none
  { s with hs.watch := w, hs.snapshot := none }

/-- A close is confirmed (R82, R49, R128). -/
def confirmClose (i : StepId) (o : Operation) (s : State) : State :=
  let s := moveStep i .closed (dropOperation i s)
  let s := s.modStep i fun c => { c with opCount := min (c.opCount + 1) 65535 }
  let s := endReport o.source .done none (openWatch i s)
  passIfUnder o (1000 * s.cfg.yard.settleClose) s

/-- An open is confirmed (R86, R51). -/
def confirmOpen (i : StepId) (o : Operation) (s : State) : State :=
  let s := moveStep i .opened (dropOperation i s)
  let s := endReport o.source .done none s
  passIfUnder o (1000 * s.cfg.yard.settleOpen) s

/-- The sequencer's judgement of a position delivered for a step in CLOSING or OPENING (R46, R82,
R86). -/
def judgeDelivery (i : StepId) (p : Position) (s : State) : State :=
  match (s.lane i).op, (s.lane i).confirm with
  | some o, some _ =>
    match o.kind, p with
    | .close _, .closed => confirmClose i o s
    | .trip, .opened => confirmOpen i o s
    | _, _ => s
  | _, _ => s

/-- The confirm timer of a close expires with the feed LOST (R83). -/
def closeNoIndication (i : StepId) (o : Operation) (s : State) : State :=
  let s := (dropOperation i s).modLane i fun l => { l with closePulse := 0 }
  let s := moveStep i (.faulted .noIndication) s
  let s := endReport o.source .failed (some .noIndication) s
  passIfUnder o (1000 * s.cfg.yard.settleClose) s

/-- The confirm timer of a close expires with the feed LIVE: the close failure chain (R84). -/
def closeFailure (i : StepId) (o : Operation) (s : State) : State :=
  let s := startTripPulse i ⟨.trip, .protection, .inMotion, o.underRight⟩ s
  let s := raise .closeFail (.step i) (addLockout i .closeFailure s)
  endReport o.source .failed (some .position) s

/-- The confirm timer of an open expires (R87, R88). -/
def openFailure (i : StepId) (o : Operation) (s : State) : State :=
  let live := s.rx.feedLive
  let s := (dropOperation i s).modLane i fun l => { l with tripPulse := 0 }
  let s :=
    if live then
      let s := addLockout i .switchFailure (moveStep i (.faulted .switchFailure) s)
      { raise .switchFail (.step i) s with seq.yardTrip := s.cfg.yard.backupPulse }
    else moveStep i (.faulted .noIndication) s
  let s := endReport o.source .failed (some (if live then .position else .noIndication)) s
  passIfUnder o (1000 * s.cfg.yard.settleOpen) s

/-! ### The close that has not started its pulse -/

/-- The first step with a close that has not started its pulse; under the right there is at most one. -/
def unpulsedStep (s : State) : Option StepId :=
  allSteps.find? fun i =>
    match (s.lane i).op with
    | some o => o.unpulsed
    | none => false

/-- The unpulsed close and its step. -/
def unpulsedClose (s : State) : Option (StepId × Operation) :=
  match unpulsedStep s with
  | none => none
  | some i =>
    match (s.lane i).op with
    | none => none
    | some o => some (i, o)

/-- Voltage control withdraws its close that has not started its pulse (R106). -/
def vcWithdrawClose (s : State) : State :=
  match unpulsedClose s with
  | none => s
  | some (i, o) => if o.source = .vc then abandonClose i .preempted none s else s

/-- A close that is SCHEDULED when measurement is not VALID (R80): voltage control's ends; an order's
waits, or ends FAILED NO_SYNC once its sync wait timer has expired. -/
def loseSchedule (i : StepId) (o : Operation) (s : State) : State :=
  if o.source = .oe then
    if s.seq.syncWait = some 0 then abandonClose i .failed (some .noSync) s
    else
      let s := s.modLane i fun l => { l with op := some { o with phase := .awaitingValid } }
      { s with seq.schedule := none }
  else abandonClose i .preempted none s

/-- The sequencer is told the measurement state just set (R11, R79, R80), with the frame number and
wave position of the window end's frame end. -/
def measNotice (frame : Word) (wave : BitVec 5) (s : State) : State :=
  match unpulsedClose s with
  | none => s
  | some (i, o) =>
    if s.rx.meas = .valid then
      if o.phase = .awaitingValid then scheduleClose i frame wave s else s
    else if o.phase = .scheduled then loseSchedule i o s
    else s

/-- The pulse frame of the synchronized schedule has been reached; frame numbers are compared modulo
2^32 (R79, log 18). -/
def pulseDue (s : State) : Bool :=
  match s.seq.schedule with
  | none => false
  | some c => decide ((s.rx.frameNumber - c.pulseFrame).toNat < 2147483648)

end Sys2Proof.Machine
end

