-- ==== Sys2Proof/Machine/Engine.lean ====
section
/-! DEFINITION. Those who ask for the switching right and the arbiter that grants it: voltage control's
candidates and work (R57, R103, R104, R107), the order engine's startability, start checks and work
(R163 to R176), the grant rule (R93 to R95), and `settle`, which carries an event's consequences for
orders and right to their end (R166, R167, log 13). -/

namespace Sys2Proof.Machine

/-! ### Voltage control's selection -/

/-- Eligible for an automatic close (R57). -/
def eligible (s : State) (i : StepId) : Bool :=
  let r := s.stepRec i
  !r.retired && decide (r.state = .opened) && !(s.lines i).direct &&
    !r.cooling && !r.holdoff && r.lockout.isNone && !r.hold

/-- The predicted change of a step in per mille (R103). -/
def predictedChange (s : State) (i : StepId) : Nat := (s.stepCfg i).rating * s.cfg.yard.sensitivity / 100

/-- An add candidate (R104), judged by the band in force (R116). -/
def isAddCandidate (s : State) (i : StepId) : Bool :=
  eligible s i && decide (s.vc.vctrl + predictedChange s i + s.cfg.yard.margin ≤ s.vc.bandHigh)

/-- Of two add candidates the one with the lower operation count, the earlier one among equals. -/
def betterAdd (s : State) (best : Option StepId) (i : StepId) : Option StepId :=
  if isAddCandidate s i then
    match best with
    | none => some i
    | some b => if (s.stepRec i).opCount < (s.stepRec b).opCount then some i else some b
  else best

/-- The add candidate chosen (R104). -/
def addCandidate (s : State) : Option StepId := allSteps.foldl (betterAdd s) none

/-- A remove candidate (R104), judged by the band in force (R116). -/
def isRemoveCandidate (s : State) (i : StepId) : Bool :=
  let r := s.stepRec i
  decide (r.state = .closed) && !r.hold &&
    decide (s.vc.bandLow + s.cfg.yard.margin + predictedChange s i ≤ s.vc.vctrl)

/-- The remove candidate chosen: the first in list order (R104). -/
def removeCandidate (s : State) : Option StepId := s.tbl.closedOrder.find? (isRemoveCandidate s)

/-- A selection that finds no candidate sets NO_CANDIDATE; one that finds one clears it (R104). -/
def noteSelection (c : Option StepId) (s : State) : State := { s with vc.noCandidate := c.isNone }

/-- Voltage control has no work at a grant and releases the right (R107, R93). -/
def vcRelease (s : State) : State := { s with vc.request := .idle }

/-- Voltage control's state as it hands an operation over (R107). -/
def vcOperating (s : State) : State := { s with vc.request := .operating }

/-- Voltage control selects and hands over its work on a grant (R107). -/
def vcGranted (s : State) : State :=
  if s.vc.fastDue then
    let s := { s with vc.fastDue := false }
    match s.tbl.closedOrder with
    | [] => vcRelease s
    | i :: _ => takeOpen i .vc (vcOperating s)
  else if s.vc.lowReached then
    if s.vc.auto && decide (s.rx.meas = .valid) && !s.hs.vActive && !deadCondition s.vc && !closeInhibit s then
      let s := noteSelection (addCandidate s) s
      match addCandidate s with
      | none => vcRelease s
      | some i => takeClose i .vc .synchronized (vcOperating s)
    else vcRelease s
  else if s.vc.highReached then
    if s.vc.auto && decide (s.rx.meas = .valid) then
      let s := noteSelection (removeCandidate s) s
      match removeCandidate s with
      | none => vcRelease s
      | some i => takeOpen i .vc (vcOperating s)
    else vcRelease s
  else vcRelease s

/-! ### Orders: waiting conditions and start checks -/

/-- Whether an order of the slot list names a step. -/
def namesStep (s : State) (st : StepId) (j : SlotId) : Bool := decide (stepOfByte (s.slot j).step = some st)

/-- An earlier-posted order for the step is POSTED or EXECUTING (R163 condition 2); `earlier` are the
slots nearer the head of the posted queue. -/
def earlierOrder (s : State) (earlier : List SlotId) (st : StepId) : Bool :=
  earlier.any (namesStep s st) ||
    match s.oe.executing with
    | some j => namesStep s st j
    | none => false

/-- The step is CLOSING or OPENING (R163 condition 3). -/
def stepBusy (s : State) (st : StepId) : Bool :=
  decide ((s.stepRec st).state = .closing) || decide ((s.stepRec st).state = .opening)

/-- A POSTED order is startable (R163); the answer is its kind and step. -/
def startable (s : State) (earlier : List SlotId) (i : SlotId) : Option (OrderKind × StepId) :=
  match orderKindOf (s.slot i).kind, stepOfByte (s.slot i).step with
  | some k, some st =>
    if (s.slot i).notBeforeTimer.isNone && !earlierOrder s earlier st && !stepBusy s st &&
        (decide (k ≠ .closeStep) ||
          (!(s.stepRec st).cooling && !(s.stepRec st).holdoff && !closeInhibit s)) then
      some (k, st)
    else none
  | _, _ => none

/-- An order to start: slot, kind and step. -/
structure StartItem where
  slot : SlotId
  kind : OrderKind
  step : StepId
  deriving DecidableEq, Repr

/-- The oldest startable order whose kind is a switching one or not, as asked (R166, R167). -/
def oldestStartable (s : State) (switching : Bool) : List SlotId → List SlotId → Option StartItem
  | _, [] => none
  | earlier, i :: rest =>
    match startable s earlier i with
    | some (k, st) => if k.switching = switching then some ⟨i, k, st⟩ else oldestStartable s switching (earlier ++ [i]) rest
    | none => oldestStartable s switching (earlier ++ [i]) rest

/-- The first failing check of a list, as its reason. -/
def firstFailing : List (Bool × Reason) → Option Reason
  | [] => none
  | (b, r) :: rest => if b then some r else firstFailing rest

/-- FAULTED, whatever the cause. -/
def StepState.isFaulted : StepState → Bool
  | .faulted _ => true
  | _ => false

/-- The start checks of an order's kind, in order; the reason of the first that fails (section 9.5). -/
def startCheck (s : State) (k : OrderKind) (st : StepId) : Option Reason :=
  let r := s.stepRec st
  let absent := (decide (r.state = .absent), Reason.absent)
  match k with
  | .closeStep => firstFailing [absent, (decide (r.state = .unknown), .unknownPosition),
      (r.state.isFaulted, .faulted), (decide (r.state ≠ .opened), .notOpen),
      ((s.lines st).direct, .linesDirect), (r.retired, .retired), (r.lockout.isSome, .lockout)]
  | .openStep => firstFailing [absent, (decide (r.state ≠ .closed), .notClosed), (r.retired, .retired)]
  | .hold => firstFailing [absent]
  | .release => firstFailing [absent]
  | .resetLockout => firstFailing [absent, (r.lockout.isNone, .notLocked), (decide (r.state ≠ .opened), .notOpen)]
  | .learnBaseline => firstFailing [absent,
      (!(decide (r.state = .closed) && (s.unb st).isArmed), .notClosed)]
  | .retireStep => firstFailing [absent,
      (!(decide (r.state = .opened) || r.state.isFaulted), .notOpen), (r.retired, .retired)]
  | .reinstateStep => firstFailing [absent, (!r.retired, .inService), ((s.lines st).direct, .linesDirect),
      (decide (r.state ≠ .opened), .notOpen)]

/-- An order leaves the posted queue and its timers stop (R155, R164). -/
def leavePosted (i : SlotId) (s : State) : State :=
  { s with oe.posted := s.oe.posted.filter (· ≠ i) }.modSlot i fun o =>
    { o with notBeforeTimer := none, deadlineTimer := none }

/-- An order becomes EXECUTING (R166, R167). -/
def beginExecuting (i : SlotId) (s : State) : State :=
  { s with oe.executing := some i }.modSlot i fun o => { o with state := .executing }

/-! ### The right-free orders (R171 to R176) -/

/-- HOLD is added (R171). -/
def runHold (st : StepId) (s : State) : State := s.modStep st fun c => { c with hold := true }

/-- HOLD is removed (R172). -/
def runRelease (st : StepId) (s : State) : State := s.modStep st fun c => { c with hold := false }

/-- LOCKOUT and its reason go, and the unbalance unit clears its tripped flag and stages (R173, R54,
R147). A departure it has still to take is taken first, so the step is not armed here (R147, log 37). -/
def runResetLockout (st : StepId) (s : State) : State :=
  let s := clearStages st (takeDeparture st (s.modStep st fun c => { c with lockout := none }))
  let s := if (s.unb st).tripped then endCause .unbalanceTrip (.step st) s else s
  s.modUnb st fun u => { u with tripped := false }

/-- The step is RETIRED (R175, R55); the sequencer's watch sees it (R77). -/
def runRetire (st : StepId) (s : State) : State := watchClose st (s.modStep st fun c => { c with retired := true })

/-- The step is IN_SERVICE with a full cooldown (R176, R56). -/
def runReinstate (st : StepId) (s : State) : State :=
  startCooldown st (s.modStep st fun c => { c with retired := false })

/-- A learning begins (R148, R174). -/
def runLearn (st : StepId) (s : State) : State := s.modUnb st fun u => { u with learning := some ⟨0, 0, 0⟩ }

/-- The work of a right-free order that passed its checks (R166): LEARN_BASELINE stays EXECUTING, the
others end DONE at once. A switching kind never comes here. -/
def runRightFree (x : StartItem) (s : State) : State :=
  match x.kind with
  | .hold => finishSlot x.slot .done none (runHold x.step s)
  | .release => finishSlot x.slot .done none (runRelease x.step s)
  | .resetLockout => finishSlot x.slot .done none (runResetLockout x.step s)
  | .learnBaseline => runLearn x.step (beginExecuting x.slot s)
  | .retireStep => finishSlot x.slot .done none (runRetire x.step s)
  | .reinstateStep => finishSlot x.slot .done none (runReinstate x.step s)
  | .closeStep => s
  | .openStep => s

/-- A right-free order starts (R166). -/
def startRightFree (x : StartItem) (s : State) : State :=
  let s := leavePosted x.slot s
  match startCheck s x.kind x.step with
  | some r => finishSlot x.slot .refused (some r) s
  | none => runRightFree x s

/-- The engine, while IDLE, starts the startable right-free orders oldest first (R166). The number is
the most starts there can be. -/
def startFree : Nat → State → State
  | 0, s => s
  | n + 1, s =>
    if s.oe.executing.isSome then s
    else
      match oldestStartable s false [] s.oe.posted with
      | none => s
      | some x => startFree n (startRightFree x s)

/-- The engine's request for the right stands while it is IDLE and a CLOSE or OPEN is startable
(R167). -/
def wantsRight (s : State) : Bool :=
  s.oe.executing.isNone && (oldestStartable s true [] s.oe.posted).isSome

/-- A re-examination of the pool (R166, R167). -/
def reexamine (s : State) : State :=
  let s := startFree s.oe.posted.length s
  { s with arb.oeRequest := wantsRight s }

/-- The engine hands a switching order that passed its checks to the sequencer (R167, R169, R170). -/
def handOver (x : StartItem) (s : State) : State :=
  let t := (timingOf (s.slot x.slot).timing).getD .immediate
  let s := beginExecuting x.slot s
  match x.kind with
  | .closeStep => takeClose x.step .oe t s
  | _ => takeOpen x.step .oe s

/-- The engine selects its work on a grant: startable switching orders oldest first, those that fail
their checks ending REFUSED; with none left it releases the right (R167). After each REFUSED order the pool is looked
through again from its head, so an order that becomes startable only because the one ahead of it for the same step
has just ended REFUSED is taken within the same grant (DESIGN CHOICE, log 39). -/
def oeGranted : Nat → State → State
  | 0, s => s
  | n + 1, s =>
    if s.oe.executing.isSome then s
    else
      match oldestStartable s true [] s.oe.posted with
      | none => s
      | some x =>
        let s := leavePosted x.slot s
        match startCheck s x.kind x.step with
        | some r => oeGranted n (finishSlot x.slot .refused (some r) s)
        | none => handOver x s

/-! ### The grant rule (R93 to R95) -/

/-- A requester of the right. -/
inductive Winner where
  | vc
  | oe
  deriving DecidableEq, Repr

/-- Who wins under the grant rule, if the right is not busy and a request is pending (R93; both pending
with no holder: log 17). -/
def winner (a : Arbiter) : Option Winner :=
  if a.busy ≠ .notBusy then none
  else
    match a.vcRequest, a.oeRequest with
    | .urgent, _ => some .vc
    | .ordinary, false => some .vc
    | .absent, true => some .oe
    | .ordinary, true => if a.holder = .vc then some .oe else some .vc
    | .absent, false => none

/-- The winner becomes the holder, its request goes, and it selects its work in the same event (R93). -/
def grant (w : Winner) (s : State) : State :=
  match w with
  | .vc => vcGranted { s with arb.holder := .vc, arb.vcRequest := .absent }
  | .oe => oeGranted s.oe.posted.length { s with arb.holder := .oe, arb.oeRequest := false }

/-- Re-examinations and grants until neither has anything to do. -/
def settleLoop : Nat → State → State
  | 0, s => s
  | n + 1, s =>
    let s := reexamine s
    match winner s.arb with
    | none => s
    | some w => settleLoop n (grant w s)

/-- The consequences of an event for the order pool and the switching right, in the same event (R166,
R167, R93). Each grant to OE takes an order from the posted queue and VC places no request here, so
the number of rounds is bounded. -/
def settle (s : State) : State := settleLoop (s.oe.posted.length + 2) s

/-! ### Requests of voltage control -/

/-- An ordinary VC request is placed, or kept if one is pending (R93, R94, R105). -/
def placeOrdinary (s : State) : State :=
  { s with arb.vcRequest := if s.arb.vcRequest = .absent then .ordinary else s.arb.vcRequest }

/-- An urgent VC request is placed: a settle is cut (R93, R95). -/
def placeUrgent (s : State) : State :=
  { s with arb.vcRequest := .urgent,
           arb.busy := if s.arb.busy = .inOperation then .inOperation else .notBusy }

/-- A pending VC request is withdrawn, with the urgent flag (R94). -/
def withdrawVc (s : State) : State := { s with arb.vcRequest := .absent }

end Sys2Proof.Machine
end

