-- ==== Sys2Proof/Machine/Link.lean ====
section
/-! DEFINITION. The station link (sections 11.1 and 11.2): the taking of a request (R190), filler frames
and the overrun flag (R191), frame aborts (R189), response loading (R190) and BAD_CODE (R192). A frame
is one command, so a response is never loaded within one (log 7). -/

namespace Sys2Proof.Machine

/-- What a request answers: its status and its data bytes (R192). -/
structure Answer where
  status : Status
  data : List Byte
  deriving DecidableEq, Repr

/-- A request's work: the state it leaves and its answer. -/
abbrev Handler := State → State × Answer

/-- The end of a frame leaves the receive register empty; the bits shifted out are noted (log 7,
log 8). -/
def endFrame (out : List Bool) (s : State) : State :=
  { s with link.rxBytes := 0, link.rxBits := 0, link.dataOut := out }

/-- The end of a complete frame: the part shifts out 0x00 for every byte from the 17th on, an unfinished one
too, and what it receives there is ignored (R189, log 35). -/
def endComplete (out : List Bool) (s : State) : State :=
  endFrame (out ++ List.replicate (s.extraBits.headD 0) false) { s with extraBits := s.extraBits.tail }

/-- A filler frame (R191). -/
def filler (s : State) : State := endComplete (responseBits fillerResponse) { s with link.overrun := true }

/-- The end of a frame whose select was already asserted at the release of RESET: nothing of it is taken or
consumed, and the overrun flag is not set (R203). The manual does not say what is shifted out in it: the
bits are free (log 36). -/
def ignoreFrame (out : Nat) (s : State) : State :=
  { endFrame (unstatedBits s.freeDraws out) s with link.ignoring := false, freeDraws := s.freeDraws + 1 }

/-- An ignored frame of 16 whole bytes, with the bits clocked after them. -/
def ignoreComplete (s : State) : State :=
  ignoreFrame (128 + s.extraBits.headD 0) { s with extraBits := s.extraBits.tail }

/-- The loaded response is consumed: READY falls, and a set overrun bit in it clears the overrun flag
(R190, R191). -/
def consume (s : State) : State :=
  endComplete (responseBits s.link.tx)
    { s with link.ready := false, link.overrun := s.link.overrun && !s.link.tx.overrun }

/-- The answer becomes the composed response (R190, R192). -/
def compose (code tag : Byte) (r : State × Answer) : State :=
  { r.1 with link.composed := some ⟨code, tag, r.2.status, false, pad13 r.2.data⟩ }

/-- A complete frame (R190, R191): its request is taken whole while READY is high; while READY is low the
frame is a filler frame (log 6); a frame begun before the release of RESET is ignored (R203). -/
def takeRequest (code tag : Byte) (h : Handler) (s : State) : State :=
  if s.link.ignoring then ignoreComplete s
  else if s.link.ready then compose code tag (h (consume s)) else filler s

/-- An answer that changes nothing. -/
def answer (st : Status) (d : List Byte) (s : State) : State × Answer := (s, ⟨st, d⟩)

/-- A refusal that echoes some bytes; the manual gives no value for the `n` bytes after them, so they are
free (log 9). -/
def refuseOpen (st : Status) (echo : List Byte) (n : Nat) (s : State) : State × Answer :=
  ({ s with freeDraws := s.freeDraws + 1 }, ⟨st, echo ++ unstated s.freeDraws n⟩)

/-- A partial frame (R189, R191): the bits of the transmit register that were shifted out, an unfinished
byte's among them, are noted and nothing is consumed; while READY is low it is a filler frame; a frame begun
before the release of RESET is ignored (R203). -/
def frameAbort (bits : Nat) (s : State) : State :=
  if s.link.ignoring then ignoreFrame bits s
  else if s.link.ready then endFrame ((responseBits s.link.tx).take bits) s
  else endFrame ((responseBits fillerResponse).take bits) { s with link.overrun := true }

/-- FRAME_ABORT. -/
def execFrameAbort (bits : Nat) (s : State) : Host.Outcome State Fault Refusal := live s (frameAbort bits)

/-- A frame started while READY is low (R191); one started while RESET was held is ignored (R203). -/
def fillerFrame (s : State) : State :=
  if s.link.ignoring then ignoreComplete s else if s.link.ready then s else filler s

/-- FILLER_FRAME. -/
def execFillerFrame (s : State) : Host.Outcome State Fault Refusal := live s fillerFrame

/-- The composed response is loaded with the overrun flag as it stands, and READY rises (R190, R191). -/
def responseLoad (s : State) : State :=
  match s.link.composed with
  | none => s
  | some r =>
    { s with link.tx := { r with overrun := s.link.overrun }, link.composed := none, link.ready := true }

/-- RESPONSE_LOAD. -/
def execResponseLoad (s : State) : Host.Outcome State Fault Refusal := live s responseLoad

/-- BAD_CODE (R192). -/
def execBadCode (code tag : Byte) (s : State) : Host.Outcome State Fault Refusal :=
  live s (takeRequest code tag (answer .badCode []))

end Sys2Proof.Machine
end

