-- ==== Sys2Proof/Machine/AlarmRequests.lean ====
section
/-! DEFINITION. The alarm requests (section 11.6): READ_ALARM, ACK_ALARM, ACK_ALL. -/

namespace Sys2Proof.Machine

/-- The two counts of the alarm set (R200, R201). -/
def alarmCounts (s : State) : List Byte := [byteOf s.link.alarms.length, byteOf (unackedCount s.link.alarms)]

/-- The first eight data bytes of an entry (11.9.6). -/
def entryBytes (e : AlarmEntry) : List Byte :=
  [byteOf (alarmCode e.kind), subjectByte e.subject] ++ be32 e.raisedAt.toNat ++
  [byteOf (flagBit 0 e.acked + flagBit 1 e.cause), byteOf (flagBit 0 e.cooldownCut)]

/-- The work of READ_ALARM (R200). -/
def readAlarm (index : Byte) (s : State) : State × Answer :=
  match s.link.alarms[index.toNat]? with
  | some e => answer .ok (entryBytes e ++ alarmCounts s) s
  | none => answer .noneToGive (List.replicate 8 0 ++ alarmCounts s) s

/-- READ_ALARM. -/
def execReadAlarm (tag index : Byte) (s : State) : Host.Outcome State Fault Refusal :=
  live s (takeRequest 0x0C tag (readAlarm index))

/-- The work of ACK_ALARM (R201); the counts are given whatever the status (log 26). -/
def ackAlarm (kind subject : Byte) (s : State) : State × Answer :=
  match alarmKindOf kind with
  | none => answer .badArg (alarmCounts s) s
  | some k =>
    match subjectOf k subject with
    | none => answer .badArg (alarmCounts s) s
    | some sub =>
      if s.link.alarms.any (AlarmEntry.isFor k sub) then
        let s := s.modAlarms (ackIn k sub)
        answer .ok (alarmCounts s) s
      else answer .noneToGive (alarmCounts s) s

/-- ACK_ALARM. -/
def execAckAlarm (tag kind subject : Byte) (s : State) : Host.Outcome State Fault Refusal :=
  live s (takeRequest 0x0D tag (ackAlarm kind subject))

/-- The work of ACK_ALL (R201). -/
def ackAll (s : State) : State × Answer :=
  let s := s.modAlarms (List.filterMap ackEntry)
  answer .ok (alarmCounts s) s

/-- ACK_ALL. -/
def execAckAll (tag : Byte) (s : State) : Host.Outcome State Fault Refusal :=
  live s (takeRequest 0x0E tag ackAll)

end Sys2Proof.Machine
end

