-- ==== Sys2Proof/Machine/SampleLink.lean ====
section
/-! DEFINITION. The sample link receiver (chapter 1) with the deliveries it makes to the step table
(R40 to R47): FRAME_END, FIRST_FRAME_SYNC, SCHEDULED_CLOSE_PULSE, WINDOW_TIMER_EXPIRY,
FEED_TIMER_EXPIRY, WINDOW_END. -/

namespace Sys2Proof.Machine

/-! ### Frames (R1 to R4) -/

/-- How a closed frame is judged (R1, R3): a frame error, or received with its VALID and CYCLE_MARK
flags. -/
inductive FrameClass where
  | error
  | received (valid mark : Bool)
  deriving DecidableEq, Repr

/-- Bits that arrive are counted to 256; a 257th marks the frame (R1). -/
def receiveBits (n : Nat) (a : FrameAssembly) : FrameAssembly :=
  ⟨min (a.bits + n) 256, a.tooLong || decide (256 < a.bits + n)⟩

/-- The judgement of a frame by its bit count and status word (R1, R3, 11.9.1). -/
def classify (a : FrameAssembly) (f : SampleFrame) : FrameClass :=
  if a.bits = 256 ∧ a.tooLong = false then .received (look f.slots 15)[0] (look f.slots 15)[1] else .error

/-- The samples of a frame are its slots 0 to 13 (R2). -/
def frameSamples (f : SampleFrame) : Samples := f.slots.take 14

/-- The wave position after a frame end (R4). -/
def nextWave (c : FrameClass) (w : BitVec 5) : BitVec 5 :=
  match c with
  | .received _ true => 0
  | _ => w + 1

/-! ### Windows (R5 to R8) -/

/-- The window timer's period in ticks: two nominal cycle periods, rounded up to a tick (R8). -/
def windowPeriod (c : YardSettings) : Nat := (2000 + c.nominalFrequency - 1) / c.nominalFrequency

/-- A window end joins the queue; the window timer restarts and no window is in progress (R6, R7, R8). -/
def endWindow (e : WindowEnd) (s : State) : State :=
  { s with rx.ends := s.rx.ends ++ [e], rx.window := none, rx.windowTimer := windowPeriod s.cfg.yard }

/-- The part a closed frame takes in window building (R5, R6, R7). -/
def windowFrame (c : FrameClass) (x : Samples) (s : State) : State :=
  match s.rx.window, c with
  | none, .received true true => { s with rx.window := some [x] }
  | none, _ => s
  | some _, .received true true =>
    let s := endWindow (.failed .short) s
    { s with rx.window := some [x] }
  | some xs, .received true false =>
    if xs.length < 31 then { s with rx.window := some (xs ++ [x]) }
    else endWindow (.good (xs ++ [x]) s.rx.frameNumber s.rx.wave) s
  | some _, .received false _ => endWindow (.failed .invalid) s
  | some _, .error => endWindow (.failed .frameError) s

/-! ### Positions (R12 to R14) -/

/-- The position a position word shows for a step (R12, 11.9.1): bit 2s + 1 is the closed-indication
contact, bit 2s the open-indication contact. -/
def positionOf (w : Half) (i : StepId) : Position :=
  match w.getLsbD (2 * i.val + 1), w.getLsbD (2 * i.val) with
  | true, false => .closed
  | false, true => .opened
  | _, _ => .invalid

/-- The debounce record of a step after a taken position (R13). -/
def debounce (q : Position) (d : Debounce) : Debounce :=
  if d.delivered = some q then { d with candidate := none, repeats := 0 }
  else if d.candidate = some q then
    if d.repeats + 1 = 4 then ⟨some q, none, 0⟩ else { d with repeats := d.repeats + 1 }
  else { d with candidate := some q, repeats := 1 }

/-- Whether a taken position is delivered (R13, R14): its run reaches four. -/
def deliversNow (q : Position) (d : Debounce) : Bool :=
  decide (d.delivered ≠ some q) && decide (d.candidate = some q) && decide (d.repeats + 1 = 4)

/-- A step with the position delivered for it. -/
abbrev Delivery := StepId × Position

/-- The deliveries of one position word, in ascending step number, of fitted steps only (R12, R14). -/
def deliveries (w : Half) (s : State) : List Delivery :=
  allSteps.filterMap fun i =>
    if (s.stepRec i).fitted && deliversNow (positionOf w i) (look s.rx.debounce i) then some (i, positionOf w i)
    else none

/-- The debounce records after one position word (R12, R13). -/
def debounceAll (w : Half) (s : State) : State :=
  { s with rx.debounce := Vector.ofFn fun i =>
      if (s.stepRec i).fitted then debounce (positionOf w i) (look s.rx.debounce i) else look s.rx.debounce i }

/-! ### Delivered positions (R40 to R46) -/

/-- A position delivered for a FAULTED step, or taken for it at the feed's return (R45, R47). -/
def resolveFaulted (i : StepId) (p : Position) (s : State) : State :=
  match p with
  | .opened => moveStep i .opened s
  | .closed => moveStep i .closed s
  | .invalid => faultInvalid i s

/-- An uncommanded open (R42). -/
def uncommandedOpen (i : StepId) (s : State) : State :=
  let s := moveStep i .opened s
  if (s.lines i).direct then s else raise .uncommandedOpen (.step i) s

/-- An uncommanded close, with the detail COOLDOWN_CUT when COOLING stood at the delivery (R43). -/
def uncommandedClose (i : StepId) (s : State) : State :=
  let cut := (s.stepRec i).cooling
  let s := moveStep i .closed s
  if (s.lines i).direct then s else raiseCut .uncommandedClose (.step i) cut s

/-- One step of a delivery notice applied to the step table (R40; an ABSENT step: log 27). -/
def applyDelivery (d : Delivery) (s : State) : State :=
  let i := d.1
  let s := s.modStep i fun c => { c with indicated := some d.2 }
  match (s.stepRec i).state, d.2 with
  | .absent, _ => s
  | .unknown, .opened => moveStep i .opened s
  | .unknown, .closed => moveStep i .closed s
  | .unknown, .invalid => moveStep i (.faulted .positionInvalid) s
  | .opened, .opened => s
  | .opened, .closed => uncommandedClose i s
  | .opened, .invalid => moveStep i (.faulted .positionInvalid) s
  | .closed, .opened => uncommandedOpen i s
  | .closed, .closed => s
  | .closed, .invalid => moveStep i (.faulted .positionInvalid) s
  | .closing, p => judgeDelivery i p s
  | .opening, p => judgeDelivery i p s
  | .faulted _, p => resolveFaulted i p s

/-- A delivery with its notices to the neighbours, before the next step of the notice (R40). -/
def deliver (d : Delivery) (s : State) : State := settle (applyDelivery d s)

/-! ### Position feed (R15, R47) -/

/-- At the feed's return a step FAULTED with NO_INDICATION is treated by its indicated position (R47). -/
def feedReturnStep (i : StepId) (s : State) : State :=
  if (s.stepRec i).state = .faulted .noIndication then
    match (s.stepRec i).indicated with
    | none => s
    | some p => settle (resolveFaulted i p s)
  else s

/-- A valid frame restarts the feed timer and makes a LOST feed LIVE (R15, R47). -/
def feedFrame (s : State) : State :=
  let was := s.rx.feedLive
  let s := { s with rx.feedTimer := some 20, rx.feedLive := true }
  if was then s else forEach feedReturnStep allSteps s

/-- The position word of a valid frame is taken: debounced, then delivered as one notice (R12 to R14,
R40). -/
def takePositions (w : Half) (s : State) : State := forEach deliver (deliveries w s) (debounceAll w s)

/-! ### The commands -/

/-- A frame end (R1, R3, R4): the frame number and wave position, window building, and for a valid
frame the feed and then the positions (log 29). A frame sync before the first only begins assembly (R1,
log 12). -/
def frameEnd (f : SampleFrame) (s : State) : State :=
  match s.rx.assembly with
  | none => { s with rx.assembly := some ⟨0, false⟩ }
  | some a =>
    let c := classify (receiveBits f.bitCount a) f
    let s := { s with rx.assembly := some ⟨0, false⟩, rx.frameNumber := s.rx.frameNumber + 1,
                      rx.wave := nextWave c s.rx.wave }
    let s := windowFrame c (frameSamples f) s
    match c with
    | .received true _ => takePositions (look f.slots 14) (feedFrame s)
    | _ => s

/-- FRAME_END. -/
def execFrameEnd (f : SampleFrame) (s : State) : Host.Outcome State Fault Refusal := live s (frameEnd f)

/-- The first frame sync after reset release begins assembly (R1). -/
def firstSync (s : State) : State :=
  if s.rx.assembly.isNone then { s with rx.assembly := some ⟨0, false⟩ } else s

/-- FIRST_FRAME_SYNC. -/
def execFirstFrameSync (s : State) : Host.Outcome State Fault Refusal := live s firstSync

/-- The scheduled close whose pulse frame has been reached starts its pulse, subject to R76 and to
VALID measurement (R79). -/
def scheduledPulse (s : State) : State :=
  match s.seq.schedule with
  | none => s
  | some c =>
    if pulseDue s then
      match (s.lane c.step).op with
      | none => s
      | some o =>
        settle (if s.rx.meas = .valid then tryClosePulse c.step s else loseSchedule c.step o s)
    else s

/-- SCHEDULED_CLOSE_PULSE. -/
def execScheduledClosePulse (s : State) : Host.Outcome State Fault Refusal := live s scheduledPulse

/-- WINDOW_TIMER_EXPIRY: one failed window, and a window in progress fails by timeout (R8). -/
def execWindowTimerExpiry (s : State) : Host.Outcome State Fault Refusal :=
  live s (endWindow (.failed .timeout))

/-- The feed timer expires (R15, R13): the feed is LOST, candidates are cleared, the timer stops. -/
def feedExpiry (s : State) : State :=
  if s.rx.feedTimer.isSome then
    let s := { s with rx.feedTimer := none }
    if s.rx.feedLive then
      { s with rx.feedLive := false,
               rx.debounce := s.rx.debounce.map fun d => { d with candidate := none, repeats := 0 } }
    else s
  else s

/-- FEED_TIMER_EXPIRY. -/
def execFeedTimerExpiry (s : State) : Host.Outcome State Fault Refusal := live s feedExpiry

/-! ### Window ends (R9 to R11, R20, R22) -/

/-- The failed-window count after one more failure (R9). -/
def countFailure (n : Nat) : Nat := min (n + 1) 255

/-- The measurement state after a failed window that brings the count to `n` (R9). -/
def measAfterFailure (m : MeasState) (n : Nat) : MeasState :=
  match m with
  | .noSync => .noSync
  | .valid => .holding
  | .holding => if 4 ≤ n then .stale else .holding
  | .stale => .stale

/-- The cause of MEAS_LOST (R10). -/
def measLostCause (m : MeasState) (n : Nat) : Bool :=
  decide (m = .stale) || (decide (m = .noSync) && decide (4 ≤ n))

/-- A good window end is handed on with its own frame number and wave position (R9, R10, R11, R20,
log 19). -/
def handGood (frames : List Samples) (frame : Word) (wave : BitVec 5) (s : State) : State :=
  let s := { s with rx.meas := .valid, rx.failedCount := 0 }
  let s := measNotice frame wave (endCause .measLost .yard s)
  { s with mu.computing := some ⟨frames, s.cfg.yard.voltageNominal, s.cfg.yard.currentNominal⟩,
           rx.inHand := some ⟨true, true, true, true⟩ }

/-- An entry one failed window older (R22). -/
def ageEntry (e : ChanEntry) : ChanEntry := { e with age := min (e.age + 1) 255 }

/-- A failed window end is handed on (R9, R10, R11, R22). -/
def handFailed (s : State) : State :=
  let n := countFailure (if s.rx.meas = .valid then 0 else s.rx.failedCount)
  let m := measAfterFailure s.rx.meas n
  let had := measLostCause s.rx.meas s.rx.failedCount
  let s := { s with rx.meas := m, rx.failedCount := n }
  let s := if measLostCause m n && !had then raise .measLost .yard s else s
  let s := measNotice s.rx.frameNumber s.rx.wave s
  { s with mu.entries := s.mu.entries.map ageEntry, rx.inHand := some ⟨false, true, true, true⟩ }

/-- The next window end is taken once every consumer has evaluated the previous one (R11, log 32). -/
def takeWindowEnd (s : State) : State :=
  if s.rx.inHand.isSome || s.mu.computing.isSome then s
  else
    match s.rx.ends with
    | [] => s
    | .good frames n w :: rest => settle (handGood frames n w { s with rx.ends := rest })
    | .failed _ :: rest => settle (handFailed { s with rx.ends := rest })

/-- WINDOW_END. -/
def execWindowEnd (s : State) : Host.Outcome State Fault Refusal := live s takeWindowEnd

/-- The window end in hand after a consumer has evaluated it; gone when all three have (R11). -/
def consumed (f : InHand → InHand) (s : State) : State :=
  { s with rx.inHand :=
      match s.rx.inHand with
      | none => none
      | some h => if (f h).vc || (f h).hs || (f h).ub then some (f h) else none }

end Sys2Proof.Machine
end

