-- ==== Sys2Proof/Machine/Measurement.lean ====
section
/-! DEFINITION. The measurement unit (chapter 2): the coefficient tables, the stages of section 2.4 and
PUBLICATION. All arithmetic is in exact integers; each stage applies the limits the manual names. -/

namespace Sys2Proof.Machine

/-! ### Arithmetic -/

/-- Digit-by-digit square root: bits `k-1` down to 0 of the root are tried in turn. -/
def isqrtFrom (n : Nat) : Nat → Nat → Nat
  | 0, r => r
  | k + 1, r => if (r + 2 ^ k) * (r + 2 ^ k) ≤ n then isqrtFrom n k (r + 2 ^ k) else isqrtFrom n k r

/-- The integer square root: the largest integer whose square does not exceed the argument (section
0.5). -/
def isqrt (n : Nat) : Nat := isqrtFrom n (n.log2 / 2 + 1) 0

/-- Division rounded to the nearest integer, a tie away from zero, for an even divisor (R25, R149). -/
def roundDiv (x : Int) (d : Nat) : Int := x.sign * ((x.natAbs + d / 2) / d : Nat)

/-- A value limited to a symmetrical range (R26). -/
def limitSym (lim : Int) (x : Int) : Int := if lim < x then lim else if x < -lim then -lim else x

/-- Peak to RMS: the floor of 46341/65536 times the value (R29, R140). -/
def peakToRms (n : Nat) : Nat := n * 46341 / 65536

/-! ### Coefficients (R23) -/

/-- C_k for k from 0 to 31. -/
def cosTable : List Int :=
  [16384, 16069, 15137, 13623, 11585, 9102, 6270, 3196, 0, -3196, -6270, -9102, -11585, -13623, -15137, -16069,
   -16384, -16069, -15137, -13623, -11585, -9102, -6270, -3196, 0, 3196, 6270, 9102, 11585, 13623, 15137, 16069]

/-- S_k for k from 0 to 31. -/
def sinTable : List Int :=
  [0, 3196, 6270, 9102, 11585, 13623, 15137, 16069, 16384, 16069, 15137, 13623, 11585, 9102, 6270, 3196,
   0, -3196, -6270, -9102, -11585, -13623, -15137, -16069, -16384, -16069, -15137, -13623, -11585, -9102, -6270, -3196]

/-- The sum of products of two sequences. -/
def dot : List Int → List Int → Int
  | x :: xs, c :: cs => x * c + dot xs cs
  | _, _ => 0

/-! ### The stages (R24 to R32) -/

/-- The figures of the first stage (R24). -/
structure Sums where
  sre : Int
  sim : Int
  ssq : Nat
  pk : Nat
  deriving DecidableEq, Repr

/-- The first stage (R24). -/
def formSums (xs : List Int) : Sums where
  sre := dot xs cosTable
  sim := -dot xs sinTable
  ssq := xs.foldl (fun a x => a + x.natAbs * x.natAbs) 0
  pk := xs.foldl (fun a x => max a x.natAbs) 0

/-- D from the residual and the fundamental (R31). -/
def formD (h f : Nat) : Option Nat := if 328 ≤ f then some (min (1000 * h / f) 9999) else none

/-- P by the channel's kind and the nominal snapshot (R32). -/
def formP (k : ChannelKind) (f vNom iNom : Nat) : Nat :=
  match k with
  | .voltage => min (1000 * f / vNom) 4000
  | .yardCurrent => min (1000 * f / iNom) 4000
  | .neutral => 0

/-- A channel's new entry from its sums (R25 to R32), with an age of 0 (R21). -/
def formEntry (k : ChannelKind) (vNom iNom : Nat) (u : Sums) : ChanEntry :=
  let re0 := roundDiv u.sre 262144
  let im0 := roundDiv u.sim 262144
  let re := limitSym 32767 re0
  let im := limitSym 32767 im0
  let m0 := isqrt (re.natAbs * re.natAbs + im.natAbs * im.natAbs)
  let m := min m0 32767
  let r := min (isqrt (u.ssq / 32)) 32767
  let f := peakToRms m
  let h := isqrt (r * r - f * f)
  { re := re, im := im, m := m, r := r, f := f, h := h, d := formD h f, p := formP k f vNom iNom, pk := u.pk,
    clipped := decide (re ≠ re0) || decide (im ≠ im0) || decide (m ≠ m0) || decide (32767 ≤ u.pk), age := 0 }

/-- The samples of one channel over a window, x_0 first (R20). -/
def channelSamples (frames : List Samples) (c : ChanId) : List Int := frames.map fun x => (look x c).toInt

/-- The entry computed for a channel (R20). -/
def computeEntry (w : Computation) (c : ChanId) : ChanEntry :=
  formEntry (channelKind c) w.voltageNominal w.currentNominal (formSums (channelSamples w.frames c))

/-! ### Publication (R21, R35, R194) -/

/-- Whether CHANNEL_CLIPPED is raised for a channel: channels 0-5 and the neutral channels of fitted
steps (R35). -/
def clipAlarmed (s : State) (c : ChanId) : Bool :=
  match stepOfChannel c with
  | none => true
  | some i => (s.stepRec i).fitted

/-- CHANNEL_CLIPPED of one channel at a publication: raised or ended when the flag changed (R35). -/
def clipNotice (old : Vector ChanEntry 14) (c : ChanId) (s : State) : State :=
  let was := (look old c).clipped
  let now := (look s.mu.entries c).clipped
  if clipAlarmed s c then
    if now && !was then raise .channelClipped (.channel c) s
    else if was && !now then endCause .channelClipped (.channel c) s
    else s
  else s

/-- The computation of a good window ends: all fourteen entries are replaced together, the window is
released, the publication count rises and CHANNEL_CLIPPED follows, channel by channel in ascending number
(R21, R35, R194; that order is the model's choice, log 14). -/
def publish (s : State) : State :=
  match s.mu.computing with
  | none => s
  | some w =>
    let old := s.mu.entries
    let s := { s with mu.entries := Vector.ofFn (computeEntry w), mu.computing := none,
                      link.pubCount := s.link.pubCount + 1 }
    forEach (clipNotice old) allChannels s

/-- PUBLICATION. -/
def execPublication (s : State) : Host.Outcome State Fault Refusal := live s publish

end Sys2Proof.Machine
end

