-- ==== Sys2Proof/Machine/Voltage.lean ====
section
/-! DEFINITION. Voltage control (chapter 6): VC_EVALUATION, in the order of R100, and the mode change of
R98 that SET_MODE asks for. -/

namespace Sys2Proof.Machine

/-- The P of a bus voltage channel. -/
def busP (s : State) (c : ChanId) : Nat := (look s.mu.entries c).p

/-- V_CTRL from the three P values (R99). -/
def formVctrl (quantity p0 p1 p2 : Nat) : Nat :=
  if quantity = 0 then (p0 + p1 + p2) / 3 else max p0 (max p1 p2)

/-- Step 1 of R100; the band standing at the evaluation comes into force (R116, log 34). -/
def vcForm (s : State) : State :=
  { s with vc.bandLow := s.cfg.yard.bandLow, vc.bandHigh := s.cfg.yard.bandHigh,
           vc.vctrl := formVctrl s.cfg.yard.controlQuantity (busP s 0) (busP s 1) (busP s 2) }

/-- Protective opens of every step CLOSED or CLOSING, in ascending order (R112, R181, log 14). -/
def openAll (s : State) : State :=
  forEach protectiveOpen
    (allSteps.filter fun i => decide ((s.stepRec i).state = .closed) || decide ((s.stepRec i).state = .closing)) s

/-- The bus is dead in this window: all three phases below DEAD_LEVEL (R111). -/
def busDead (s : State) : Bool :=
  decide (busP s 0 < s.cfg.yard.deadLevel) && decide (busP s 1 < s.cfg.yard.deadLevel) &&
    decide (busP s 2 < s.cfg.yard.deadLevel)

/-- DEAD_ACC and the dead opened flag are cleared, ending the cause of DEAD_BUS_OPEN (R111, R113). -/
def clearDead (s : State) : State :=
  let s' := { s with vc.deadAcc := 0, vc.deadOpened := false }
  if s.vc.deadOpened then endCause .deadBusOpen .yard s' else s'

/-- Step 2 of R100: DEAD_ACC and the dead-bus opening (R111, R112, R113). -/
def vcDead (s : State) : State :=
  if busDead s then
    let s := { s with vc.deadAcc := min (s.vc.deadAcc + 1) s.cfg.yard.deadDelay }
    if s.vc.deadAcc = s.cfg.yard.deadDelay then
      if s.vc.deadOpened then openAll s
      else
        let s := openAll { s with vc.deadOpened := true }
        raise .deadBusOpen .yard (clearBand s)
    else s
  else clearDead s

/-- The fast condition becomes absent and the cause of FAST_OV ends (R110). -/
def clearFastCondition (s : State) : State :=
  if s.vc.fastCondition then endCause .fastOv .yard { s with vc.fastCondition := false } else s

/-- Step 3 of R100: FAST_ACC and the fast overvoltage (R109, R110). -/
def vcFast (s : State) : State :=
  if s.cfg.yard.fastLevel ≤ s.vc.vctrl then
    let n := s.vc.fastAcc + 1
    if s.cfg.yard.fastDelay ≤ n then
      let s := placeUrgent { s with vc.fastAcc := 0, vc.fastDue := true }
      let s := { s with vc.request := if s.vc.request = .operating then .operating else .fastPending,
                        vc.fastCondition := true }
      raise .fastOv .yard s
    else { s with vc.fastAcc := n }
  else clearFastCondition { s with vc.fastAcc := 0 }

/-- Step 4 of R100: the band accumulators, and whether either has reached its delay after the update
(R101). -/
def vcBand (s : State) : State :=
  let c := s.cfg.yard
  let v := s.vc
  if deadCondition v then clearBand s
  else
    let s :=
      if v.vctrl < v.bandLow then { s with vc.lowAcc := min (v.lowAcc + 1) (delayInCycles c), vc.highAcc := 0 }
      else if v.bandHigh < v.vctrl then
        { s with vc.lowAcc := 0, vc.highAcc := min (v.highAcc + 1) (delayOutCycles c) }
      else { s with vc.lowAcc := v.lowAcc - 1, vc.highAcc := v.highAcc - 1 }
    { s with vc.lowReached := decide (s.vc.lowAcc = delayInCycles c),
             vc.highReached := decide (s.vc.highAcc = delayOutCycles c) }

/-- An add or removal was decided or not: the request placed or withdrawn (R105). -/
def vcDecided (cand : Option StepId) (pending : VcRequestState) (s : State) : State :=
  match cand with
  | some _ => placeOrdinary { s with vc.request := pending, vc.noCandidate := false }
  | none => withdrawVc { s with vc.request := .idle, vc.noCandidate := true }

/-- Step 5 of R100: the ordinary request (R105, R123). -/
def vcDecide (s : State) : State :=
  if s.vc.request = .operating ∨ s.vc.request = .fastPending then s
  else if s.vc.lowReached then
    if s.hs.vActive || closeInhibit s then withdrawVc { s with vc.request := .addBlocked }
    else vcDecided (addCandidate s) .addPending s
  else if s.vc.highReached then vcDecided (removeCandidate s) .removePending s
  else withdrawVc { s with vc.request := .idle, vc.noCandidate := false }

/-- Step 6 of R100: the unit's own unpulsed close is withdrawn under the dead condition or
HARM_ALARM_V (R106, log 30). -/
def vcWithdrawCheck (s : State) : State :=
  if deadCondition s.vc || s.hs.vActive then vcWithdrawClose s else s

/-- A good window end (R100). Grants follow the request that calls for them at once (R93, log 13). -/
def vcGood (s : State) : State :=
  let s := vcDead (vcForm s)
  let s := if s.vc.auto then settle (vcFast s) else s
  let s := if s.vc.auto then settle (vcDecide (vcBand s)) else s
  settle (vcWithdrawCheck s)

/-- A failed window end by the measurement state just set (R102, R110, R111). -/
def vcFailed (s : State) : State :=
  if s.rx.meas = .holding then
    let s := { s with vc.request :=
      if s.vc.request = .operating ∨ s.vc.request = .fastPending then s.vc.request else .idle }
    if s.arb.vcRequest = .urgent then s else withdrawVc s
  else
    let s := { clearBand s with vc.fastAcc := 0, vc.fastDue := false, vc.noCandidate := false,
                                vc.request := if s.vc.request = .operating then .operating else .idle }
    clearDead (clearFastCondition (withdrawVc s))

/-- Voltage control evaluates the window end in hand (R100, R102). -/
def vcEvaluate (s : State) : State :=
  match dueFor InHand.vc s with
  | none => s
  | some good =>
    let s := consumed (fun h => { h with vc := false }) s
    if good then vcGood s else settle (vcFailed s)

/-- VC_EVALUATION. -/
def execVcEvaluation (s : State) : Host.Outcome State Fault Refusal := live s vcEvaluate

/-- The mode becomes MANUAL (R98, R106, R110). -/
def enterManual (s : State) : State :=
  let s := { clearBand s with vc.auto := false, vc.fastAcc := 0, vc.fastDue := false }
  let s := vcWithdrawClose (withdrawVc (clearFastCondition s))
  { s with vc.noCandidate := false,
           vc.request := if s.vc.request = .operating then .operating else .idle }

/-- A change of mode; naming the mode in force changes nothing (R98). -/
def setMode (auto : Bool) (s : State) : State :=
  if s.vc.auto = auto then s
  else if auto then { s with vc.auto := true }
  else settle (enterManual s)

end Sys2Proof.Machine
end

