-- ==== Sys2Proof/Machine/Harmonic.lean ====
section
/-! DEFINITION. The harmonic supervisor (chapter 7): HARMONIC_EVALUATION, in the order of R120. -/

namespace Sys2Proof.Machine

/-! ### Distortion levels (R119) -/

/-- The D of a channel, none when the channel is skipped (R119). -/
def trustedD (s : State) (c : ChanId) : Option Nat :=
  if (look s.mu.entries c).clipped then none else (look s.mu.entries c).d

/-- The higher of two levels, a skipped one left out (R119). -/
def higher : Option Nat → Option Nat → Option Nat
  | none, b => b
  | some a, none => some a
  | some a, some b => some (max a b)

/-- Step 1 of R120. -/
def hsForm (s : State) : State :=
  { s with hs.dv := higher (trustedD s 0) (higher (trustedD s 1) (trustedD s 2)),
           hs.di := higher (trustedD s 3) (higher (trustedD s 4) (trustedD s 5)) }

/-! ### Alarm stages (R121, R122) -/

/-- The notice of a non-latching alarm whose state goes from one level to another: raised, ended or
neither. -/
def alarmEdge (k : AlarmKind) (sub : Subject) (was now : Bool) (s : State) : State :=
  if now && !was then raise k sub s else if was && !now then endCause k sub s else s

/-- The V stage; voltage control withdraws its unpulsed close when the state becomes active (R121, R122,
R106). -/
def hsStageV (s : State) : State :=
  let was := s.hs.vActive
  let r := alarmStage s.hs.dv s.cfg.yard.dvAlarm s.cfg.yard.harmAlarmDelay s.hs.vCount was
  let s := alarmEdge .harmAlarmV .yard was r.2 { s with hs.vCount := r.1, hs.vActive := r.2 }
  if r.2 && !was then vcWithdrawClose s else s

/-- The I stage (R121, R122). -/
def hsStageI (s : State) : State :=
  let was := s.hs.iActive
  let r := alarmStage s.hs.di s.cfg.yard.diAlarm s.cfg.yard.harmAlarmDelay s.hs.iCount was
  alarmEdge .harmAlarmI .yard was r.2 { s with hs.iCount := r.1, hs.iActive := r.2 }

/-! ### Resonance watch (R129) -/

/-- The rise condition of a watch (R129). -/
def riseCondition (s : State) (w : Watch) : Bool :=
  match s.hs.dv with
  | none => false
  | some dv => decide (w.dvBefore + s.cfg.yard.resonanceRise ≤ dv) && decide (s.cfg.yard.dvAlarm ≤ dv)

/-- Step 3 of R120: an open watch is compared with the new DV (R129, R130). -/
def hsWatch (s : State) : State :=
  match s.hs.watch with
  | none => s
  | some w =>
    if riseCondition s w then
      let r := markSuspect w.step { s with hs.watch := none }
      if r.2 then raise .resonance (.step w.step) r.1 else r.1
    else s

/-! ### Trip stage (R124 to R126) -/

/-- Shedding becomes no; the cause of HARM_TRIP ends if it was yes (R124, R126, R131). -/
def endShedding (s : State) : State :=
  if s.hs.shedding then endCause .harmTrip .yard { s with hs.shedding := false } else s

/-- The step a shed takes: the head when it is suspect, else the tail (R125). -/
def shedChoice (s : State) : Option StepId :=
  match s.tbl.closedOrder with
  | [] => none
  | i :: rest => if (s.stepRec i).suspect then some i else (i :: rest).getLast?

/-- A shed of a step (R125). The choice of the step, its arming request and its protective open are one event, so no
open confirmation falls between the choice and the request: one taken before it has unlisted the step, and the shed
chooses among the others. R69's row for OPEN is `armHoldoff`'s, which a shed does not reach (DESIGN CHOICE, log 38). -/
def shed (i : StepId) (s : State) : State :=
  let s := protectiveOpen i (armHoldoff i s)
  { raise .harmTrip .yard s with hs.shedding := true, hs.tripCount := 0 }

/-- Step 4 of R120: the trip stage, and a due shed when the list is not empty (R124, R125). -/
def hsTrip (s : State) : State :=
  match s.hs.dv with
  | none => s
  | some dv =>
    if s.cfg.yard.dvTrip ≤ dv then
      let t := tripThreshold s.cfg.yard s.hs
      let n := min (s.hs.tripCount + 1) t
      let s := { s with hs.tripCount := n }
      if n = t then
        match shedChoice s with
        | none => s
        | some i => shed i s
      else s
    else endShedding { s with hs.tripCount := 0 }

/-! ### The evaluation -/

/-- A good window end (R120). Within step 2 the V stage comes before the I stage, which is the model's choice
(log 14). -/
def hsGood (s : State) : State := hsTrip (hsWatch (hsStageI (hsStageV (hsForm s))))

/-- A failed window end by the measurement state just set (R131). -/
def hsFailed (s : State) : State :=
  if s.rx.meas = .holding then s
  else
    let s := alarmEdge .harmAlarmV .yard s.hs.vActive false s
    let s := alarmEdge .harmAlarmI .yard s.hs.iActive false s
    endShedding { s with hs.vCount := 0, hs.iCount := 0, hs.tripCount := 0, hs.vActive := false, hs.iActive := false }

/-- The harmonic supervisor evaluates the window end in hand (R120, R131). -/
def hsEvaluate (s : State) : State :=
  match dueFor InHand.hs s with
  | none => s
  | some good =>
    let s := consumed (fun h => { h with hs := false }) s
    settle (if good then hsGood s else hsFailed s)

/-- HARMONIC_EVALUATION. -/
def execHarmonicEvaluation (s : State) : Host.Outcome State Fault Refusal := live s hsEvaluate

end Sys2Proof.Machine
end

