-- ==== Sys2Proof/Machine/Inputs.lean ====
section
/-! DEFINITION. The yard inputs (section 10.2): INPUT_LEVEL_CHANGE with CLOSE_INHIBIT (R180),
EMERGENCY_OPEN (R181) and MAINT_PERMIT (R182), and the return of a step's lines (R183, R187). -/

namespace Sys2Proof.Machine

/-- The filter of an input (R179). -/
def State.input (s : State) : InputLine → InputFilter
  | .inp0 => s.io.inp0
  | .inp1 => s.io.inp1
  | .inp2 => s.io.inp2

/-- The state with one input's filter replaced. -/
def State.setInput (s : State) (n : InputLine) (f : InputFilter) : State :=
  match n with
  | .inp0 => { s with io.inp0 := f }
  | .inp1 => { s with io.inp1 := f }
  | .inp2 => { s with io.inp2 := f }

/-- A filter at a settled level (R179). -/
def InputFilter.settled (level : Bool) : InputFilter := ⟨level, level, none, 0⟩

/-- A DIRECT-owned step is returned to CONTROLLED; another is left (R181, R182, R183). -/
def returnDirect (i : StepId) (s : State) : State :=
  if (s.lines i).direct then s.modLines i fun _ => ⟨false, false, false, false, false⟩ else s

/-- Every DIRECT-owned step is returned (R181, R182). -/
def returnAll (s : State) : State := forEach returnDirect allSteps s

/-- Some step is DIRECT-owned. -/
def anyDirect (s : State) : Bool := allSteps.any fun i => (s.lines i).direct

/-- CLOSE_INHIBIT has changed: the sequencer ends its unpulsed closes and the pool is re-examined
(R180, R77). -/
def inhibitChanged (s : State) : State := settle (forEach watchClose allSteps s)

/-- The emergency edge (R181). -/
def emergencyEdge (s : State) : State := settle (raise .emergencyOpen .yard (openAll (returnAll s)))

/-- Permit loss (R182). -/
def permitLoss (s : State) : State := if anyDirect s then raise .permitLost .yard (returnAll s) else s

/-- What a level change of an input brings about, the new level standing (R180 to R182). -/
def levelEffect (n : InputLine) (level : Bool) (s : State) : State :=
  match n, level with
  | .inp0, _ => inhibitChanged s
  | .inp1, true => emergencyEdge s
  | .inp1, false => endCause .emergencyOpen .yard s
  | .inp2, true => s
  | .inp2, false => permitLoss s

/-- An input's candidate becomes its level (R179); the level in force is no change (log 5). The pin
shows the level that was sampled (log 23). -/
def levelChange (n : InputLine) (level : Bool) (s : State) : State :=
  if (s.input n).level = level then s else levelEffect n level (s.setInput n (InputFilter.settled level))

/-- INPUT_LEVEL_CHANGE. -/
def execInputLevelChange (n : InputLine) (level : Bool) (s : State) : Host.Outcome State Fault Refusal :=
  live s (levelChange n level)

end Sys2Proof.Machine
end

