-- ==== Sys2Proof/Machine/Lines.lean ====
section
/-! DEFINITION. The line requests (section 10.3): STAGE_LINES, HANDOVER, DRIVE_LINES, RETURN_LINES,
READ_LINES. -/

namespace Sys2Proof.Machine

/-- The line owner of a step as a data byte (11.9.2). -/
def ownerByte (s : State) (i : StepId) : Byte := byteOf (flagBit 0 (s.lines i).direct)

/-- The work of STAGE_LINES (R184). -/
def stageLines (step close trip : Byte) (s : State) : State × Answer :=
  match lineArgs step close trip with
  | none => answer .badArg [step] s
  | some (i, c, t) => answer .ok [step] (s.modLines i fun l => { l with stagedClose := c, stagedTrip := t })

/-- STAGE_LINES. -/
def execStageLines (tag step close trip : Byte) (s : State) : Host.Outcome State Fault Refusal :=
  live s (takeRequest 0x20 tag (stageLines step close trip))

/-- HANDOVER may be taken (R185). -/
def handoverAllowed (s : State) (i : StepId) : Bool :=
  let r := s.stepRec i
  maintPermit s && r.retired && decide (r.state ≠ .closing) && decide (r.state ≠ .opening)

/-- The last operation source becomes DIRECT when a direct line becomes active (R183, log 20). -/
def noteDirect (i : StepId) (rises : Bool) (s : State) : State :=
  if rises then s.modStep i fun c => { c with lastSource := .direct } else s

/-- A CONTROLLED-owned step becomes DIRECT-owned with its staged levels on its lines; a pulse of the
sequencer is cut (R183, R185). -/
def becomeDirect (i : StepId) (s : State) : State :=
  let l := s.lines i
  let s := s.modLines i fun l => { l with direct := true, directClose := l.stagedClose, directTrip := l.stagedTrip }
  noteDirect i (l.stagedClose || l.stagedTrip) (s.modLane i fun x => { x with closePulse := 0, tripPulse := 0 })

/-- The work of HANDOVER (R185). -/
def handover (step : Byte) (s : State) : State × Answer :=
  match stepOfByte step with
  | none => refuseOpen .badArg [step] 1 s
  | some i =>
    if handoverAllowed s i then
      let s := if (s.lines i).direct then s else becomeDirect i s
      answer .ok [step, ownerByte s i] s
    else answer .notPermitted [step, ownerByte s i] s

/-- HANDOVER. -/
def execHandover (tag step : Byte) (s : State) : Host.Outcome State Fault Refusal :=
  live s (takeRequest 0x21 tag (handover step))

/-- Levels driven on a DIRECT-owned step (R186). -/
def driveDirect (i : StepId) (c t : Bool) (s : State) : State :=
  let l := s.lines i
  noteDirect i ((c && !l.directClose) || (t && !l.directTrip)) (s.modLines i fun _ => ⟨true, c, t, c, t⟩)

/-- The work of DRIVE_LINES (R186). -/
def driveLines (step close trip : Byte) (s : State) : State × Answer :=
  match lineArgs step close trip with
  | none => answer .badArg [step] s
  | some (i, c, t) =>
    if (s.lines i).direct then answer .ok [step] (driveDirect i c t s) else answer .wrongState [step] s

/-- DRIVE_LINES. -/
def execDriveLines (tag step close trip : Byte) (s : State) : Host.Outcome State Fault Refusal :=
  live s (takeRequest 0x22 tag (driveLines step close trip))

/-- The return of a step's lines: a DIRECT-owned step to CONTROLLED with every level inactive, a
CONTROLLED-owned one with its staged levels inactive (R187). -/
def giveBack (i : StepId) (s : State) : State :=
  if (s.lines i).direct then returnDirect i s
  else s.modLines i fun l => { l with stagedClose := false, stagedTrip := false }

/-- The work of RETURN_LINES (R187). -/
def returnLines (step : Byte) (s : State) : State × Answer :=
  match stepOfByte step with
  | none => refuseOpen .badArg [step] 1 s
  | some i =>
    let s := giveBack i s
    answer .ok [step, ownerByte s i] s

/-- RETURN_LINES. -/
def execReturnLines (tag step : Byte) (s : State) : Host.Outcome State Fault Refusal :=
  live s (takeRequest 0x23 tag (returnLines step))

/-- The line state of a step (11.9.9). -/
def lineByte (s : State) (i : StepId) : Byte :=
  let l := s.lines i
  byteOf (flagBit 0 l.direct + flagBit 1 (closeLine s i) + flagBit 2 (tripLine s i) + flagBit 3 l.stagedClose +
    flagBit 4 l.stagedTrip)

/-- The data of READ_LINES (R188, 11.9.9). -/
def linesData (s : State) : List Byte :=
  allSteps.map (lineByte s) ++
  [byteOf (flagBit 0 (closeInhibit s) + flagBit 1 s.io.inp1.level + flagBit 2 (maintPermit s) +
      flagBit 3 (yardTripLine s)), byteOf s.io.strap.toNat]

/-- READ_LINES. -/
def execReadLines (tag : Byte) (s : State) : Host.Outcome State Fault Refusal :=
  live s (takeRequest 0x24 tag fun s => answer .ok (linesData s) s)

end Sys2Proof.Machine
end

