-- ==== Sys2Proof/Machine/Orders.lean ====
section
/-! DEFINITION. The order lifecycle requests (section 9.2): TAKE_SLOT, FILL_ORDER, POST_ORDER,
WITHDRAW_ORDER, RETIRE_ORDER, READ_ORDER. -/

namespace Sys2Proof.Machine

/-- The slot reply: number, generation and state after the request (11.9.2). -/
def slotReply (st : Status) (i : SlotId) (s : State) : State × Answer :=
  answer st [byteOf i.val, (s.slot i).generation, byteOf (slotStateCode (s.slot i).state)] s

/-- The slot reply of BAD_ARG and NONE is all 0 (11.9.2). -/
def emptyReply (st : Status) (s : State) : State × Answer := answer st [0, 0, 0] s

/-- A request that names a slot by handle (R156). -/
def byHandle (slot gen : Byte) (work : SlotId → State → State × Answer) (s : State) : State × Answer :=
  match slotOfByte slot with
  | none => emptyReply .badArg s
  | some i => if (s.slot i).generation = gen then work i s else slotReply .staleHandle i s

/-! ### TAKE_SLOT (R157) -/

/-- The work of TAKE_SLOT. -/
def takeSlot (s : State) : State × Answer :=
  match s.oe.freeQueue with
  | [] => emptyReply .noneToGive s
  | i :: rest =>
    let s := { s with oe.freeQueue := rest }.modSlot i fun o => { Slot.cleared o.generation with state := .draft }
    slotReply .ok i s

/-- TAKE_SLOT. -/
def execTakeSlot (tag : Byte) (s : State) : Host.Outcome State Fault Refusal :=
  live s (takeRequest 0x10 tag takeSlot)

/-! ### FILL_ORDER (R158) -/

/-- The work of FILL_ORDER on its slot. -/
def fillSlot (kind step timing : Byte) (notBefore deadline : Half) (i : SlotId) (s : State) : State × Answer :=
  if (s.slot i).state = .draft then
    let nb := min notBefore.toNat 600
    let dl := min deadline.toNat 3600
    let s := s.modSlot i fun o =>
      { o with kind := kind, step := step, timing := timing, notBefore := nb, deadline := dl }
    slotReply (if nb = notBefore.toNat ∧ dl = deadline.toNat then .ok else .clamped) i s
  else slotReply .wrongState i s

/-- FILL_ORDER. -/
def execFillOrder (tag slot generation kind step timing : Byte) (notBefore deadline : Half) (s : State) :
    Host.Outcome State Fault Refusal :=
  live s (takeRequest 0x11 tag (byHandle slot generation (fillSlot kind step timing notBefore deadline)))

/-! ### POST_ORDER (R159, R164) -/

/-- The arguments check of R159. -/
def postArgsOk (s : State) (o : Slot) : Bool :=
  (orderKindOf o.kind).isSome && (timingOf o.timing).isSome &&
    match stepOfByte o.step with
    | none => false
    | some st => decide ((s.stepRec st).state ≠ .absent)

/-- The delays check of R159. -/
def postDelaysOk (o : Slot) : Bool := decide (o.deadline = 0) || decide (o.notBefore < o.deadline)

/-- A delay of some seconds as a timer: none for 0 (R164). -/
def delayTimer (seconds : Nat) : Option Nat := if seconds = 0 then none else some (1000 * seconds)

/-- A DRAFT slot that passed its checks is posted (R159, R164). -/
def placeOrder (i : SlotId) (s : State) : State :=
  { s with oe.posted := s.oe.posted ++ [i] }.modSlot i fun o =>
    { o with state := .posted, postedAt := some s.clock.seconds, notBeforeTimer := delayTimer o.notBefore,
             deadlineTimer := delayTimer o.deadline }

/-- The work of POST_ORDER on its slot. -/
def postSlot (i : SlotId) (s : State) : State × Answer :=
  if (s.slot i).state ≠ .draft then slotReply .wrongState i s
  else if !postArgsOk s (s.slot i) then emptyReply .badArg s
  else if !postDelaysOk (s.slot i) then slotReply .inconsistent i s
  else slotReply .ok i (settle (placeOrder i s))

/-- POST_ORDER. -/
def execPostOrder (tag slot generation : Byte) (s : State) : Host.Outcome State Fault Refusal :=
  live s (takeRequest 0x12 tag (byHandle slot generation postSlot))

/-! ### WITHDRAW_ORDER (R160) -/

/-- The work of WITHDRAW_ORDER on its slot. -/
def withdrawSlot (i : SlotId) (s : State) : State × Answer :=
  match (s.slot i).state with
  | .posted => slotReply .ok i (settle (finishSlot i .withdrawn none (leavePosted i s)))
  | .executing => slotReply .tooLate i s
  | _ => slotReply .wrongState i s

/-- WITHDRAW_ORDER. -/
def execWithdrawOrder (tag slot generation : Byte) (s : State) : Host.Outcome State Fault Refusal :=
  live s (takeRequest 0x13 tag (byHandle slot generation withdrawSlot))

/-! ### RETIRE_ORDER (R161) -/

/-- A slot returns to FREE: cleared, its generation raised, at the tail of the free queue (R156, R161). -/
def freeSlot (i : SlotId) (s : State) : State :=
  { s with oe.freeQueue := s.oe.freeQueue ++ [i] }.modSlot i fun o => Slot.cleared (o.generation + 1)

/-- The work of RETIRE_ORDER on its slot. -/
def retireSlot (i : SlotId) (s : State) : State × Answer :=
  match (s.slot i).state with
  | .finished => slotReply .ok i (freeSlot i s)
  | .draft => slotReply .ok i (freeSlot i s)
  | _ => slotReply .wrongState i s

/-- RETIRE_ORDER. -/
def execRetireOrder (tag slot generation : Byte) (s : State) : Host.Outcome State Fault Refusal :=
  live s (takeRequest 0x14 tag (byHandle slot generation retireSlot))

/-! ### READ_ORDER (R162, R165) -/

/-- The wait causes of R165. -/
inductive WaitCause where
  | notBefore
  | earlierOrder
  | stepBusy
  | cooling
  | holdoff
  | inhibit
  | right
  | sync
  deriving DecidableEq, Repr

/-- Code of the wait cause, 0 when absent (11.9.8). -/
def waitCode : Option WaitCause → Nat
  | none => 0
  | some .notBefore => 1
  | some .earlierOrder => 2
  | some .stepBusy => 3
  | some .cooling => 4
  | some .holdoff => 5
  | some .inhibit => 6
  | some .right => 7
  | some .sync => 8

/-- The wait cause of a POSTED order for a step: the first that holds (R165). -/
def postedCause (s : State) (i : SlotId) (st : StepId) : WaitCause :=
  let close := decide (orderKindOf (s.slot i).kind = some .closeStep)
  if (s.slot i).notBeforeTimer.isSome then .notBefore
  else if earlierOrder s (s.oe.posted.takeWhile (· ≠ i)) st then .earlierOrder
  else if stepBusy s st then .stepBusy
  else if close && (s.stepRec st).cooling then .cooling
  else if close && (s.stepRec st).holdoff then .holdoff
  else if close && closeInhibit s then .inhibit
  else .right

/-- The sequencer holds a close of the step that has not started its pulse. -/
def holdsClose (s : State) (st : StepId) : Bool :=
  match (s.lane st).op with
  | some o => o.unpulsed
  | none => false

/-- The wait cause of a slot as it stands (R165). -/
def waitCause (s : State) (i : SlotId) : Option WaitCause :=
  match stepOfByte (s.slot i).step, (s.slot i).state with
  | some st, .posted => some (postedCause s i st)
  | some st, .executing =>
    if orderKindOf (s.slot i).kind = some .closeStep ∧ holdsClose s st then some .sync else none
  | _, _ => none

/-- Page 0 of READ_ORDER (11.9.8). -/
def orderPage0 (s : State) (i : SlotId) : List Byte :=
  let o := s.slot i
  [byteOf i.val, o.generation, byteOf (slotStateCode o.state), o.kind, o.step, o.timing] ++ be16 o.notBefore ++
  be16 o.deadline ++
  [byteOf (waitCode (waitCause s i)), byteOf (outcomeCode o.outcome), byteOf (reasonCode o.reason)]

/-- A time in four bytes, 0 when absent (11.9.8). -/
def timeBytes (t : Option Word) : List Byte := be32 (t.getD 0).toNat

/-- Page 1 of READ_ORDER (11.9.8). -/
def orderPage1 (s : State) (i : SlotId) : List Byte :=
  let o := s.slot i
  [byteOf i.val, o.generation, byteOf (slotStateCode o.state)] ++ timeBytes o.postedAt ++
  timeBytes o.finishedAt ++ [byteOf (flagBit 0 o.postedAt.isSome + flagBit 1 o.finishedAt.isSome), 0]

/-- The work of READ_ORDER (R162, 11.9.2). The page is checked before the generation, which is the model's
choice (log 33). A page that is not there has no layout and a stale handle no record, so their data is 0 (R162, R192);
for a slot above 31 or another mode the bytes that the page's layout gives are free (log 9). -/
def readOrder (mode slot generation page : Byte) (s : State) : State × Answer :=
  if 1 < page.toNat then answer .badArg [] s
  else
    match slotOfByte slot with
    | none => refuseOpen .badArg [] (if page = 0 then 13 else 12) s
    | some i =>
      if 1 < mode.toNat then refuseOpen .badArg [] (if page = 0 then 13 else 12) s
      else if mode = 0 ∧ (s.slot i).generation ≠ generation then answer .staleHandle [] s
      else answer .ok (if page = 0 then orderPage0 s i else orderPage1 s i) s

/-- READ_ORDER. -/
def execReadOrder (tag mode slot generation page : Byte) (s : State) : Host.Outcome State Fault Refusal :=
  live s (takeRequest 0x15 tag (readOrder mode slot generation page))

end Sys2Proof.Machine
end

