-- ==== Sys2Proof/Machine/Reads.lean ====
section
/-! DEFINITION. The reads of section 11.3: POLL, READ_IDENT, READ_STEP, READ_CHANNEL, READ_YARD, laid out
as sections 11.9.3 to 11.9.5 and 11.9.7 give. -/

namespace Sys2Proof.Machine

/-! ### Field codes -/

/-- Code of the measurement state (11.9.3). -/
def measCode : MeasState → Nat
  | .noSync => 0
  | .valid => 1
  | .holding => 2
  | .stale => 3

/-- Code of the holder (11.9.3). -/
def holderCode : Holder → Nat
  | .none => 0
  | .vc => 1
  | .oe => 2

/-- Code of the busy state (11.9.3). -/
def busyCode : Busy → Nat
  | .notBusy => 0
  | .inOperation => 1
  | .settling _ => 2

/-- Code of a step state (11.9.4). -/
def stateCode : StepState → Nat
  | .absent => 0
  | .unknown => 1
  | .opened => 2
  | .closing => 3
  | .closed => 4
  | .opening => 5
  | .faulted _ => 6

/-- Code of the fault cause, 0 when absent (11.9.4). -/
def faultCode : StepState → Nat
  | .faulted .positionInvalid => 1
  | .faulted .noIndication => 2
  | .faulted .switchFailure => 3
  | _ => 0

/-- Code of the indicated position (11.9.4). -/
def positionCode : Option Position → Nat
  | none => 0
  | some .opened => 1
  | some .closed => 2
  | some .invalid => 3

/-- Code of the lockout reason, 0 when absent (11.9.4). -/
def lockoutCode : Option LockoutReason → Nat
  | none => 0
  | some .unbalance => 1
  | some .closeFailure => 2
  | some .switchFailure => 3

/-- Code of the last operation source (11.9.4). -/
def sourceCode : OpSource → Nat
  | .none => 0
  | .auto => 1
  | .order => 2
  | .protection => 3
  | .direct => 4

/-- Code of a channel kind (11.9.5). -/
def kindCode : ChannelKind → Nat
  | .voltage => 0
  | .yardCurrent => 1
  | .neutral => 2

/-- Code of voltage control's request state (11.9.7). -/
def requestCode : VcRequestState → Nat
  | .idle => 0
  | .addPending => 1
  | .removePending => 2
  | .fastPending => 3
  | .operating => 4
  | .addBlocked => 5

/-- Place of a step in the closed-order list, 1 being the head; 0 when absent (11.9.4). -/
def listPosition (i : StepId) (l : List StepId) : Nat := if i ∈ l then l.idxOf i + 1 else 0

/-! ### POLL and READ_IDENT (R193) -/

/-- The POLL summary (11.9.3). -/
def pollData (s : State) : List Byte :=
  [byteOf (measCode s.rx.meas), byteOf (flagBit 0 s.vc.auto + flagBit 1 s.link.overrun),
   byteOf (holderCode s.arb.holder + 16 * busyCode s.arb.busy)] ++ be32 s.clock.seconds.toNat ++
  [byteOf (finishedCount s), byteOf s.link.alarms.length, byteOf (unackedCount s.link.alarms),
   byteOf s.oe.freeQueue.length, byteOf s.oe.posted.length]

/-- POLL. -/
def execPoll (tag : Byte) (s : State) : Host.Outcome State Fault Refusal :=
  live s (takeRequest 0x01 tag fun s => answer .ok (pollData s) s)

/-- Family code, part code, revision (R193). -/
def identData : List Byte := [0x45, 0x08, 0x01]

/-- READ_IDENT. -/
def execReadIdent (tag : Byte) (s : State) : Host.Outcome State Fault Refusal :=
  live s (takeRequest 0x02 tag (answer .ok identData))

/-! ### READ_STEP (R39, R194) -/

/-- The flags of a step record (11.9.4, page 0, data 4). -/
def stepFlags (r : StepRec) : Nat :=
  flagBit 0 r.fitted + flagBit 1 r.retired + flagBit 2 r.suspect + flagBit 3 r.cooling +
    flagBit 4 r.holdoff + flagBit 5 r.lockout.isSome + flagBit 6 r.hold

/-- Page 0 of READ_STEP (11.9.4). -/
def stepPage0 (s : State) (i : StepId) : List Byte :=
  let r := s.stepRec i
  [byteOf i.val, byteOf (stateCode r.state), byteOf (faultCode r.state), byteOf (positionCode r.indicated),
   byteOf (stepFlags r), byteOf (lockoutCode r.lockout)] ++
  be16 (secondsUp (s.timers i).cooldown) ++ be16 (secondsUp (s.timers i).holdoffMs) ++ be16 r.opCount ++
  [byteOf (16 * sourceCode r.lastSource + listPosition i s.tbl.closedOrder)]

/-- Page 1 of READ_STEP (11.9.4); stage and last u are absent while the step is not armed (R39). -/
def stepPage1 (s : State) (i : StepId) : List Byte :=
  let u := s.unb i
  let l := s.lines i
  [byteOf i.val, byteOf (if u.isArmed then unbalanceStage u else 0)] ++ be16 (if u.isArmed then u.lastU else 0) ++
  sbe16 (s.stepCfg i).baselineRe ++ sbe16 (s.stepCfg i).baselineIm ++
  [byteOf (flagBit 0 l.direct), byteOf (flagBit 0 l.stagedClose + flagBit 1 l.stagedTrip)]

/-- The work of READ_STEP (R194). A page that is not there has no layout, so its data is 0 (R192); for a step above
7 the bytes that the page's layout gives are free (log 9). -/
def readStep (step page : Byte) (s : State) : State × Answer :=
  if 1 < page.toNat then answer .badArg [] s
  else
    match stepOfByte step with
    | none => refuseOpen .badArg [] (if page = 0 then 13 else 10) s
    | some i => answer .ok (if page = 0 then stepPage0 s i else stepPage1 s i) s

/-- READ_STEP. -/
def execReadStep (tag step page : Byte) (s : State) : Host.Outcome State Fault Refusal :=
  live s (takeRequest 0x03 tag (readStep step page))

/-! ### READ_CHANNEL (R194) -/

/-- The first three data bytes of both pages (11.9.5). -/
def channelHead (s : State) (c : ChanId) : List Byte :=
  [byteOf c.val, byteOf (kindCode (channelKind c) + flagBit 7 (look s.mu.entries c).clipped), s.link.pubCount]

/-- Page 0 of READ_CHANNEL (11.9.5). -/
def channelPage0 (s : State) (c : ChanId) : List Byte :=
  let e := look s.mu.entries c
  channelHead s c ++ sbe16 e.re ++ sbe16 e.im ++ be16 e.m ++ be16 e.r ++ be16 e.pk

/-- Page 1 of READ_CHANNEL (11.9.5). -/
def channelPage1 (s : State) (c : ChanId) : List Byte :=
  let e := look s.mu.entries c
  channelHead s c ++ be16 e.f ++ be16 e.h ++ level16 e.d ++ be16 e.p ++ [byteOf e.age, 0]

/-- The work of READ_CHANNEL (R194). A page that is not there has no layout, so its data is 0 (R192); for a channel
above 13 the bytes that the page's layout gives are free (log 9). -/
def readChannel (channel page : Byte) (s : State) : State × Answer :=
  if 1 < page.toNat then answer .badArg [] s
  else
    match chanOfByte channel with
    | none => refuseOpen .badArg [] (if page = 0 then 13 else 12) s
    | some c => answer .ok (if page = 0 then channelPage0 s c else channelPage1 s c) s

/-- READ_CHANNEL. -/
def execReadChannel (tag channel page : Byte) (s : State) : Host.Outcome State Fault Refusal :=
  live s (takeRequest 0x04 tag (readChannel channel page))

/-! ### READ_YARD (R195, R117, R134) -/

/-- Page 0 of READ_YARD: voltage control (11.9.7). -/
def yardPage0 (s : State) : List Byte :=
  let v := s.vc
  be16 v.vctrl ++ be16 v.lowAcc ++ be16 v.highAcc ++ [byteOf v.fastAcc] ++ be16 v.deadAcc ++
  [byteOf (requestCode v.request),
   byteOf (flagBit 0 v.noCandidate + flagBit 1 v.fastCondition + flagBit 2 v.fastDue + flagBit 3 v.deadOpened)]

/-- Page 1 of READ_YARD: the harmonic supervisor (11.9.7). -/
def yardPage1 (s : State) : List Byte :=
  let h := s.hs
  level16 h.dv ++ level16 h.di ++ be16 h.vCount ++ be16 h.iCount ++ be16 h.tripCount ++
  [byteOf (flagBit 0 h.shedding + flagBit 1 h.vActive + flagBit 2 h.iActive)]

/-- Page 2 of READ_YARD: the closed-order list, places beyond it 0xFF (11.9.7). -/
def yardPage2 (s : State) : List Byte :=
  let l := s.tbl.closedOrder
  (byteOf l.length :: l.map (fun i : StepId => byteOf i.val) ++ List.replicate 12 0xFF).take 13

/-- The work of READ_YARD (R195). A page that is not there has no layout, so its data is 0 (R192). -/
def readYard (page : Byte) (s : State) : State × Answer :=
  if page = 0 then answer .ok (yardPage0 s) s
  else if page = 1 then answer .ok (yardPage1 s) s
  else if page = 2 then answer .ok (yardPage2 s) s
  else answer .badArg [] s

/-- READ_YARD. -/
def execReadYard (tag page : Byte) (s : State) : Host.Outcome State Fault Refusal :=
  live s (takeRequest 0x05 tag (readYard page))

end Sys2Proof.Machine
end

