-- ==== Sys2Proof/Machine/Reset.lean ====
section
/-! DEFINITION. RESET_ASSERT and RESET_RELEASE (R17, R36, R38, R63, R74, R97, R118, R135, R153, R177,
R178, R179, R183, R203). -/

namespace Sys2Proof.Machine

/-- RESET is held from now on: pulses are cut, READY falls, a station link frame in progress is
discarded; every line, ATTN included, is inactive while RESET is held (R97, R203). -/
def assertReset (s : State) : State :=
  { s with resetHeld := true,
           seq.lanes := s.seq.lanes.map fun l => { l with closePulse := 0, tripPulse := 0 },
           seq.yardTrip := 0, link.ready := false, link.rxBytes := 0, link.rxBits := 0 }

/-- RESET_ASSERT. -/
def execResetAssert (s : State) : Host.Outcome State Fault Refusal := .next (assertReset s)

/-- RESET_RELEASE with the pins at the moment of release. The queue, the draw counter and what the master clocks
are the model's own and are kept. -/
def execResetRelease (pins : Pins) (s : State) : Host.Outcome State Fault Refusal :=
  .next { State.released pins with
    pending := s.pending, freeDraws := s.freeDraws, extraBits := s.extraBits }

end Sys2Proof.Machine
end

