-- ==== Sys2Proof/Machine/SettingsRequests.lean ====
section
/-! DEFINITION. The settings and mode requests (sections 11.4 and 11.5): READ_SETTING, WRITE_SETTING,
READ_STEP_SETTING, WRITE_STEP_SETTING, DEFAULT_SETTINGS with the capping of R116, R133 and R152, and
SET_MODE. -/

namespace Sys2Proof.Machine

/-! ### Capping -/

/-- LOW_ACC and HIGH_ACC capped to their delays (R116). -/
def capBand (s : State) : State :=
  { s with vc.lowAcc := min s.vc.lowAcc (delayInCycles s.cfg.yard),
           vc.highAcc := min s.vc.highAcc (delayOutCycles s.cfg.yard) }

/-- FAST_ACC capped to FAST_DELAY (R116). -/
def capFast (s : State) : State := { s with vc.fastAcc := min s.vc.fastAcc s.cfg.yard.fastDelay }

/-- DEAD_ACC capped to DEAD_DELAY (R116). -/
def capDead (s : State) : State := { s with vc.deadAcc := min s.vc.deadAcc s.cfg.yard.deadDelay }

/-- The alarm counters of the supervisor capped to HARM_ALARM_DELAY (R133). -/
def capHarmAlarm (s : State) : State :=
  { s with hs.vCount := min s.hs.vCount s.cfg.yard.harmAlarmDelay,
           hs.iCount := min s.hs.iCount s.cfg.yard.harmAlarmDelay }

/-- The trip counter of the supervisor capped to the threshold in force (R133). -/
def capHarmTrip (s : State) : State :=
  { s with hs.tripCount := min s.hs.tripCount (tripThreshold s.cfg.yard s.hs) }

/-- A step's unbalance counters capped to their delays (R152). -/
def capUnbalance (c : StepSettings) (u : Unbalance) : Unbalance :=
  { u with alarmCount := min u.alarmCount c.unbAlarmDelay, tripCount := min u.tripCount c.unbTripDelay }

/-- The consequences of storing a yard setting (R116, R133). -/
def yardStored (y : YardId) (s : State) : State :=
  match y with
  | .nominalFrequency | .delayIn | .delayOut => capBand s
  | .fastDelay => capFast s
  | .deadDelay => capDead s
  | .harmAlarmDelay => capHarmAlarm s
  | .harmTripDelay => if s.hs.shedding then s else capHarmTrip s
  | .shedInterval => if s.hs.shedding then capHarmTrip s else s
  | _ => s

/-- The consequences of storing a per-step setting (R152). -/
def stepStored (p : StepSettingId) (i : StepId) (s : State) : State :=
  match p with
  | .unbAlarmDelay => s.modUnb i fun u => { u with alarmCount := min u.alarmCount (s.stepCfg i).unbAlarmDelay }
  | .unbTripDelay => s.modUnb i fun u => { u with tripCount := min u.tripCount (s.stepCfg i).unbTripDelay }
  | _ => s

/-! ### Yard settings (R196) -/

/-- The work of READ_SETTING. -/
def readSetting (ident : Byte) (s : State) : State × Answer :=
  match yardIdOf ident with
  | none => refuseOpen .badArg [ident] 4 s
  | some y => answer .ok (ident :: be32 (yardRead s.cfg.yard y)) s

/-- READ_SETTING. -/
def execReadSetting (tag ident : Byte) (s : State) : Host.Outcome State Fault Refusal :=
  live s (takeRequest 0x06 tag (readSetting ident))

/-- A yard value that passed its check is stored, with its consequences (R196 step 3). -/
def storeYard (y : YardId) (v : Nat) (s : State) : State :=
  yardStored y { s with cfg.yard := yardWrite s.cfg.yard y v }

/-- The work of WRITE_SETTING. -/
def writeSetting (ident : Byte) (value : Word) (s : State) : State × Answer :=
  match yardIdOf ident with
  | none => refuseOpen .badArg [ident] 4 s
  | some y =>
    let v := yardClamp y value.toInt
    if yardConsistent s.cfg.yard y v then
      answer (clampStatus value.toInt v) (ident :: be32 v) (storeYard y v s)
    else answer .inconsistent (ident :: be32 (yardRead s.cfg.yard y)) s

/-- WRITE_SETTING. -/
def execWriteSetting (tag ident : Byte) (value : Word) (s : State) : Host.Outcome State Fault Refusal :=
  live s (takeRequest 0x07 tag (writeSetting ident value))

/-! ### Per-step settings (R196, R58) -/

/-- The value of a per-step setting of a step, OPERATION_COUNT from its record (R58). -/
def stepValue (s : State) (i : StepId) (p : StepSettingId) : Int :=
  stepSettingRead (s.stepCfg i) (s.stepRec i).opCount p

/-- The work of READ_STEP_SETTING. -/
def readStepSetting (step ident : Byte) (s : State) : State × Answer :=
  match stepOfByte step, stepSettingIdOf ident with
  | some i, some p => answer .ok (step :: ident :: sbe32 (stepValue s i p)) s
  | _, _ => refuseOpen .badArg [step, ident] 4 s

/-- READ_STEP_SETTING. -/
def execReadStepSetting (tag step ident : Byte) (s : State) : Host.Outcome State Fault Refusal :=
  live s (takeRequest 0x08 tag (readStepSetting step ident))

/-- A per-step value that passed its check is stored, OPERATION_COUNT in the step record (R196, R58). -/
def storeStep (i : StepId) (p : StepSettingId) (v : Int) (s : State) : State :=
  match p with
  | .operationCount => s.modStep i fun c => { c with opCount := v.toNat }
  | p => stepStored p i { s with cfg.perStep := put s.cfg.perStep i (stepSettingWrite (s.stepCfg i) p v) }

/-- The work of WRITE_STEP_SETTING. -/
def writeStepSetting (step ident : Byte) (value : Word) (s : State) : State × Answer :=
  match stepOfByte step, stepSettingIdOf ident with
  | some i, some p =>
    let v := stepClamp p value.toInt
    if stepConsistent (s.stepCfg i) p v then
      answer (clampStatus value.toInt v) (step :: ident :: sbe32 v) (storeStep i p v s)
    else answer .inconsistent (step :: ident :: sbe32 (stepValue s i p)) s
  | _, _ => refuseOpen .badArg [step, ident] 4 s

/-- WRITE_STEP_SETTING. -/
def execWriteStepSetting (tag step ident : Byte) (value : Word) (s : State) : Host.Outcome State Fault Refusal :=
  live s (takeRequest 0x09 tag (writeStepSetting step ident value))

/-! ### DEFAULT_SETTINGS (R197) -/

/-- Every setting of the store to its default, then the capping for the new delays (R197). -/
def defaultSettings (s : State) : State :=
  let s := capHarmTrip (capHarmAlarm (capDead (capFast (capBand { s with cfg := Settings.default }))))
  { s with ub := s.ub.map (capUnbalance StepSettings.default) }

/-- DEFAULT_SETTINGS. -/
def execDefaultSettings (tag : Byte) (s : State) : Host.Outcome State Fault Refusal :=
  live s (takeRequest 0x0A tag fun s => answer .ok [] (defaultSettings s))

/-! ### SET_MODE (R198) -/

/-- The mode in force as a data byte. -/
def modeByte (s : State) : Byte := byteOf (flagBit 0 s.vc.auto)

/-- SET_MODE's answer: the mode in force after the request. -/
def modeAnswer (st : Status) (s : State) : State × Answer := answer st [modeByte s] s

/-- The work of SET_MODE (R198, R98). -/
def requestMode (mode : Byte) (s : State) : State × Answer :=
  if mode = 0 then modeAnswer .ok (setMode false s)
  else if mode = 1 then modeAnswer .ok (setMode true s)
  else modeAnswer .badArg s

/-- SET_MODE. -/
def execSetMode (tag mode : Byte) (s : State) : Host.Outcome State Fault Refusal :=
  live s (takeRequest 0x0B tag (requestMode mode))

end Sys2Proof.Machine
end

