-- ==== Sys2Proof/Machine/Timers.lean ====
section
/-! DEFINITION. The expiries of the running times (R65, R72, R81, R83, R84, R86 to R88, R80, R92, R130,
R164). Each brings a running time to 0 and does what its rule says; the expiry of a time that is not
running has no effect (log 3, log 5). -/

namespace Sys2Proof.Machine

/-- The cooldown of a step expires: COOLING is removed (R65). -/
def cooldownExpiry (i : StepId) (s : State) : State :=
  if 0 < (s.timers i).cooldown then settle (stopCooldown i s) else s

/-- COOLDOWN_EXPIRY. -/
def execCooldownExpiry (i : StepId) (s : State) : Host.Outcome State Fault Refusal := live s (cooldownExpiry i)

/-- The holdoff of a step stops and HARMONIC_HOLDOFF is removed (R72). -/
def stopHoldoff (i : StepId) (s : State) : State :=
  (s.modTimers i fun t => { t with holdoffMs := 0 }).modStep i fun c => { c with holdoff := false }

/-- The holdoff of a step expires (R72). -/
def holdoffExpiry (i : StepId) (s : State) : State :=
  if 0 < (s.timers i).holdoffMs then settle (stopHoldoff i s) else s

/-- HOLDOFF_EXPIRY. -/
def execHoldoffExpiry (i : StepId) (s : State) : Host.Outcome State Fault Refusal := live s (holdoffExpiry i)

/-- CLOSE_PULSE_END: the CLOSE line goes inactive (R81). -/
def execClosePulseEnd (i : StepId) (s : State) : Host.Outcome State Fault Refusal :=
  live s fun s => s.modLane i fun l => { l with closePulse := 0 }

/-- TRIP_PULSE_END: the TRIP line goes inactive (R86). -/
def execTripPulseEnd (i : StepId) (s : State) : Host.Outcome State Fault Refusal :=
  live s fun s => s.modLane i fun l => { l with tripPulse := 0 }

/-- The confirm timer of a close expires: with the feed LIVE the close failure chain, with the feed LOST
FAULTED with NO_INDICATION (R83, R84). -/
def closeConfirmExpiry (i : StepId) (s : State) : State :=
  match (s.lane i).op, (s.lane i).confirm with
  | some o, some _ =>
    match o.kind with
    | .close _ => settle (if s.rx.feedLive then closeFailure i o s else closeNoIndication i o s)
    | .trip => s
  | _, _ => s

/-- CLOSE_CONFIRM_EXPIRY. -/
def execCloseConfirmExpiry (i : StepId) (s : State) : Host.Outcome State Fault Refusal :=
  live s (closeConfirmExpiry i)

/-- The confirm timer of an open expires (R87, R88). -/
def openConfirmExpiry (i : StepId) (s : State) : State :=
  match (s.lane i).op, (s.lane i).confirm with
  | some o, some _ =>
    match o.kind with
    | .trip => settle (openFailure i o s)
    | .close _ => s
  | _, _ => s

/-- OPEN_CONFIRM_EXPIRY. -/
def execOpenConfirmExpiry (i : StepId) (s : State) : Host.Outcome State Fault Refusal :=
  live s (openConfirmExpiry i)

/-- YARD_TRIP_END: the YARD TRIP line goes inactive (R88). -/
def execYardTripEnd (s : State) : Host.Outcome State Fault Refusal :=
  live s fun s => { s with seq.yardTrip := 0 }

/-- An order's close that is AWAITING_VALID ends FAILED NO_SYNC when its sync wait timer expires (R80). -/
def endAwaiting (s : State) : State :=
  match unpulsedClose s with
  | none => s
  | some (i, o) => if o.phase = .awaitingValid then abandonClose i .failed (some .noSync) s else s

/-- The sync wait timer expires (R80): a SCHEDULED close goes on, with the timer at 0 (log 24). -/
def syncWaitExpiry (s : State) : State :=
  match s.seq.syncWait with
  | some (_ + 1) => settle (endAwaiting { s with seq.syncWait := some 0 })
  | _ => s

/-- SYNC_WAIT_EXPIRY. -/
def execSyncWaitExpiry (s : State) : Host.Outcome State Fault Refusal := live s syncWaitExpiry

/-- The settle expires: the right is NOT_BUSY and the grant rule is applied (R92, R93). -/
def settleExpiry (s : State) : State :=
  match s.arb.busy with
  | .settling _ => settle (freeRight s)
  | _ => s

/-- SETTLE_EXPIRY. -/
def execSettleExpiry (s : State) : Host.Outcome State Fault Refusal := live s settleExpiry

/-- RESONANCE_WATCH_EXPIRY: the watch ends without a mark (R130). -/
def execResonanceWatchExpiry (s : State) : Host.Outcome State Fault Refusal :=
  live s fun s => { s with hs.watch := none }

/-- The not-before of a POSTED order elapses (R164). -/
def notBeforeElapsed (i : SlotId) (s : State) : State :=
  if (s.slot i).notBeforeTimer.isSome then settle (s.modSlot i fun o => { o with notBeforeTimer := none }) else s

/-- NOT_BEFORE_ELAPSED. -/
def execNotBeforeElapsed (i : SlotId) (s : State) : Host.Outcome State Fault Refusal :=
  live s (notBeforeElapsed i)

/-- The deadline of a POSTED order expires (R164). -/
def deadlineExpiry (i : SlotId) (s : State) : State :=
  if (s.slot i).deadlineTimer.isSome then settle (finishSlot i .expired none (leavePosted i s)) else s

/-- DEADLINE_EXPIRY. -/
def execDeadlineExpiry (i : SlotId) (s : State) : Host.Outcome State Fault Refusal := live s (deadlineExpiry i)

end Sys2Proof.Machine
end

