-- ==== Sys2Proof/Machine/Unbalance.lean ====
section
/-! DEFINITION. The unbalance protection unit (chapter 8): UNBALANCE_EVALUATION, step by step in the
order of R139. -/

namespace Sys2Proof.Machine

/-- Step 1 of R139: the arming of a CLOSED step (R137), or of one whose departure comes after this window end
(R138). -/
def armStep (i : StepId) (s : State) : State :=
  if ((s.stepRec i).state = .closed ∨ (s.unb i).departed = true) ∧ (s.unb i).armed = false then
    s.modUnb i fun u => { u with armCount := min (u.armCount + 1) 10, armed := decide (10 ≤ u.armCount + 1) }
  else s

/-- u from a neutral entry, a baseline and NEUTRAL_RATED (R140). -/
def formU (e : ChanEntry) (c : StepSettings) : Nat :=
  if e.clipped then 9999
  else
    let dre := (e.re - c.baselineRe).natAbs
    let dim := (e.im - c.baselineIm).natAbs
    let urms := peakToRms (min (isqrt (dre * dre + dim * dim)) 32767)
    min (1000 * urms / c.neutralRated) 9999

/-- u of a step at this window (R140). -/
def stepU (s : State) (i : StepId) : Nat := formU (look s.mu.entries (neutralChannel i)) (s.stepCfg i)

/-- The alarm stage of an armed step (R141, R145). -/
def ubAlarm (i : StepId) (u : Nat) (s : State) : State :=
  let was := (s.unb i).alarmActive
  let r := alarmStage (some u) (s.stepCfg i).unbAlarm (s.stepCfg i).unbAlarmDelay (s.unb i).alarmCount was
  alarmEdge .unbalanceAlarm (.step i) was r.2 (s.modUnb i fun x => { x with alarmCount := r.1, alarmActive := r.2 })

/-- The trip timing and trip counter of an armed step after u (R142). -/
def ubTripStage (u : Nat) (c : StepSettings) (x : Unbalance) : Unbalance :=
  if c.unbTrip ≤ u then { x with tripTiming := true, tripCount := min (x.tripCount + 1) c.unbTripDelay }
  else if dropOut c.unbTrip ≤ u then x
  else { x with tripTiming := false, tripCount := 0 }

/-- A trip is due after the update (R142). -/
def ubDue (u : Nat) (c : StepSettings) (x : Unbalance) : Bool :=
  x.tripTiming && decide (x.tripCount = c.unbTripDelay) && decide (c.unbTrip ≤ u)

/-- The unit's own part of a due trip (R143): the tripped flag, the alarm, the cleared stages. -/
def ubTrip (i : StepId) (s : State) : State :=
  raise .unbalanceTrip (.step i) ((clearStages i s).modUnb i fun x => { x with tripped := true })

/-- The neighbours' part of a due trip (R143): LOCKOUT, then the protective open (log 14). The open of a step that
has left CLOSED meanwhile finds it OPENING, OPEN or FAULTED and issues no pulse (R89, R138). -/
def ubTripOut (i : StepId) (s : State) : State := protectiveOpen i (addLockout i .unbalance s)

/-- Steps 2 and 3 of R139, with the answer whether a trip was made. -/
def ubStages (i : StepId) (s : State) : State × Bool :=
  if (s.unb i).armed then
    let u := stepU s i
    let s := s.modUnb i fun x => { x with lastU := u }
    if (s.unb i).tripped then (s, false)
    else
      let s := (ubAlarm i u s).modUnb i (ubTripStage u (s.stepCfg i))
      if ubDue u (s.stepCfg i) (s.unb i) then (ubTrip i s, true) else (s, false)
  else (s, false)

/-- The sixteenth window: the baseline is stored, the stages are reset, the order ends DONE (R149). -/
def completeLearning (i : StepId) (sumRe sumIm : Int) (s : State) : State :=
  let c := { s.stepCfg i with baselineRe := roundDiv sumRe 16, baselineIm := roundDiv sumIm 16 }
  let s := { s with cfg.perStep := put s.cfg.perStep i c }
  let s := (clearStages i s).modUnb i fun u => { u with learning := none }
  finishExecuting .done none s

/-- Step 4 of R139: the window is taken into a learning in progress (R148 to R150). -/
def learnWindow (i : StepId) (s : State) : State :=
  match (s.unb i).learning with
  | none => s
  | some l =>
    let e := look s.mu.entries (neutralChannel i)
    if e.clipped then interruptLearning i s
    else if l.count + 1 = 16 then completeLearning i (l.sumRe + e.re) (l.sumIm + e.im) s
    else s.modUnb i fun u => { u with learning := some ⟨l.count + 1, l.sumRe + e.re, l.sumIm + e.im⟩ }

/-- The evaluation of one step at a good window (R139). The neighbours hear of a trip after the window is taken
into a learning (R149, log 15). A departure that reached the unit after the window end is taken after both, and the
trip's LOCKOUT and protective open find the step as it left CLOSED (R138, R150, log 37). -/
def ubStep (i : StepId) (s : State) : State :=
  let r := ubStages i (armStep i s)
  let s := takeDeparture i (learnWindow i r.1)
  if r.2 then ubTripOut i s else s

/-- One step at a failed window (R146, R150). -/
def ubFailedStep (i : StepId) (s : State) : State :=
  let s := interruptLearning i s
  if s.rx.meas = .holding then s
  else
    let s := if (s.unb i).armed then s else s.modUnb i fun u => { u with armCount := 0 }
    if (s.unb i).tripped then s else clearStages i s

/-- The unbalance protection unit evaluates the window end in hand (R139, R146), step by step in ascending
number, which is the model's choice (log 14). -/
def ubEvaluate (s : State) : State :=
  match dueFor InHand.ub s with
  | none => s
  | some good =>
    let s := consumed (fun h => { h with ub := false }) s
    settle (forEach (if good then ubStep else ubFailedStep) allSteps s)

/-- UNBALANCE_EVALUATION. -/
def execUnbalanceEvaluation (s : State) : Host.Outcome State Fault Refusal := live s ubEvaluate

end Sys2Proof.Machine
end

