-- ==== Sys2Proof/Machine/Dispatch.lean ====
section
/-! DEFINITION. One arm per command, in the table's order. -/

namespace Sys2Proof.Machine

/-- The effect of a command on everything but the queue. -/
def exec (i : Instr) (s : State) : Host.Outcome State Fault Refusal :=
  match i with
  | .resetAssert => Sys2Proof.Machine.execResetAssert s
  | .resetRelease pins => Sys2Proof.Machine.execResetRelease pins s
  | .frameEnd frame => Sys2Proof.Machine.execFrameEnd frame s
  | .scheduledClosePulse => Sys2Proof.Machine.execScheduledClosePulse s
  | .windowTimerExpiry => Sys2Proof.Machine.execWindowTimerExpiry s
  | .feedTimerExpiry => Sys2Proof.Machine.execFeedTimerExpiry s
  | .windowEnd => Sys2Proof.Machine.execWindowEnd s
  | .publication => Sys2Proof.Machine.execPublication s
  | .vcEvaluation => Sys2Proof.Machine.execVcEvaluation s
  | .harmonicEvaluation => Sys2Proof.Machine.execHarmonicEvaluation s
  | .unbalanceEvaluation => Sys2Proof.Machine.execUnbalanceEvaluation s
  | .cooldownExpiry step => Sys2Proof.Machine.execCooldownExpiry step s
  | .holdoffExpiry step => Sys2Proof.Machine.execHoldoffExpiry step s
  | .closePulseEnd step => Sys2Proof.Machine.execClosePulseEnd step s
  | .tripPulseEnd step => Sys2Proof.Machine.execTripPulseEnd step s
  | .closeConfirmExpiry step => Sys2Proof.Machine.execCloseConfirmExpiry step s
  | .openConfirmExpiry step => Sys2Proof.Machine.execOpenConfirmExpiry step s
  | .yardTripEnd => Sys2Proof.Machine.execYardTripEnd s
  | .syncWaitExpiry => Sys2Proof.Machine.execSyncWaitExpiry s
  | .settleExpiry => Sys2Proof.Machine.execSettleExpiry s
  | .resonanceWatchExpiry => Sys2Proof.Machine.execResonanceWatchExpiry s
  | .notBeforeElapsed slot => Sys2Proof.Machine.execNotBeforeElapsed slot s
  | .deadlineExpiry slot => Sys2Proof.Machine.execDeadlineExpiry slot s
  | .inputLevelChange line level => Sys2Proof.Machine.execInputLevelChange line level s
  | .frameAbort bits => Sys2Proof.Machine.execFrameAbort bits s
  | .fillerFrame => Sys2Proof.Machine.execFillerFrame s
  | .responseLoad => Sys2Proof.Machine.execResponseLoad s
  | .badCode code tag => Sys2Proof.Machine.execBadCode code tag s
  | .poll tag => Sys2Proof.Machine.execPoll tag s
  | .readIdent tag => Sys2Proof.Machine.execReadIdent tag s
  | .readStep tag step page => Sys2Proof.Machine.execReadStep tag step page s
  | .readChannel tag channel page => Sys2Proof.Machine.execReadChannel tag channel page s
  | .readYard tag page => Sys2Proof.Machine.execReadYard tag page s
  | .readSetting tag ident => Sys2Proof.Machine.execReadSetting tag ident s
  | .writeSetting tag ident value => Sys2Proof.Machine.execWriteSetting tag ident value s
  | .readStepSetting tag step ident => Sys2Proof.Machine.execReadStepSetting tag step ident s
  | .writeStepSetting tag step ident value => Sys2Proof.Machine.execWriteStepSetting tag step ident value s
  | .defaultSettings tag => Sys2Proof.Machine.execDefaultSettings tag s
  | .setMode tag mode => Sys2Proof.Machine.execSetMode tag mode s
  | .readAlarm tag index => Sys2Proof.Machine.execReadAlarm tag index s
  | .ackAlarm tag kind subject => Sys2Proof.Machine.execAckAlarm tag kind subject s
  | .ackAll tag => Sys2Proof.Machine.execAckAll tag s
  | .takeSlot tag => Sys2Proof.Machine.execTakeSlot tag s
  | .fillOrder tag slot generation kind step timing notBefore deadline => Sys2Proof.Machine.execFillOrder tag slot generation kind step timing notBefore deadline s
  | .postOrder tag slot generation => Sys2Proof.Machine.execPostOrder tag slot generation s
  | .withdrawOrder tag slot generation => Sys2Proof.Machine.execWithdrawOrder tag slot generation s
  | .retireOrder tag slot generation => Sys2Proof.Machine.execRetireOrder tag slot generation s
  | .readOrder tag mode slot generation page => Sys2Proof.Machine.execReadOrder tag mode slot generation page s
  | .stageLines tag step close trip => Sys2Proof.Machine.execStageLines tag step close trip s
  | .handover tag step => Sys2Proof.Machine.execHandover tag step s
  | .driveLines tag step close trip => Sys2Proof.Machine.execDriveLines tag step close trip s
  | .returnLines tag step => Sys2Proof.Machine.execReturnLines tag step s
  | .readLines tag => Sys2Proof.Machine.execReadLines tag s
  | .firstFrameSync => Sys2Proof.Machine.execFirstFrameSync s

end Sys2Proof.Machine
end

