-- ==== Sys2Proof/Machine/Tick.lean ====
section
/-! DEFINITION. What the part does on an empty queue: the event of its own that is due, or one tick of
the 1 ms time base (section 0.5; log 1, log 2, log 4). -/

namespace Sys2Proof.Machine

/-! ### The events of the part itself -/

/-- A scheduled close stands at or beyond its pulse frame (R79). -/
def pulseReady (s : State) : Bool :=
  match s.seq.schedule with
  | none => false
  | some c => pulseDue s && (s.lane c.step).op.isSome

/-- A window end waits and every consumer has evaluated the one before (R11). -/
def windowEndReady (s : State) : Bool :=
  s.rx.inHand.isNone && s.mu.computing.isNone && decide (s.rx.ends ≠ [])

/-- The events of the part itself in the order in which the model takes them (log 2). -/
def ownEvents (s : State) : List (Bool × Instr) :=
  [(pulseReady s, .scheduledClosePulse),
   (windowEndReady s, .windowEnd),
   (s.mu.computing.isSome, .publication),
   ((dueFor InHand.vc s).isSome, .vcEvaluation),
   ((dueFor InHand.hs s).isSome, .harmonicEvaluation),
   ((dueFor InHand.ub s).isSome, .unbalanceEvaluation),
   (s.link.composed.isSome, .responseLoad)]

/-- The event that is due, if any. -/
def dueEvent (s : State) : Option Instr := ((ownEvents s).find? Prod.fst).map Prod.snd

/-! ### The tick -/

/-- An outcome followed by more work on its next state. -/
def andThen (r : Host.Outcome State Fault Refusal) (f : State → Host.Outcome State Fault Refusal) :
    Host.Outcome State Fault Refusal :=
  match r with
  | .next s => f s
  | .fault e => .fault e
  | .refused e => .refused e

/-- The time base: one millisecond, and a second at the thousandth (R193). -/
def advanceClock (c : Clock) : Clock := if c.ms < 999 then ⟨c.seconds, c.ms + 1⟩ else ⟨c.seconds + 1, 0⟩

/-- Ticks left of the running time a command is the expiry of; 0 when it is not running. -/
def remaining (s : State) : Instr → Nat
  | .windowTimerExpiry => s.rx.windowTimer
  | .feedTimerExpiry => s.rx.feedTimer.getD 0
  | .cooldownExpiry i => (s.timers i).cooldown
  | .holdoffExpiry i => (s.timers i).holdoffMs
  | .closePulseEnd i => (s.lane i).closePulse
  | .tripPulseEnd i => (s.lane i).tripPulse
  | .closeConfirmExpiry i =>
    match (s.lane i).op with
    | some ⟨.close _, _, _, _⟩ => (s.lane i).confirm.getD 0
    | _ => 0
  | .openConfirmExpiry i =>
    match (s.lane i).op with
    | some ⟨.trip, _, _, _⟩ => (s.lane i).confirm.getD 0
    | _ => 0
  | .yardTripEnd => s.seq.yardTrip
  | .syncWaitExpiry => s.seq.syncWait.getD 0
  | .settleExpiry =>
    match s.arb.busy with
    | .settling n => n
    | _ => 0
  | .resonanceWatchExpiry =>
    match s.hs.watch with
    | some w => w.remaining
    | none => 0
  | .notBeforeElapsed i => (s.slot i).notBeforeTimer.getD 0
  | .deadlineExpiry i => (s.slot i).deadlineTimer.getD 0
  | _ => 0

/-- The expiries in the order in which the model takes them at one tick (log 4). -/
def expiries : List Instr :=
  [.windowTimerExpiry, .feedTimerExpiry] ++ allSteps.map .closePulseEnd ++ allSteps.map .tripPulseEnd ++
  [.yardTripEnd] ++ allSteps.map .closeConfirmExpiry ++ allSteps.map .openConfirmExpiry ++
  allSteps.map .cooldownExpiry ++ allSteps.map .holdoffExpiry ++
  [.syncWaitExpiry, .settleExpiry, .resonanceWatchExpiry] ++ allSlots.map .notBeforeElapsed ++
  allSlots.map .deadlineExpiry

/-- The expiries that this tick brings about. -/
def expiring (s : State) : List Instr := expiries.filter fun c => decide (remaining s c = 1)

/-- A time one tick shorter; the last tick is left to the expiry. -/
def down (n : Nat) : Nat := if 1 < n then n - 1 else n

/-- The settle remaining one tick shorter (R92). -/
def Busy.down : Busy → Busy
  | .settling n => .settling (Machine.down n)
  | b => b

/-- The times of a lane one tick shorter. -/
def Lane.down (l : Lane) : Lane :=
  { l with closePulse := Machine.down l.closePulse, tripPulse := Machine.down l.tripPulse,
           confirm := l.confirm.map Machine.down }

/-- The countdowns of a step one tick shorter (R65, R72). -/
def DischargeTimer.down (t : DischargeTimer) : DischargeTimer :=
  { t with cooldown := Machine.down t.cooldown, holdoffMs := Machine.down t.holdoffMs }

/-- The timers of a slot one tick shorter (R164). -/
def Slot.down (o : Slot) : Slot :=
  { o with notBeforeTimer := o.notBeforeTimer.map Machine.down, deadlineTimer := o.deadlineTimer.map Machine.down }

/-- Every running time one tick shorter, but for its last tick. -/
def countDown (s : State) : State :=
  { s with clock := advanceClock s.clock,
           rx.windowTimer := down s.rx.windowTimer, rx.feedTimer := s.rx.feedTimer.map down,
           dt := s.dt.map DischargeTimer.down,
           seq.lanes := s.seq.lanes.map Lane.down, seq.yardTrip := down s.seq.yardTrip,
           seq.syncWait := s.seq.syncWait.map down, arb.busy := s.arb.busy.down,
           hs.watch := s.hs.watch.map (fun w => { w with remaining := down w.remaining }),
           oe.slots := s.oe.slots.map Slot.down }

/-- An expiry of this tick is taken, unless an earlier one has stopped or renewed its time. -/
def takeExpiry (c : Instr) (s : State) : Host.Outcome State Fault Refusal :=
  if remaining s c = 1 then exec c s else .next s

/-- Commands taken one after the other. -/
def inTurn (f : Instr → State → Host.Outcome State Fault Refusal) :
    List Instr → State → Host.Outcome State Fault Refusal
  | [], s => .next s
  | c :: cs, s => andThen (f c s) (inTurn f cs)

/-- The filter of an input after a tick that samples its pin, short of the fourth consecutive sample
(R179). -/
def sampleFilter (f : InputFilter) : InputFilter :=
  if f.pin = f.level then { f with candidate := none, count := 0 }
  else if f.candidate = some f.pin then { f with count := f.count + 1 }
  else { f with candidate := some f.pin, count := 1 }

/-- The tick samples an input; at the fourth consecutive sample of a candidate its level change is taken
(R179). -/
def sampleInput (n : InputLine) (s : State) : Host.Outcome State Fault Refusal :=
  let f := sampleFilter (s.input n)
  if 4 ≤ f.count then exec (.inputLevelChange n f.pin) s else .next (s.setInput n f)

/-- One tick of the time base: the times count down, the expiries of this tick are taken, the inputs are
sampled (log 4). -/
def tick (s : State) : Host.Outcome State Fault Refusal :=
  andThen (inTurn takeExpiry (expiring s) (countDown s)) fun s =>
    andThen (sampleInput .inp0 s) fun s => andThen (sampleInput .inp1 s) (sampleInput .inp2)

/-- The step of an empty queue: nothing while RESET is held, the part's own event that is due, or a tick
(log 1, log 2, log 21). -/
def idle (s : State) : Host.Outcome State Fault Refusal :=
  if s.resetHeld then .next s
  else
    match dueEvent s with
    | some c => exec c s
    | none => tick s

end Sys2Proof.Machine
end

