-- ==== Sys2Proof/Safety.lean ====
section
/-! DEFINITION. What a state in good order is: the standing promises of the manual that every step keeps,
each a plain predicate over the state. -/

namespace Sys2Proof.Safety

open Sys2Proof.Machine

/-- What pairs an alarm entry with its condition (R199). -/
def alarmKey (e : AlarmEntry) : AlarmKind × Subject := (e.kind, e.subject)

/-- The alarm set holds at most one entry for each kind and subject; the cause of a non-latching entry is
present, that of a momentary one ended (section 11.6, R199). -/
def AlarmsOk (s : State) : Prop :=
  (s.link.alarms.map alarmKey).Nodup ∧
  ∀ e ∈ s.link.alarms, (e.kind.latching = false → e.cause = true) ∧ (e.kind.momentary = true → e.cause = false)

/-- COOLING stands exactly while the cooldown remaining is above 0, HARMONIC_HOLDOFF exactly while the
holdoff remaining is (R67, R72), and every DISCHARGE_TIME is at least a second. -/
def TimedBlocksOk (s : State) : Prop :=
  ∀ i : StepId,
    ((s.stepRec i).cooling = true ↔ 0 < (s.timers i).cooldown) ∧
    ((s.stepRec i).holdoff = true ↔ 0 < (s.timers i).holdoffMs) ∧
    0 < (s.stepCfg i).dischargeTime

/-- The closed-order list holds exactly the steps in service that are CLOSED or OPENING, each once
(R59). -/
def ClosedOrderOk (s : State) : Prop :=
  s.tbl.closedOrder.Nodup ∧
  ∀ i : StepId, i ∈ s.tbl.closedOrder ↔
    (s.stepRec i).retired = false ∧ ((s.stepRec i).state = .closed ∨ (s.stepRec i).state = .opening)

/-- The free queue holds exactly the FREE slots, the posted queue exactly the POSTED ones, neither twice;
the EXECUTING slot is the one the engine names; only a POSTED slot has a running timer (R155, R164,
R166). -/
def PoolOk (s : State) : Prop :=
  s.oe.freeQueue.Nodup ∧ s.oe.posted.Nodup ∧
  ∀ i : SlotId,
    (i ∈ s.oe.freeQueue ↔ (s.slot i).state = .free) ∧
    (i ∈ s.oe.posted ↔ (s.slot i).state = .posted) ∧
    (s.oe.executing = some i ↔ (s.slot i).state = .executing) ∧
    ((s.slot i).state ≠ .posted → (s.slot i).notBeforeTimer = none ∧ (s.slot i).deadlineTimer = none)

/-- A learning stands only while its LEARN_BASELINE order is EXECUTING (R148, R174), an operation of the order
engine only while its CLOSE or OPEN order is (R167, R168). -/
def EngineOk (s : State) : Prop :=
  (∀ (i : StepId) (l : Learning), (s.unb i).learning = some l →
    ∃ j, s.oe.executing = some j ∧ (s.slot j).kind = 6 ∧ (s.slot j).step.toNat = i.val) ∧
  ∀ (i : StepId) (o : Operation), (s.lane i).op = some o → o.source = .oe →
    ∃ j, s.oe.executing = some j ∧ ((s.slot j).kind = 1 ∨ (s.slot j).kind = 2) ∧ (s.slot j).step.toNat = i.val

/-- Nothing that could start is left waiting: an IDLE engine has no startable right-free order, its
request stands exactly while it wants the right, and a right that is not busy has no pending request
(R93, R166, R167). -/
def Settled (s : State) : Prop :=
  (s.oe.executing = none → oldestStartable s false [] s.oe.posted = none) ∧
  s.arb.oeRequest = wantsRight s ∧ winner s.arb = none

/-- A DIRECT-owned step is RETIRED, and MAINT_PERMIT is active (R182). -/
def DirectOk (s : State) : Prop :=
  ∀ i : StepId, (s.lines i).direct = true → (s.stepRec i).retired = true ∧ maintPermit s = true

/-- A good window end is published, and the unbalance unit has still to evaluate it (R11, R21). -/
def WindowAtUnit (s : State) : Prop :=
  s.mu.computing = none ∧ (s.rx.inHand.any fun h => h.good && h.ub) = true

/-- Every armed step is CLOSED, but for one whose departure the unit has still to take (R138); such a departure
waits only behind a published good window end that the unit has still to evaluate (log 37). -/
def ArmedOk (s : State) : Prop :=
  ∀ i : StepId,
    ((s.unb i).armed = true → (s.stepRec i).state = .closed ∨ (s.unb i).departed = true) ∧
    ((s.unb i).departed = true → WindowAtUnit s)

/-- Every setting lies in its range and the settings that must agree do (section 11.4.1, R16, R115, R132,
R151, R196). -/
def SettingsOk (c : Settings) : Prop :=
  (∀ y : YardId, (yardRange y).1 ≤ yardRead c.yard y ∧ yardRead c.yard y ≤ (yardRange y).2) ∧
  (c.yard.nominalFrequency = 50 ∨ c.yard.nominalFrequency = 60) ∧
  c.yard.bandLow + 20 ≤ c.yard.bandHigh ∧ c.yard.bandHigh < c.yard.fastLevel ∧ c.yard.dvAlarm < c.yard.dvTrip ∧
  ∀ i : StepId,
    (∀ p : StepSettingId, p ≠ .operationCount →
      (stepRange p).1 ≤ stepSettingRead (look c.perStep i) 0 p ∧
      stepSettingRead (look c.perStep i) 0 p ≤ (stepRange p).2) ∧
    (look c.perStep i).unbAlarm < (look c.perStep i).unbTrip

/-- The fields of a channel table entry lie in their ranges (R18). -/
def EntryOk (c : ChanId) (e : ChanEntry) : Prop :=
  -32767 ≤ e.re ∧ e.re ≤ 32767 ∧ -32767 ≤ e.im ∧ e.im ≤ 32767 ∧ e.m ≤ 32767 ∧ e.r ≤ 32767 ∧ e.f ≤ 32767 ∧
  e.h ≤ 32767 ∧ (∀ d, e.d = some d → d ≤ 9999) ∧ e.p ≤ 4000 ∧ (channelKind c = .neutral → e.p = 0) ∧
  e.pk ≤ 32768 ∧ e.age ≤ 255

/-- A learning in progress has taken fewer than 16 windows, and its sums are sums of that many figures
(R148, R149). -/
def LearningOk (l : Learning) : Prop :=
  l.count < 16 ∧ l.sumRe.natAbs ≤ 32767 * l.count ∧ l.sumIm.natAbs ≤ 32767 * l.count

/-- Settings, channel table and learnings keep to their ranges (R18, R149, R196). -/
def FiguresOk (s : State) : Prop :=
  SettingsOk s.cfg ∧ (∀ c, EntryOk c (look s.mu.entries c)) ∧ ∀ i l, (s.unb i).learning = some l → LearningOk l

/-- The counters stay at or below their delays; LOW_ACC and HIGH_ACC are never both above 0; in MANUAL the
band and fast counters and the fast condition rest (R58, R98, R101, R109, R111, R121, R124, R137, R141,
R142). -/
def CountersOk (s : State) : Prop :=
  (s.vc.lowAcc = 0 ∨ s.vc.highAcc = 0) ∧
  s.vc.lowAcc ≤ s.cfg.yard.delayIn * s.cfg.yard.nominalFrequency ∧
  s.vc.highAcc ≤ s.cfg.yard.delayOut * s.cfg.yard.nominalFrequency ∧
  s.vc.fastAcc ≤ s.cfg.yard.fastDelay ∧ s.vc.deadAcc ≤ s.cfg.yard.deadDelay ∧
  (s.vc.auto = false → s.vc.lowAcc = 0 ∧ s.vc.highAcc = 0 ∧ s.vc.lowReached = false ∧ s.vc.highReached = false ∧
    s.vc.fastAcc = 0 ∧ s.vc.fastDue = false ∧ s.vc.fastCondition = false) ∧
  s.hs.vCount ≤ s.cfg.yard.harmAlarmDelay ∧ s.hs.iCount ≤ s.cfg.yard.harmAlarmDelay ∧
  s.hs.tripCount ≤ (if s.hs.shedding then s.cfg.yard.shedInterval else s.cfg.yard.harmTripDelay) ∧
  ∀ i : StepId,
    (s.unb i).armCount ≤ 10 ∧ (s.unb i).alarmCount ≤ (s.stepCfg i).unbAlarmDelay ∧
    (s.unb i).tripCount ≤ (s.stepCfg i).unbTripDelay ∧ (s.stepRec i).opCount ≤ 65535

/-! ### Terms of the statements -/

/-- An unacknowledged entry stands for an alarm kind and subject. -/
def AlarmStands (k : AlarmKind) (sub : Subject) (s : State) : Prop :=
  ∃ e ∈ s.link.alarms, e.kind = k ∧ e.subject = sub ∧ e.acked = false

/-- No entry stands for an alarm kind and subject. -/
def AlarmAbsent (k : AlarmKind) (sub : Subject) (s : State) : Prop :=
  ∀ e ∈ s.link.alarms, ¬(e.kind = k ∧ e.subject = sub)

/-- Every step but one is without a close that has not started its pulse (R75, R80); trips and closes in motion may
stand anywhere. -/
def NoOtherHeldClose (i : StepId) (s : State) : Prop :=
  ∀ j : StepId, j ≠ i → (s.lane j).op.any Operation.unpulsed = false

/-- The entries of a latching kind from one state to another where nothing happens to them but that the cause of
one subject's may have ended (R199). -/
def CauseOver (k : AlarmKind) (sub : Subject) (ended : Bool) (s t : State) : Prop :=
  (t.link.alarms.filter fun e => decide (e.kind = k)) =
    (s.link.alarms.filter fun e => decide (e.kind = k)).map fun e =>
      if ended = true ∧ e.subject = sub then { e with cause := false } else e

/-- A step's resonance suspect flag is cleared, and the cause of RESONANCE ends with it (R51, R52, R130). -/
def SuspectCleared (i : StepId) (s t : State) : Prop :=
  (t.stepRec i).suspect = false ∧ CauseOver .resonance (.step i) (s.stepRec i).suspect s t

/-- What an entry into FAULTED does to the suspect flag, the holdoff arming and a running holdoff (R52, R71). -/
def FaultedNotice (i : StepId) (s t : State) : Prop :=
  SuspectCleared i s t ∧ (t.timers i).arming = ((s.stepRec i).suspect || (s.timers i).arming) ∧
  (t.timers i).holdoffMs = (s.timers i).holdoffMs ∧ (t.stepRec i).holdoff = (s.stepRec i).holdoff

/-- The rows of R77's table: the condition of R76 that fails on a step, with its reason. Where several fail at once
the first row that holds gives the reason (the model's choice, log 16). -/
def CloseBarred (i : StepId) (why : Option Reason) (s : State) : Prop :=
  let r := s.stepRec i
  if s.io.inp0.level = true then why = some .inhibit
  else if r.state = .closed then why = some .notOpen
  else if r.state.isFaulted = true then why = some .faulted
  else r.state = .opened ∧
    if r.lockout ≠ none then why = some .lockout
    else if r.cooling = true ∨ r.holdoff = true then why = none
    else r.retired = true ∧ why = some .retired

/-- A close that has not started its pulse has ended PREEMPTED with a reason: its record, the schedule and the sync
wait are gone, the right is free with no settle, and its requester has the end report (R77, R92, R108, R168). -/
def CloseEnded (i : StepId) (src : Requester) (why : Option Reason) (s t : State) : Prop :=
  t.lane i = { s.lane i with op := none } ∧ t.seq.schedule = none ∧ t.seq.syncWait = none ∧
  t.arb = { s.arb with busy := .notBusy } ∧
  (src = .vc → t.oe = s.oe ∧ t.vc = (vcEndReport s).vc) ∧
  (src = .oe → t.vc = s.vc ∧ (s.oe.executing = none → t.oe = s.oe) ∧
    ∀ j, s.oe.executing = some j → t.oe.executing = none ∧ (t.slot j).state = .finished ∧
      (t.slot j).outcome = some .preempted ∧ (t.slot j).reason = why)

/-- A state in which the response to a request is composed (R190, R192). -/
def respond (code tag : Byte) (st : Status) (data : List Byte) (s : State) : State :=
  { s with link.composed := some ⟨code, tag, st, false, data⟩ }

/-- The part is out of reset, READY is high and no frame begun before the release is in progress: a complete
frame is taken as a request (R190, R203). -/
def Ready (s : State) : Prop := s.resetHeld = false ∧ s.link.ready = true ∧ s.link.ignoring = false

end Sys2Proof.Safety
end

