-- ==== Sys2Proof/WellFormed.lean ====
section
/-! DEFINITION. Which commands are well formed: operands the table's row can carry. Steps, slots and
channels are in range by their types. -/

namespace Sys2Proof

/-- The request codes of section 11.9.2. -/
def requestCodes : List Nat :=
  [0x01, 0x02, 0x03, 0x04, 0x05, 0x06, 0x07, 0x08, 0x09, 0x0A, 0x0B, 0x0C, 0x0D, 0x0E, 0x10, 0x11, 0x12, 0x13,
   0x14, 0x15, 0x20, 0x21, 0x22, 0x23, 0x24]

/-- A well-formed command: BAD_CODE carries a code that names no request (R192), FRAME_ABORT fewer bits
than 16 whole bytes (R189). -/
def Instr.wellFormed : Instr → Bool
  | .badCode code _ => !requestCodes.contains code.toNat
  | .frameAbort bits => decide (bits < 128)
  | _ => true

end Sys2Proof
end

