-- ==== Sys2Proof/Certificates/Slice0/Obligations.lean ====
section
/-! DEFINITION. The statements for the provers. Each docstring names the rules a statement formalises, or
says that it states a choice of the model and names the log entry. -/

open Sys2Proof Sys2Proof.Machine Sys2Proof.Safety

/-! ### The machine as a whole -/

/-- A step on a non-empty queue is the front command on the state with the queue's rest. -/
def Obligations.StepTakesFrontCommand : Prop :=
  ∀ (c : Instr) (rest : List Instr) (s : State),
    step { s with pending := c :: rest } = exec c { s with pending := rest }

/-- The step of an empty queue: nothing while RESET is held; else the first of the part's own events that is
due, in the order pulse frame, window end, publication, the three evaluations, response load; else a tick: the
model's choice (logs 1, 2 and 21). A tick always goes on: the time base gains 1 ms, a second at the thousandth
(R193), every running time loses 1 ms (R65, R72, R81, R86, R88, R92, R130, R164), the expiries of the times that
reach 0 are taken, none that was not running, and the three inputs are sampled (R179). The order within one tick,
and that the last millisecond is taken off by the expiry itself, are the model's choice (log 4). -/
def Obligations.EmptyQueueRunsThePart : Prop :=
  (∀ s : State, s.pending = [] →
    (s.resetHeld = true → step s = .next s) ∧
    (s.resetHeld = false → pulseReady s = true → step s = exec .scheduledClosePulse s) ∧
    (s.resetHeld = false → pulseReady s = false →
      (windowEndReady s = true → step s = exec .windowEnd s) ∧
      (windowEndReady s = false → s.mu.computing ≠ none → step s = exec .publication s) ∧
      (windowEndReady s = false → s.mu.computing = none →
        (∀ h, s.rx.inHand = some h →
          (h.vc = true → step s = exec .vcEvaluation s) ∧
          (h.vc = false → h.hs = true → step s = exec .harmonicEvaluation s) ∧
          (h.vc = false → h.hs = false → h.ub = true → step s = exec .unbalanceEvaluation s)) ∧
        ((∀ h, s.rx.inHand = some h → h.vc = false ∧ h.hs = false ∧ h.ub = false) →
          (s.link.composed ≠ none → step s = exec .responseLoad s) ∧
          (s.link.composed = none → step s = tick s))))) ∧
  (let sampled := fun s : State =>
     andThen (sampleInput .inp0 s) fun s => andThen (sampleInput .inp1 s) (sampleInput .inp2)
   (∀ s : State, (∃ t, tick s = .next t) ∧ (expiring s).Nodup ∧ (∀ c, c ∈ expiring s ↔ remaining s c = 1) ∧
      tick s = andThen (inTurn takeExpiry (expiring s) (countDown s)) sampled) ∧
   (∀ s : State, (∀ c, remaining s c ≠ 1) → tick s = sampled (countDown s)) ∧
   ∀ (c : Instr) (s : State), remaining s c = 1 → (∀ d, d ≠ c → remaining s d ≠ 1) →
     tick s = andThen (exec c (countDown s)) sampled) ∧
  (∀ s : State,
     let t := countDown s
     let less := fun n : Nat => if 1 < n then n - 1 else n
     t = { s with clock := t.clock, rx := t.rx, dt := t.dt, seq := t.seq, arb := t.arb, hs := t.hs, oe := t.oe } ∧
     t.clock = (if s.clock.ms < 999 then ⟨s.clock.seconds, s.clock.ms + 1⟩ else ⟨s.clock.seconds + 1, 0⟩) ∧
     t.rx = { s.rx with windowTimer := less s.rx.windowTimer, feedTimer := s.rx.feedTimer.map less } ∧
     (∀ i, t.timers i =
       { s.timers i with cooldown := less (s.timers i).cooldown, holdoffMs := less (s.timers i).holdoffMs }) ∧
     (∀ i, t.lane i = { s.lane i with closePulse := less (s.lane i).closePulse,
                                      tripPulse := less (s.lane i).tripPulse,
                                      confirm := (s.lane i).confirm.map less }) ∧
     t.seq = { s.seq with lanes := t.seq.lanes, yardTrip := less s.seq.yardTrip,
                          syncWait := s.seq.syncWait.map less } ∧
     t.arb = { s.arb with busy := match s.arb.busy with
       | .settling n => .settling (less n)
       | b => b } ∧
     t.hs = { s.hs with watch := s.hs.watch.map fun w => { w with remaining := less w.remaining } } ∧
     t.oe = { s.oe with slots := t.oe.slots } ∧
     ∀ j, t.slot j = { s.slot j with notBeforeTimer := (s.slot j).notBeforeTimer.map less,
                                     deadlineTimer := (s.slot j).deadlineTimer.map less }) ∧
  ∀ s : State,
    remaining s .windowTimerExpiry = s.rx.windowTimer ∧ remaining s .feedTimerExpiry = s.rx.feedTimer.getD 0 ∧
    remaining s .yardTripEnd = s.seq.yardTrip ∧ remaining s .syncWaitExpiry = s.seq.syncWait.getD 0 ∧
    (∀ n, s.arb.busy = .settling n → remaining s .settleExpiry = n) ∧
    (∀ w, s.hs.watch = some w → remaining s .resonanceWatchExpiry = w.remaining) ∧
    (∀ i, remaining s (.cooldownExpiry i) = (s.timers i).cooldown ∧
      remaining s (.holdoffExpiry i) = (s.timers i).holdoffMs ∧
      remaining s (.closePulseEnd i) = (s.lane i).closePulse ∧
      remaining s (.tripPulseEnd i) = (s.lane i).tripPulse ∧
      ∀ o, (s.lane i).op = some o →
        (o.kind = .trip → remaining s (.openConfirmExpiry i) = (s.lane i).confirm.getD 0 ∧
          remaining s (.closeConfirmExpiry i) = 0) ∧
        (o.kind ≠ .trip → remaining s (.closeConfirmExpiry i) = (s.lane i).confirm.getD 0 ∧
          remaining s (.openConfirmExpiry i) = 0)) ∧
    ∀ j, remaining s (.notBeforeElapsed j) = (s.slot j).notBeforeTimer.getD 0 ∧
      remaining s (.deadlineExpiry j) = (s.slot j).deadlineTimer.getD 0

/-- RESET asserted: every line, ATTN and READY go inactive, a frame in progress is dropped, the rest stands
(R97, R203); while it is held every command but the two of RESET itself leaves the part as it is (R17, R36,
R63, R74, R97, R118, R135, R153, R177, R203; log 21). -/
def Obligations.ResetHoldsThePart : Prop :=
  (∀ s : State, ∃ t, exec .resetAssert s = .next t ∧ t.resetHeld = true ∧
    (∀ i, closeLine t i = false ∧ tripLine t i = false) ∧ yardTripLine t = false ∧ attn t = false ∧
    t = { s with resetHeld := true, seq := t.seq,
                 link := { s.link with ready := false, rxBytes := 0, rxBits := 0 } }) ∧
  ∀ (c : Instr) (s : State), s.resetHeld = true → c ≠ .resetAssert → (∀ p, c ≠ .resetRelease p) →
    exec c s = .next s

/-- What every register holds after a release of RESET, whatever stood before (R17, R19, R38, R63, R74, R92, R97,
R118, R135, R153, R155, R177, R178, R179, R183, R203); the settings hold the table's defaults. The queue, the
count of free draws and the list of extra bits are the model's own and are kept (log 21); the band in force is
the defaults' (log 34); a frame whose select is asserted at the release is marked as one to be ignored (R203,
log 36); the pins give the strap code and the first levels alike (log 11). -/
def Obligations.ResetReleaseSetsEveryRegister : Prop :=
  ∀ (pins : Pins) (s : State), ∃ t, exec (.resetRelease pins) s = .next t ∧
    (let n := pins.inp0.toNat + 2 * pins.inp1.toNat + 4 * pins.inp2.toNat
     t.resetHeld = false ∧ t.clock = ⟨0, 0⟩ ∧
     (t.rx.assembly = none ∧ t.rx.frameNumber = 0 ∧ t.rx.wave = 0 ∧ t.rx.window = none ∧ t.rx.failedCount = 0 ∧
      t.rx.meas = .noSync ∧ t.rx.windowTimer = 40 ∧ t.rx.feedLive = false ∧ t.rx.feedTimer = none ∧
      t.rx.ends = [] ∧ t.rx.inHand = none ∧ ∀ i, look t.rx.debounce i = ⟨none, none, 0⟩) ∧
     (t.mu.computing = none ∧ ∀ c, look t.mu.entries c = ⟨0, 0, 0, 0, 0, 0, none, 0, 0, false, 255⟩) ∧
     (t.tbl.closedOrder = [] ∧ ∀ i, t.stepRec i =
        { fitted := decide (i.val ≤ n), retired := false, state := if i.val ≤ n then .unknown else .absent,
          indicated := none, cooling := false, holdoff := false, lockout := none, hold := false, opCount := 0,
          suspect := false, lastSource := .none }) ∧
     (∀ i, t.timers i = ⟨0, 0, false⟩) ∧
     (t.seq.schedule = none ∧ t.seq.syncWait = none ∧ t.seq.yardTrip = 0 ∧ ∀ i, t.lane i = ⟨none, 0, 0, none⟩) ∧
     t.arb = ⟨.none, .notBusy, .absent, false⟩ ∧
     t.vc = ⟨false, 0, 0, 0, false, false, 975, 1035, 0, false, false, 0, false, .idle, false⟩ ∧
     t.hs = ⟨none, none, 0, 0, false, false, 0, false, none, none⟩ ∧
     (∀ i, t.unb i = ⟨false, 0, 0, false, false, 0, false, 0, none, false⟩) ∧
     (t.oe.freeQueue = List.finRange 32 ∧ t.oe.posted = [] ∧ t.oe.executing = none ∧
      ∀ j, t.slot j = ⟨0, .free, 0, 0, 0, 0, 0, none, none, none, none, none, none⟩) ∧
     (t.io.strap.toNat = n ∧ t.io.inp0 = ⟨pins.inp0, pins.inp0, none, 0⟩ ∧
      t.io.inp1 = ⟨pins.inp1, pins.inp1, none, 0⟩ ∧ t.io.inp2 = ⟨pins.inp2, pins.inp2, none, 0⟩ ∧
      ∀ i, t.lines i = ⟨false, false, false, false, false⟩) ∧
     t.link = ⟨0, 0, ⟨0, 0, .ok, false, List.replicate 13 0⟩, none, true, false, 0, [], pins.select, []⟩ ∧
     t.cfg = Settings.default ∧ t.pending = s.pending ∧ t.freeDraws = s.freeDraws ∧ t.extraBits = s.extraBits)

/-- Every request travels in the bits of its frame, the most significant of each byte first, and is read back from
them, with every operand at every value and whatever bits follow the sixteenth byte; BAD_CODE with every code that
names no request; fewer bits than 16 whole bytes are a partial frame (R189, R192, R204, section 11.9.2). -/
def Obligations.RequestFramesReadBack : Prop :=
  (∀ (c : Instr) (b : List Byte) (more : List Bool), c.wellFormed = true → encodeFrame c = some b →
    decodeFrame (frameBits b ++ more) = c) ∧
  (∀ bits : List Bool, bits.length < 128 → decodeFrame bits = .frameAbort bits.length) ∧
  ∀ (bs : List Byte) (m k : Nat), m < bs.length → k < 8 →
    (frameBits bs)[8 * m + k]? = some ((bs.getD m 0).getLsbD (7 - k))

/-! ### Promises every step keeps -/

/-- The alarm set keeps one entry for each kind and subject, with the cause its kind allows (R199). -/
def Obligations.AlarmSetKeepsOneEntryEach : Prop :=
  ∀ s t : State, AlarmsOk s → step s = .next t → AlarmsOk t

/-- COOLING stands exactly while the cooldown runs and HARMONIC_HOLDOFF exactly while the holdoff does (R67,
R72). -/
def Obligations.TimedBlocksFollowTheirTimers : Prop :=
  ∀ s t : State, TimedBlocksOk s → step s = .next t → TimedBlocksOk t

/-- The closed-order list holds exactly the steps in service that are CLOSED or OPENING, each once (R59). -/
def Obligations.ClosedOrderListHoldsServingSteps : Prop :=
  ∀ s t : State, ClosedOrderOk s → step s = .next t → ClosedOrderOk t

/-- The free queue, the posted queue and the executing slot follow the slot states (R155, R164, R166); in such
a pool a learning stands only while its LEARN_BASELINE order is EXECUTING, and an operation of the order engine
only while its CLOSE or OPEN order is (R148, R167, R168, R174). -/
def Obligations.OrderPoolStaysPartitioned : Prop :=
  (∀ s t : State, PoolOk s → step s = .next t → PoolOk t) ∧
  ∀ s t : State, PoolOk s → EngineOk s → step s = .next t → EngineOk t

/-- After every step no startable right-free order waits on an idle engine, the engine's request stands
exactly while it is called for, and no request waits on a right that is not busy (R93, R166, R167). -/
def Obligations.NothingThatCouldStartIsLeft : Prop :=
  ∀ s t : State, PoolOk s → Settled s → step s = .next t → Settled t

/-- A DIRECT-owned step is RETIRED and MAINT_PERMIT is active (R182); an armed step is CLOSED (R138), but for one
whose departure the unit takes after a published good window end that it has still to evaluate, which is how the
model orders the two (log 37). -/
def Obligations.OwnershipAndArmingStand : Prop :=
  (∀ s t : State, DirectOk s → step s = .next t → DirectOk t) ∧
  ∀ s t : State, ArmedOk s → step s = .next t → ArmedOk t

/-- Settings, the channel table and learnings keep to their ranges and the settings agree (R18, R115, R132,
R149, R151, R196). -/
def Obligations.FiguresStayInRange : Prop :=
  ∀ s t : State, FiguresOk s → step s = .next t → FiguresOk t

/-- Every counter stays at or below its delay, and the band counters exclude one another (R58, R98, R101,
R109, R111, R121, R124, R137, R141, R142). -/
def Obligations.CountersStayWithinTheirDelays : Prop :=
  ∀ s t : State, CountersOk s → step s = .next t → CountersOk t

/-- A release of RESET with any pins meets every promise above; so does the state after reset, whose pins are
the model's choice (log 10). -/
def Obligations.ResetMeetsEveryPromise : Prop :=
  ∀ (pins : Pins) (s : State), ∃ t, exec (.resetRelease pins) s = .next t ∧
    AlarmsOk t ∧ TimedBlocksOk t ∧ ClosedOrderOk t ∧ PoolOk t ∧ EngineOk t ∧ Settled t ∧ DirectOk t ∧ ArmedOk t ∧
    FiguresOk t ∧ CountersOk t ∧
    AlarmsOk State.reset ∧ TimedBlocksOk State.reset ∧ ClosedOrderOk State.reset ∧ PoolOk State.reset ∧
    EngineOk State.reset ∧ Settled State.reset ∧ DirectOk State.reset ∧ ArmedOk State.reset ∧ FiguresOk State.reset ∧
    CountersOk State.reset

/-! ### Sample link receiver -/

/-- A frame end: frame number, wave position, window building; a frame that is not valid changes nothing
outside the receiver, a valid one restarts the feed timer and its positions are debounced for the fitted
steps (R1, R3 to R8, R12, R13, R15). At a valid frame a LOST feed returns: every step FAULTED with NO_INDICATION is
treated as if its indicated position were delivered (R47); then the positions that have settled are delivered,
in ascending step number, each with its consequences before the next (R14, R40; `settle`: log 13; the feed before
the deliveries: log 29). How the two bits of a step give its position (R12). The failed-window count and the
measurement state wait for the window end to be handed on (the model's choice, log 32). -/
def Obligations.FrameEndAdvancesTheReceiver : Prop :=
  (∀ (f : SampleFrame) (a : FrameAssembly) (s : State), s.resetHeld = false → s.rx.assembly = some a →
    (let received := !a.tooLong && decide (a.bits + f.bitCount = 256)
     let valid := received && (look f.slots 15).getLsbD 0
     let mark := received && (look f.slots 15).getLsbD 1
     let wave := if mark then 0 else s.rx.wave + 1
     let x := frameSamples f
     let period := windowPeriod s.cfg.yard
     ∃ t, exec (.frameEnd f) s = .next t ∧
       t.rx.assembly = some ⟨0, false⟩ ∧ t.rx.frameNumber = s.rx.frameNumber + 1 ∧ t.rx.wave = wave ∧
       (t.rx.window, t.rx.ends, t.rx.windowTimer) =
         (match s.rx.window with
          | none => (if valid && mark then some [x] else none, s.rx.ends, s.rx.windowTimer)
          | some xs =>
            if !received then (none, s.rx.ends ++ [.failed .frameError], period)
            else if !valid then (none, s.rx.ends ++ [.failed .invalid], period)
            else if mark then (some [x], s.rx.ends ++ [.failed .short], period)
            else if xs.length < 31 then (some (xs ++ [x]), s.rx.ends, s.rx.windowTimer)
            else (none, s.rx.ends ++ [.good (xs ++ [x]) (s.rx.frameNumber + 1) wave], period)) ∧
       (valid = false →
         t = { s with rx := { s.rx with assembly := t.rx.assembly, frameNumber := t.rx.frameNumber,
                                        wave := t.rx.wave, window := t.rx.window, ends := t.rx.ends,
                                        windowTimer := t.rx.windowTimer } }) ∧
       (valid = true → t.rx.feedTimer = some 20 ∧ t.rx.feedLive = true ∧
         ∀ i, look t.rx.debounce i =
           if (s.stepRec i).fitted then debounce (positionOf (look f.slots 14) i) (look s.rx.debounce i)
           else look s.rx.debounce i) ∧
       (valid = true →
         (let steps : List StepId := [0, 1, 2, 3, 4, 5, 6, 7]
          let back := fun (x : State) (i : StepId) =>
            match (x.stepRec i).state, (x.stepRec i).indicated with
            | .faulted .noIndication, some p => settle (applyDelivery (i, p) x)
            | _, _ => x
          let settled := steps.filter fun i =>
            (s.stepRec i).fitted && deliversNow (positionOf (look f.slots 14) i) (look s.rx.debounce i)
          let x := { s with rx := { t.rx with debounce := s.rx.debounce } }
          let y := if s.rx.feedLive then x else steps.foldl back x
          t = settled.foldl (fun z i => settle (applyDelivery (i, positionOf (look f.slots 14) i) z))
            { y with rx := t.rx })) ∧
       t.rx.meas = s.rx.meas ∧ t.rx.failedCount = s.rx.failedCount ∧ t.rx.inHand = s.rx.inHand ∧
       t.mu = s.mu ∧ t.io = s.io ∧ t.cfg = s.cfg ∧ t.clock = s.clock ∧ t.pending = s.pending)) ∧
  ∀ (w : Half) (i : StepId),
    let madeClosed := w.getLsbD (2 * i.val + 1)
    let madeOpen := w.getLsbD (2 * i.val)
    (positionOf w i = .closed ↔ madeClosed = true ∧ madeOpen = false) ∧
    (positionOf w i = .opened ↔ madeClosed = false ∧ madeOpen = true) ∧
    (positionOf w i = .invalid ↔ madeClosed = madeOpen)

/-- The first frame sync begins assembly (R1); the window timer's expiry ends one window by timeout and
restarts the timer (R8); the feed timer's expiry makes a LIVE feed LOST, clears the candidates and stops the
timer (R13, R15). The samples of a frame are its slots 0 to 13; the window timer's period is 40 ticks at 50
Hz and 34 at 60 Hz (R2, R8). An expiry may be taken whenever its timer runs (the model's choice, log 3). -/
def Obligations.ReceiverSyncAndTimers : Prop :=
  ((∀ s : State, s.resetHeld = false → s.rx.assembly = none →
     exec .firstFrameSync s = .next { s with rx.assembly := some ⟨0, false⟩ }) ∧
   (∀ s : State, s.resetHeld = false →
     exec .windowTimerExpiry s = .next { s with rx.ends := s.rx.ends ++ [.failed .timeout], rx.window := none,
                                                rx.windowTimer := windowPeriod s.cfg.yard }) ∧
   ∀ (n : Nat) (s : State), s.resetHeld = false → s.rx.feedTimer = some n → s.rx.feedLive = true →
     exec .feedTimerExpiry s = .next { s with
       rx.feedTimer := none, rx.feedLive := false,
       rx.debounce := s.rx.debounce.map fun d => ⟨d.delivered, none, 0⟩ }) ∧
  ((∀ (f : SampleFrame) (c : ChanId), look (frameSamples f) c = look f.slots ⟨c.val, by omega⟩) ∧
   ∀ y : YardSettings,
     (y.nominalFrequency = 50 → windowPeriod y = 40) ∧ (y.nominalFrequency = 60 → windowPeriod y = 34))

/-- A position is delivered on the fourth consecutive word that carries it, and a return to the delivered
position cancels a run (R13). The filter of an input: the fourth consecutive tick that samples a candidate
brings the level change, a tick that samples the level cancels it (R179). -/
def Obligations.FiltersSettleOnTheFourthSample : Prop :=
  ((∀ (q : Position) (d : Debounce), d.delivered ≠ some q → d.candidate ≠ some q →
     let d1 := debounce q d
     let d2 := debounce q d1
     let d3 := debounce q d2
     deliversNow q d = false ∧ deliversNow q d1 = false ∧ deliversNow q d2 = false ∧ deliversNow q d3 = true ∧
     d1 = ⟨d.delivered, some q, 1⟩ ∧ d2 = ⟨d.delivered, some q, 2⟩ ∧ d3 = ⟨d.delivered, some q, 3⟩ ∧
     debounce q d3 = ⟨some q, none, 0⟩) ∧
   ∀ (q : Position) (d : Debounce), d.delivered = some q →
     debounce q d = ⟨some q, none, 0⟩ ∧ deliversNow q d = false) ∧
  ((∀ f : InputFilter, f.pin = f.level → sampleFilter f = ⟨f.pin, f.level, none, 0⟩) ∧
   (∀ f : InputFilter, f.pin ≠ f.level →
     (f.candidate ≠ some f.pin → sampleFilter f = ⟨f.pin, f.level, some f.pin, 1⟩) ∧
     (f.candidate = some f.pin → sampleFilter f = ⟨f.pin, f.level, some f.pin, f.count + 1⟩)) ∧
   ∀ (n : InputLine) (s : State), s.resetHeld = false → (s.input n).pin ≠ (s.input n).level →
     (s.input n).candidate = some (s.input n).pin →
     ((s.input n).count = 3 → sampleInput n s = exec (.inputLevelChange n (s.input n).pin) s) ∧
     ((s.input n).count < 3 → ∃ t, sampleInput n s = .next t ∧ (t.input n).level = (s.input n).level ∧
       (t.input n).count = (s.input n).count + 1))

/-- A delivered position applied to a step record: the state each cell of R40 gives, the cooldown of R51 and R64 and
the uncommanded changes of R42 and R43; other steps keep their state. POSITION_INVALID is raised on entry into
FAULTED, and for a FAULTED step where no entry stands; its cause ends on leaving FAULTED; no other entry of that
kind changes (R41, R44, R45, R62). A step shown closed joins the closed-order list at its tail when in service,
and the unbalance unit hears of each entry into CLOSED and each leaving of it (R41, R43, R45, R59, R136 to R138); a
departure behind a published good window end that the unit has still to evaluate is only noted, by the model's order
of the two (log 37). A confirmed
close ends any watch and opens a new one from the pulse snapshot (R128). An ABSENT step, to which nothing is
delivered, keeps its state (log 27). A confirmed close joins the list at its tail, a confirmed open leaves it; the
operation's requester has its end report, an order's end being FINISHED with DONE; and the busy period of an
operation under the right passes to a settle of SETTLE_CLOSE or SETTLE_OPEN, or ends with a settle of 0 or an urgent
request (R49, R51, R82, R86, R92, R95, R108, R168). An entry into OPEN of an armed or suspect step starts its holdoff
and clears the arming, an entry into CLOSED clears it (R69 to R71). An entry into OPEN or FAULTED
clears the suspect flag, with the cause of RESONANCE, and one into FAULTED arms the holdoff of a suspect (R51, R52,
R71, R130); no other delivery changes them. A delivery that takes the step out of OPEN under a close that has not
started its pulse ends it PREEMPTED with NOT_OPEN or FAULTED (R77; with CLOSE_INHIBIT inactive: log 16). -/
def Obligations.DeliveryActsOnTheStepState : Prop :=
  ∀ (i : StepId) (p : Position) (s : State),
    let r := s.stepRec i
    let t := applyDelivery (i, p) s
    let holdoffStarts :=
      if r.suspect = true ∨ (s.timers i).arming = true then
        (t.timers i).arming = false ∧
        (0 < s.cfg.yard.harmHoldoff →
          (t.timers i).holdoffMs = 1000 * s.cfg.yard.harmHoldoff ∧ (t.stepRec i).holdoff = true) ∧
        (s.cfg.yard.harmHoldoff = 0 →
          (t.timers i).holdoffMs = (s.timers i).holdoffMs ∧ (t.stepRec i).holdoff = r.holdoff)
      else (t.timers i).arming = false ∧ (t.timers i).holdoffMs = (s.timers i).holdoffMs ∧
        (t.stepRec i).holdoff = r.holdoff
    let ended := fun (o : Operation) (settleTime : Nat) =>
      (o.source = .oe → t.vc = s.vc ∧ (s.oe.executing = none → t.oe = s.oe) ∧
        ∀ j, s.oe.executing = some j → t.oe.executing = none ∧ (t.slot j).state = .finished ∧
          (t.slot j).outcome = some .done ∧ (t.slot j).reason = none) ∧
      (o.source = .vc → t.oe = s.oe ∧ t.vc = (vcEndReport s).vc) ∧
      (o.source = .protection → t.oe = s.oe ∧ t.vc = s.vc) ∧
      t.arb = (if o.underRight = true then
          { s.arb with busy :=
              if s.arb.vcRequest = .urgent ∨ settleTime = 0 then .notBusy else .settling (1000 * settleTime) }
        else s.arb)
    let entered :=
      if (s.unb i).departed = true then s.unb i
      else { s.unb i with armed := false, armCount := 0, alarmCount := 0, alarmActive := false, tripTiming := false,
                          tripCount := 0, lastU := 0 }
    (t.stepRec i).indicated = some p ∧
    (∀ j, j ≠ i → (t.stepRec j).state = (s.stepRec j).state) ∧
    (r.state = .absent → (t.stepRec i).state = .absent) ∧
    (r.state ≠ .absent → r.state ≠ .closing → r.state ≠ .opening →
      (t.stepRec i).state =
        match p with
        | .opened => .opened
        | .closed => .closed
        | .invalid => .faulted .positionInvalid) ∧
    (let entries := fun x : State => x.link.alarms.filter fun e => decide (e.kind = .positionInvalid)
     (p = .invalid → (r.state = .unknown ∨ r.state = .opened ∨ r.state = .closed) →
       AlarmStands .positionInvalid (.step i) t) ∧
     (p = .invalid → (∃ c, r.state = .faulted c) →
       (AlarmAbsent .positionInvalid (.step i) s → AlarmStands .positionInvalid (.step i) t) ∧
       (¬AlarmAbsent .positionInvalid (.step i) s → entries t = entries s)) ∧
     (p ≠ .invalid → r.state = .faulted .positionInvalid → AlarmAbsent .positionInvalid (.step i) t) ∧
     (p ≠ .invalid → r.state ≠ .faulted .positionInvalid → entries t = entries s) ∧
     (r.state = .absent ∨ r.state = .closing ∨ r.state = .opening → entries t = entries s) ∧
     (entries t).filter (fun e => decide (e.subject ≠ .step i)) =
       (entries s).filter fun e => decide (e.subject ≠ .step i)) ∧
    (p = .closed → (r.state = .unknown ∨ r.state = .opened ∨ ∃ c, r.state = .faulted c) →
      (t.timers i).arming = false ∧
      t.unb i = entered ∧
      (r.retired = false → i ∉ s.tbl.closedOrder → t.tbl.closedOrder = s.tbl.closedOrder ++ [i])) ∧
    (r.state = .closed → p ≠ .closed →
      t.tbl.closedOrder = (s.tbl.closedOrder.filter fun j => decide (j ≠ i)) ∧
      (WindowAtUnit s → t.unb i = { s.unb i with departed := true }) ∧
      (¬WindowAtUnit s →
        t.unb i = { s.unb i with armed := false, armCount := 0, alarmCount := 0, alarmActive := false,
                                 tripTiming := false, tripCount := 0, learning := none } ∧
        ((s.unb i).alarmActive = true → AlarmAbsent .unbalanceAlarm (.step i) t))) ∧
    (p = .opened → (r.state = .unknown ∨ r.state = .closed ∨ ∃ c, r.state = .faulted c) →
      (t.timers i).cooldown = 1000 * (s.stepCfg i).dischargeTime ∧ (t.stepRec i).cooling = true ∧
      SuspectCleared i s t ∧ holdoffStarts) ∧
    (p = .invalid → (r.state = .unknown ∨ r.state = .opened ∨ r.state = .closed) → FaultedNotice i s t) ∧
    (p = .closed ∨ (p = .invalid ∧ ((∃ c, r.state = .faulted c) ∨ r.state = .closing ∨ r.state = .opening)) →
      (t.stepRec i).suspect = r.suspect ∧ CauseOver .resonance .yard false s t) ∧
    (∀ o tm, r.state = .opened → p ≠ .opened → s.io.inp0.level = false → (s.lane i).op = some o →
      o.kind = .close tm → o.phase ≠ .inMotion →
      CloseEnded i o.source (if p = .closed then some .notOpen else some .faulted) s t) ∧
    (r.state = .opened → p ≠ .opened → (t.timers i).cooldown = 0 ∧ (t.stepRec i).cooling = false) ∧
    (r.state = .closed → p = .opened → (s.lines i).direct = false → AlarmStands .uncommandedOpen (.step i) t) ∧
    (r.state = .opened → p = .closed → (s.lines i).direct = false →
      ∃ e ∈ t.link.alarms, e.kind = .uncommandedClose ∧ e.subject = .step i ∧ e.acked = false ∧
        e.cooldownCut = r.cooling) ∧
    (∀ o n, r.state = .closing → (s.lane i).op = some o → (∃ tm, o.kind = .close tm) →
      (s.lane i).confirm = some n →
      if p = .closed then
        ended o s.cfg.yard.settleClose ∧ (t.timers i).arming = false ∧ t.unb i = entered ∧
        (r.retired = false → i ∉ s.tbl.closedOrder → t.tbl.closedOrder = s.tbl.closedOrder ++ [i]) ∧
        (t.stepRec i).state = .closed ∧ (t.stepRec i).opCount = min (r.opCount + 1) 65535 ∧
        (t.lane i).op = none ∧ (t.lane i).confirm = none ∧ t.hs.snapshot = none ∧
        t.hs.watch = (match s.hs.snapshot with
          | some ⟨j, some dv⟩ => if j = i then some ⟨i, dv, 1000 * s.cfg.yard.resonanceWindow⟩ else none
          | _ => none)
      else (t.stepRec i).state = .closing ∧ t.seq = s.seq) ∧
    (∀ o n, r.state = .opening → (s.lane i).op = some o → o.kind = .trip → (s.lane i).confirm = some n →
      if p = .opened then
        ended o s.cfg.yard.settleOpen ∧ holdoffStarts ∧ SuspectCleared i s t ∧
        t.tbl.closedOrder = (s.tbl.closedOrder.filter fun j => decide (j ≠ i)) ∧
        (t.stepRec i).state = .opened ∧ (t.lane i).op = none ∧ (t.lane i).confirm = none ∧
        (t.timers i).cooldown = 1000 * (s.stepCfg i).dischargeTime
      else (t.stepRec i).state = .opening ∧ t.seq = s.seq)

/-- A window end handed on: the measurement state and failed-window count by the table of R9, the good window under
computation with its nominal snapshot or every entry one window older, MEAS_LOST raised when its cause comes and
gone at a good window (R9, R10, R11, R20, R22). The close that has not started its pulse, the only one (whatever
other steps have in flight), is told of it: at a good window a SCHEDULED one stands and one AWAITING_VALID is
scheduled from that window's frame number and wave position, its pulse starting at once when it is due (R79,
R80; log 19); at a failed window a SCHEDULED close of an order waits, or ends FAILED NO_SYNC once its sync wait
has expired, and one of voltage control ends (R80). `settle` (log 13) adds the consequences for orders and the
right. -/
def Obligations.WindowEndSetsTheMeasurementState : Prop :=
  ∀ s : State, s.resetHeld = false → s.rx.inHand = none → s.mu.computing = none →
    (∀ frames n w rest, s.rx.ends = .good frames n w :: rest →
      ∃ t p, exec .windowEnd s = .next t ∧ t = settle p ∧
        (∀ (i : StepId) (o : Operation) (tm : Timing), (s.lane i).op = some o → o.kind = .close tm →
          NoOtherHeldClose i s →
          (let k := pulseDelay w.toNat (mechFrames (s.stepCfg i).mechTime s.cfg.yard.nominalFrequency)
           (o.phase ≠ .awaitingValid → p.seq = s.seq ∧ p.tbl = s.tbl ∧ p.oe = s.oe ∧ p.arb = s.arb) ∧
           (o.phase = .awaitingValid → k ≠ 0 →
             p.lane i = { s.lane i with op := some { o with phase := .scheduled } } ∧
             p.seq.schedule = some ⟨n + BitVec.ofNat 32 k, i⟩ ∧ p.seq.syncWait = s.seq.syncWait ∧
             p.tbl = s.tbl ∧ p.oe = s.oe ∧ p.arb = s.arb) ∧
           (o.phase = .awaitingValid → k = 0 → s.io.inp0.level = false → (s.stepRec i).state = .opened →
             (s.stepRec i).lockout = none → (s.stepRec i).cooling = false → (s.stepRec i).holdoff = false →
             (s.stepRec i).retired = false → (s.lines i).direct = false →
             (p.stepRec i).state = .closing ∧ p.seq.schedule = none ∧ p.seq.syncWait = none ∧
             p.lane i = ⟨some { o with phase := .inMotion }, s.cfg.yard.closePulse, (s.lane i).tripPulse,
                         some s.cfg.yard.confirmTime⟩ ∧
             p.hs = { s.hs with snapshot := some ⟨i, s.hs.dv⟩ } ∧ p.oe = s.oe ∧ p.arb = s.arb))) ∧
        t.rx = { s.rx with ends := rest, meas := .valid, failedCount := 0, inHand := some ⟨true, true, true, true⟩ } ∧
        t.mu = { s.mu with computing := some ⟨frames, s.cfg.yard.voltageNominal, s.cfg.yard.currentNominal⟩ } ∧
        AlarmAbsent .measLost .yard t ∧ t.io = s.io ∧ t.cfg = s.cfg ∧ t.clock = s.clock) ∧
    (∀ cause rest, s.rx.ends = .failed cause :: rest →
      ∃ t p, exec .windowEnd s = .next t ∧ t = settle p ∧
        (∀ (i : StepId) (o : Operation) (tm : Timing), (s.lane i).op = some o → o.kind = .close tm →
          NoOtherHeldClose i s →
          p.tbl = s.tbl ∧
          (o.phase ≠ .scheduled → p.seq = s.seq ∧ p.oe = s.oe ∧ p.arb = s.arb) ∧
          (o.phase = .scheduled → o.source = .oe → s.seq.syncWait ≠ some 0 →
            p.lane i = { s.lane i with op := some { o with phase := .awaitingValid } } ∧ p.seq.schedule = none ∧
            p.seq.syncWait = s.seq.syncWait ∧ p.oe = s.oe ∧ p.arb = s.arb) ∧
          (o.phase = .scheduled → o.source = .oe → s.seq.syncWait = some 0 →
            (p.lane i).op = none ∧ p.seq.schedule = none ∧ p.seq.syncWait = none ∧
            p.arb = { s.arb with busy := .notBusy } ∧
            ∀ j, s.oe.executing = some j → p.oe.executing = none ∧ (p.slot j).state = .finished ∧
              (p.slot j).outcome = some .failed ∧ (p.slot j).reason = some .noSync) ∧
          (o.phase = .scheduled → o.source = .vc →
            (p.lane i).op = none ∧ p.seq.schedule = none ∧ p.seq.syncWait = none ∧
            p.arb = { s.arb with busy := .notBusy } ∧ p.oe = s.oe ∧
            p.vc = { s.vc with lowAcc := 0, highAcc := 0, lowReached := false, highReached := false,
                               request := if s.arb.vcRequest = .urgent then .fastPending else .idle })) ∧
        (let r : MeasState × Nat :=
           match s.rx.meas with
           | .noSync => (.noSync, min (s.rx.failedCount + 1) 255)
           | .valid => (.holding, 1)
           | .holding => (if 4 ≤ s.rx.failedCount + 1 then .stale else .holding, min (s.rx.failedCount + 1) 255)
           | .stale => (.stale, min (s.rx.failedCount + 1) 255)
         t.rx = { s.rx with ends := rest, meas := r.1, failedCount := r.2,
                            inHand := some ⟨false, true, true, true⟩ } ∧
         t.mu.computing = none ∧
         (∀ c, look t.mu.entries c = { look s.mu.entries c with age := min ((look s.mu.entries c).age + 1) 255 }) ∧
         ((s.rx.meas = .holding ∨ s.rx.meas = .noSync) → s.rx.failedCount = 3 → AlarmStands .measLost .yard t)) ∧
        t.io = s.io ∧ t.cfg = s.cfg ∧ t.clock = s.clock)

/-- A scheduled close whose pulse frame is reached, with VALID measurement and every condition of R76
standing, starts its pulse: the step is CLOSING with its pulse and confirm times, the schedule and sync wait
go, the supervisor's snapshot is taken (R48, R76, R79, R81, R127); `settle` (log 13) adds the consequences for
orders and the right. The pulse frame of R79: the target frame is the first at or beyond the mechanism time whose
predicted wave position is 0 or 16, and the pulse lies 0 to 15 frames ahead; the mechanism time is rounded
to the nearest frame, a half up. That the pulse frame is reached by comparison modulo 2^32 is the model's
choice (log 18). A SYNCHRONIZED close that is taken while the conditions of R76 hold is SCHEDULED so, or starts its
pulse at once, when measurement is VALID; otherwise one of an order waits and one of voltage control ends; an
order's starts its sync wait (R79, R80). A close that is taken, or reaches its pulse frame, while a condition of R76
fails ends PREEMPTED with the reason of its row of R77, and so does one that is held when a condition comes to fail:
LOCKOUT, COOLING or HARMONIC_HOLDOFF added, or the service RETIRED; while all conditions hold it stands (R53, R77).
Which row gives the reason where several fail at once is the model's choice (log 16). -/
def Obligations.ScheduledPulseStartsTheClose : Prop :=
  (∀ (c : Schedule) (o : Operation) (s : State), s.resetHeld = false → s.seq.schedule = some c →
     (s.rx.frameNumber - c.pulseFrame).toNat < 2147483648 → (s.lane c.step).op = some o → s.rx.meas = .valid →
     s.io.inp0.level = false → (s.stepRec c.step).state = .opened → (s.stepRec c.step).lockout = none →
     (s.stepRec c.step).cooling = false → (s.stepRec c.step).holdoff = false → (s.stepRec c.step).retired = false →
     (s.lines c.step).direct = false →
     ∃ p, exec .scheduledClosePulse s = .next (settle p) ∧
       (p.stepRec c.step).state = .closing ∧ (p.stepRec c.step).lastSource = sourceOf o.source ∧
       p.lane c.step = ⟨some { o with phase := .inMotion }, s.cfg.yard.closePulse, (s.lane c.step).tripPulse,
                        some s.cfg.yard.confirmTime⟩ ∧
       p.seq.schedule = none ∧ p.seq.syncWait = none ∧ p.hs = { s.hs with snapshot := some ⟨c.step, s.hs.dv⟩ } ∧
       (∀ j, j ≠ c.step → p.stepRec j = s.stepRec j ∧ p.lane j = s.lane j) ∧
       p.rx = s.rx ∧ p.mu = s.mu ∧ p.arb = s.arb ∧ p.vc = s.vc ∧ p.oe = s.oe ∧ p.io = s.io ∧ p.cfg = s.cfg) ∧
  ((∀ w m : Nat,
     let k := pulseDelay w m
     k ≤ 15 ∧ (w + m + k) % 16 = 0 ∧ ∀ k', k' < k → (w + m + k') % 16 ≠ 0) ∧
   ∀ t f : Nat,
     let m := mechFrames t f
     1000 * m ≤ t * 32 * f + 500 ∧ t * 32 * f < 1000 * m + 500) ∧
  (∀ (i : StepId) (src : Requester) (s : State), s.io.inp0.level = false → (s.stepRec i).state = .opened →
     (s.stepRec i).lockout = none → (s.stepRec i).cooling = false → (s.stepRec i).holdoff = false →
     (s.stepRec i).retired = false → (s.lines i).direct = false → src = .vc ∨ src = .oe →
     (let t := takeClose i src .synchronized s
      let k := pulseDelay s.rx.wave.toNat (mechFrames (s.stepCfg i).mechTime s.cfg.yard.nominalFrequency)
      let wait := if src = .oe then some s.cfg.yard.syncWait else s.seq.syncWait
      (s.rx.meas = .valid → k ≠ 0 →
        t.lane i = { s.lane i with op := some ⟨.close .synchronized, src, .scheduled, true⟩ } ∧
        t.seq.schedule = some ⟨s.rx.frameNumber + BitVec.ofNat 32 k, i⟩ ∧ t.seq.syncWait = wait ∧
        t.arb = { s.arb with busy := .inOperation } ∧ t.tbl = s.tbl ∧ t.oe = s.oe ∧ t.vc = s.vc) ∧
      (s.rx.meas = .valid → k = 0 →
        (t.stepRec i).state = .closing ∧ (t.stepRec i).lastSource = sourceOf src ∧
        t.lane i = ⟨some ⟨.close .synchronized, src, .inMotion, true⟩, s.cfg.yard.closePulse, (s.lane i).tripPulse,
                    some s.cfg.yard.confirmTime⟩ ∧
        t.seq.schedule = none ∧ t.seq.syncWait = none ∧ t.arb = { s.arb with busy := .inOperation } ∧
        t.hs = { s.hs with snapshot := some ⟨i, s.hs.dv⟩ } ∧ t.oe = s.oe ∧ t.vc = s.vc) ∧
      (s.rx.meas ≠ .valid → src = .oe →
        t.lane i = { s.lane i with op := some ⟨.close .synchronized, src, .awaitingValid, true⟩ } ∧
        t.seq.schedule = s.seq.schedule ∧ t.seq.syncWait = some s.cfg.yard.syncWait ∧
        t.arb = { s.arb with busy := .inOperation } ∧ t.tbl = s.tbl ∧ t.oe = s.oe ∧ t.vc = s.vc) ∧
      (s.rx.meas ≠ .valid → src = .vc →
        t.lane i = { s.lane i with op := none } ∧ t.seq.schedule = none ∧ t.seq.syncWait = none ∧
        t.arb = { s.arb with busy := .notBusy } ∧ t.tbl = s.tbl ∧ t.oe = s.oe ∧ t.vc = (vcEndReport s).vc))) ∧
  (∀ (i : StepId) (src : Requester) (tm : Timing) (why : Option Reason) (s : State), CloseBarred i why s →
     src = .vc ∨ src = .oe →
     (takeClose i src tm s).tbl = s.tbl ∧ CloseEnded i src why s (takeClose i src tm s)) ∧
  (∀ (c : Schedule) (o : Operation) (why : Option Reason) (s : State), s.resetHeld = false →
     s.seq.schedule = some c → (s.rx.frameNumber - c.pulseFrame).toNat < 2147483648 →
     (s.lane c.step).op = some o → s.rx.meas = .valid → CloseBarred c.step why s →
     ∃ p, exec .scheduledClosePulse s = .next (settle p) ∧ p.tbl = s.tbl ∧ CloseEnded c.step o.source why s p) ∧
  ∀ (i : StepId) (o : Operation) (tm : Timing) (s : State), (s.lane i).op = some o → o.kind = .close tm →
    o.phase ≠ .inMotion →
    (let r := s.stepRec i
     (∀ why, CloseBarred i why s → (watchClose i s).tbl = s.tbl ∧ CloseEnded i o.source why s (watchClose i s)) ∧
     (s.io.inp0.level = false → r.state = .opened →
       (∀ why, CloseEnded i o.source (some .lockout) s (addLockout i why s)) ∧
       (r.lockout = none → CloseEnded i o.source none s (startCooldown i s) ∧
         (0 < s.cfg.yard.harmHoldoff → CloseEnded i o.source none s (startHoldoff i s)) ∧
         (r.cooling = false → r.holdoff = false →
           CloseEnded i o.source (some .retired) s (runRetire i s) ∧
           (r.retired = false → (s.lines i).direct = false → watchClose i s = s)))))

/-! ### Measurement unit -/

/-- RE and IM: the nearest integer to the sum over 262144, a tie away from zero, then the limit of R26
(R25). -/
def Obligations.PhasorPartsAreRounded : Prop :=
  ∀ (k : ChannelKind) (v i : Nat) (u : Sums),
    let round := fun x : Int => x.sign * ((x.natAbs + 131072) / 262144 : Nat)
    let limit := fun x : Int => max (-32767) (min 32767 x)
    (formEntry k v i u).re = limit (round u.sre) ∧ (formEntry k v i u).im = limit (round u.sim) ∧
    (∀ x : Int, 2 * (262144 * round x - x).natAbs ≤ 262144) ∧
    (∀ x : Int, 2 * (262144 * round x - x).natAbs = 262144 → x.natAbs < (262144 * round x).natAbs) ∧
    round 0 = 0 ∧ round 131071 = 0 ∧ round 131072 = 1 ∧ round (-131072) = -1

/-- RE, IM and M with their limits, and the CLIPPED flag: set exactly when RE, IM or M was limited or the peak is
32767 or more (R26, R27). M and R by integer square roots and their limits, with what the limits imply (R27,
R28). The sums and the peak they and RE and IM start from: of the 32 samples, with the coefficients of R23
(R24). -/
def Obligations.MagnitudeAndTrueRms : Prop :=
  (∀ xs : List Int, xs.length = 32 →
    let c : List Int :=
      [16384, 16069, 15137, 13623, 11585, 9102, 6270, 3196, 0, -3196, -6270, -9102, -11585, -13623, -15137, -16069]
    let sn : List Int :=
      [0, 3196, 6270, 9102, 11585, 13623, 15137, 16069, 16384, 16069, 15137, 13623, 11585, 9102, 6270, 3196]
    let table := fun (half : List Int) (k : Nat) => if k < 16 then half.getD k 0 else -(half.getD (k - 16) 0)
    let u := formSums xs
    u.sre = ((List.range 32).map fun k => xs.getD k 0 * table c k).sum ∧
    u.sim = -((List.range 32).map fun k => xs.getD k 0 * table sn k).sum ∧
    u.ssq = (xs.map fun x => x.natAbs * x.natAbs).sum ∧
    (∀ x ∈ xs, x.natAbs ≤ u.pk) ∧ (∃ x ∈ xs, x.natAbs = u.pk) ∧
    ((∀ x ∈ xs, -32768 ≤ x ∧ x ≤ 32767) → u.ssq ≤ 34359738368 ∧ u.pk ≤ 32768) ∧
    ∀ (k : ChannelKind) (v i : Nat), (formEntry k v i u).pk = u.pk) ∧
  (∀ (k : ChannelKind) (v i : Nat) (u : Sums),
    let e := formEntry k v i u
    let round := fun x : Int => x.sign * ((x.natAbs + 131072) / 262144 : Nat)
    let limit := fun x : Int => max (-32767) (min 32767 x)
    let q := e.re.natAbs * e.re.natAbs + e.im.natAbs * e.im.natAbs
    e.re = limit (round u.sre) ∧ e.im = limit (round u.sim) ∧
    ∃ n, n * n ≤ q ∧ q < (n + 1) * (n + 1) ∧ n ≤ 46339 ∧ e.m = min n 32767 ∧
      (e.clipped = true ↔
        32767 < (round u.sre).natAbs ∨ 32767 < (round u.sim).natAbs ∨ 32767 < n ∨ 32767 ≤ u.pk)) ∧
  ∀ (k : ChannelKind) (v i : Nat) (xs : List Int), xs.length = 32 → (∀ x ∈ xs, -32768 ≤ x ∧ x ≤ 32767) →
    let u := formSums xs
    let e := formEntry k v i u
    ∃ n, n * n ≤ u.ssq / 32 ∧ u.ssq / 32 < (n + 1) * (n + 1) ∧ e.r = min n 32767 ∧
      (32767 < n → (∀ x ∈ xs, x = -32768) ∧ e.pk = 32768 ∧ e.clipped = true)

/-- F from M, H from R and F, D from H and F, P by the channel's kind and the snapshot (R29 to R32). -/
def Obligations.FundamentalResidualAndLevels : Prop :=
  ∀ (k : ChannelKind) (v i : Nat) (u : Sums),
    let e := formEntry k v i u
    e.f = e.m * 46341 / 65536 ∧ e.f ≤ 23169 ∧
    (e.r * e.r ≤ e.f * e.f → e.h = 0) ∧
    (e.f * e.f < e.r * e.r → e.h * e.h ≤ e.r * e.r - e.f * e.f ∧ e.r * e.r - e.f * e.f < (e.h + 1) * (e.h + 1)) ∧
    (328 ≤ e.f → e.d = some (min (1000 * e.h / e.f) 9999)) ∧ (e.f < 328 → e.d = none) ∧
    e.p = (match k with
      | .voltage => min (1000 * e.f / v) 4000
      | .yardCurrent => min (1000 * e.f / i) 4000
      | .neutral => 0)

/-- A publication replaces all fourteen entries from the window under computation with its snapshot,
releases it, raises the publication count, and raises or ends CHANNEL_CLIPPED where a flag changed; where the
flag of a channel is the same before and after, and for the neutral channel of a step that is not fitted, the
CHANNEL_CLIPPED entries of that channel are as before; nothing else changes (R20, R21, R35, R194). -/
def Obligations.PublicationReplacesTheTable : Prop :=
  ∀ (w : Computation) (s : State), s.resetHeld = false → s.mu.computing = some w →
    ∃ t, exec .publication s = .next t ∧
      t = { s with mu := t.mu, link := { s.link with pubCount := s.link.pubCount + 1, alarms := t.link.alarms } } ∧
      t.mu.computing = none ∧
      (∀ c, look t.mu.entries c =
        formEntry (channelKind c) w.voltageNominal w.currentNominal
          (formSums (w.frames.map fun x => (look x c).toInt))) ∧
      (t.link.alarms.filter fun e => decide (e.kind ≠ .channelClipped)) =
        (s.link.alarms.filter fun e => decide (e.kind ≠ .channelClipped)) ∧
      (∀ sub : Subject,
        (∀ c : ChanId, sub = .channel c →
          (look t.mu.entries c).clipped = (look s.mu.entries c).clipped ∨
          ∃ i : StepId, c.val = 6 + i.val ∧ (s.stepRec i).fitted = false) →
        (t.link.alarms.filter fun e => decide (e.kind = .channelClipped ∧ e.subject = sub)) =
          s.link.alarms.filter fun e => decide (e.kind = .channelClipped ∧ e.subject = sub)) ∧
      ∀ c, (c.val < 6 ∨ ∃ i : StepId, c.val = 6 + i.val ∧ (s.stepRec i).fitted = true) →
        ((look t.mu.entries c).clipped = true → (look s.mu.entries c).clipped = false →
          AlarmStands .channelClipped (.channel c) t) ∧
        ((look t.mu.entries c).clipped = false → (look s.mu.entries c).clipped = true →
          AlarmAbsent .channelClipped (.channel c) t)

/-! ### Voltage control -/

/-- A good window end evaluated by voltage control: V_CTRL (R99), DEAD_ACC and the dead opened flag with the
opening of every CLOSED or CLOSING step under part control (R111, R112), FAST_ACC and the fast condition in
AUTO (R109, R110); the cause of FAST_OV ends with the fast condition, that of DEAD_BUS_OPEN with the dead opened flag
(R110, R113); the window end is consumed (R11). Its six steps in the order of R100, in AUTO and in MANUAL,
with `settle` (log 13) where requests may have changed. Step by step: the band of the settings comes into force
(R116, log 34); a firing of the fast stage makes the removal due, the request urgent and cuts a settle (R95, R109);
the band accumulators move by the table of R101, both at 0 under the dead condition, and say whether they have
reached their delay; the ordinary request is decided by the table of R105; the unit withdraws its own close
without a pulse under the dead condition or HARM_ALARM_V (R106; at every good window that finds it so, log 30); an
end report clears the band and sets the request state (R108). -/
def Obligations.VoltageControlEvaluatesAGoodWindow : Prop :=
  (∀ (h : InHand) (s : State), s.resetHeld = false → s.rx.inHand = some h → h.vc = true → h.good = true →
     s.mu.computing = none →
     (let p0 := (look s.mu.entries 0).p
      let p1 := (look s.mu.entries 1).p
      let p2 := (look s.mu.entries 2).p
      let y := s.cfg.yard
      let vctrl := if y.controlQuantity = 0 then (p0 + p1 + p2) / 3 else max p0 (max p1 p2)
      let dead := decide (p0 < y.deadLevel) && decide (p1 < y.deadLevel) && decide (p2 < y.deadLevel)
      let deadAcc := if dead then min (s.vc.deadAcc + 1) y.deadDelay else 0
      let fires := dead && decide (deadAcc = y.deadDelay)
      ∃ t, exec .vcEvaluation s = .next t ∧ t.vc.vctrl = vctrl ∧ t.vc.auto = s.vc.auto ∧
        t.vc.deadAcc = deadAcc ∧ t.vc.deadOpened = (dead && (s.vc.deadOpened || fires)) ∧
        (fires = true → ∀ i, ((s.stepRec i).state = .closed ∨ (s.stepRec i).state = .closing) →
          (s.lines i).direct = false → (t.stepRec i).state = .opening) ∧
        (fires = true → s.vc.deadOpened = false → AlarmStands .deadBusOpen .yard t) ∧
        (dead = false → CauseOver .deadBusOpen .yard s.vc.deadOpened s t) ∧
        (s.vc.auto = true → vctrl < y.fastLevel → CauseOver .fastOv .yard s.vc.fastCondition s t) ∧
        t.vc.fastAcc =
          (if s.vc.auto then
             if y.fastLevel ≤ vctrl then (if y.fastDelay ≤ s.vc.fastAcc + 1 then 0 else s.vc.fastAcc + 1) else 0
           else s.vc.fastAcc) ∧
        t.vc.fastCondition =
          (if s.vc.auto then
             decide (y.fastLevel ≤ vctrl) && (s.vc.fastCondition || decide (y.fastDelay ≤ s.vc.fastAcc + 1))
           else s.vc.fastCondition) ∧
        (s.vc.auto = true → y.fastLevel ≤ vctrl → y.fastDelay ≤ s.vc.fastAcc + 1 → AlarmStands .fastOv .yard t) ∧
        t.rx = { s.rx with inHand := if h.hs || h.ub then some { h with vc := false } else none } ∧
        t.mu = s.mu ∧ t.io = s.io ∧ t.cfg = s.cfg ∧ t.clock = s.clock)) ∧
  (∀ (h : InHand) (s : State), s.resetHeld = false → s.rx.inHand = some h → h.vc = true → h.good = true →
     s.mu.computing = none →
     (let taken := vcDead (vcForm { s with rx.inHand := if h.hs || h.ub then some { h with vc := false } else none })
      exec .vcEvaluation s = .next (settle (vcWithdrawCheck
        (if s.vc.auto then settle (vcDecide (vcBand (settle (vcFast taken)))) else taken))))) ∧
  (∀ s : State, ∃ v, vcForm s = { s with vc := { s.vc with
     vctrl := v, bandLow := s.cfg.yard.bandLow, bandHigh := s.cfg.yard.bandHigh } }) ∧
  (∀ s : State,
     ((look s.mu.entries 0).p < s.cfg.yard.deadLevel → (look s.mu.entries 1).p < s.cfg.yard.deadLevel →
       s.cfg.yard.deadLevel ≤ (look s.mu.entries 2).p) →
     vcDead s = { s with
       vc := { s.vc with deadAcc := 0, deadOpened := false },
       link.alarms := s.link.alarms.map fun e =>
         if s.vc.deadOpened = true ∧ e.kind = .deadBusOpen ∧ e.subject = .yard then { e with cause := false } else e }) ∧
  (∀ s : State,
     let y := s.cfg.yard
     let t := vcFast s
     t = { s with vc := t.vc, arb := t.arb, link := { s.link with alarms := t.link.alarms } } ∧
     (y.fastLevel ≤ s.vc.vctrl → y.fastDelay ≤ s.vc.fastAcc + 1 →
       t.vc = { s.vc with fastAcc := 0, fastDue := true, fastCondition := true,
                          request := if s.vc.request = .operating then .operating else .fastPending } ∧
       t.arb = { s.arb with vcRequest := .urgent, busy := match s.arb.busy with
         | .inOperation => .inOperation
         | _ => .notBusy }) ∧
     (y.fastLevel ≤ s.vc.vctrl → s.vc.fastAcc + 1 < y.fastDelay →
       t = { s with vc.fastAcc := s.vc.fastAcc + 1 }) ∧
     (s.vc.vctrl < y.fastLevel → t.vc = { s.vc with fastAcc := 0, fastCondition := false } ∧ t.arb = s.arb ∧
       CauseOver .fastOv .yard s.vc.fastCondition s t)) ∧
  (∀ s : State,
     let y := s.cfg.yard
     let v := s.vc
     let din := y.delayIn * y.nominalFrequency
     let dout := y.delayOut * y.nominalFrequency
     vcBand s = { s with vc :=
       if 0 < v.deadAcc then { v with lowAcc := 0, highAcc := 0, lowReached := false, highReached := false }
       else
         let low := if v.vctrl < v.bandLow then min (v.lowAcc + 1) din
           else if v.bandHigh < v.vctrl then 0 else v.lowAcc - 1
         let high := if v.vctrl < v.bandLow then 0
           else if v.bandHigh < v.vctrl then min (v.highAcc + 1) dout else v.highAcc - 1
         { v with lowAcc := low, highAcc := high, lowReached := decide (low = din),
                  highReached := decide (high = dout) } }) ∧
  (∀ s : State,
     let decided := fun (r : VcRequestState) (none : Bool) (pending : VcPending) =>
       vcDecide s = { s with vc := { s.vc with request := r, noCandidate := none },
                             arb := { s.arb with vcRequest := pending } }
     let placed := if s.arb.vcRequest = .absent then VcPending.ordinary else s.arb.vcRequest
     if s.vc.request = .operating ∨ s.vc.request = .fastPending then vcDecide s = s
     else if s.vc.lowReached = true then
       (s.hs.vActive = true ∨ s.io.inp0.level = true → decided .addBlocked s.vc.noCandidate .absent) ∧
       (s.hs.vActive = false → s.io.inp0.level = false →
         (addCandidate s ≠ none → decided .addPending false placed) ∧
         (addCandidate s = none → decided .idle true .absent))
     else if s.vc.highReached = true then
       (removeCandidate s ≠ none → decided .removePending false placed) ∧
       (removeCandidate s = none → decided .idle true .absent)
     else decided .idle false .absent) ∧
  (∀ s : State,
     (s.vc.deadAcc = 0 → s.hs.vActive = false → vcWithdrawCheck s = s) ∧
     ((∀ i, NoOtherHeldClose i s) → vcWithdrawCheck s = s) ∧
     ∀ (i : StepId) (o : Operation) (tm : Timing), (s.lane i).op = some o → o.kind = .close tm →
       NoOtherHeldClose i s → 0 < s.vc.deadAcc ∨ s.hs.vActive = true →
       (o.source ≠ .vc ∨ o.phase = .inMotion → vcWithdrawCheck s = s) ∧
       (o.source = .vc → o.phase ≠ .inMotion →
         (let t := vcWithdrawCheck s
          t.lane i = { s.lane i with op := none } ∧ t.seq.schedule = none ∧ t.seq.syncWait = none ∧
          t.arb = { s.arb with busy := .notBusy } ∧ t.tbl = s.tbl ∧ t.oe = s.oe ∧ t.vc = (vcEndReport s).vc))) ∧
  ∀ s : State, vcEndReport s = { s with vc := { s.vc with
    lowAcc := 0, highAcc := 0, lowReached := false, highReached := false,
    request := if s.arb.vcRequest = .urgent then .fastPending else .idle } }

/-- The add candidate chosen has the lowest operation count, the lowest step number among equals; the remove
candidate chosen is the first in list order; none is chosen only where there is none (R57, R103, R104). The band
is the one in force since the last good window (R116, log 34). -/
def Obligations.SelectionTakesTheBestCandidate : Prop :=
  ∀ s : State,
    let y := s.cfg.yard
    let change := fun i : StepId => (s.stepCfg i).rating * y.sensitivity / 100
    let add := fun i : StepId =>
      (s.stepRec i).retired = false ∧ (s.stepRec i).state = .opened ∧ (s.lines i).direct = false ∧
      (s.stepRec i).cooling = false ∧ (s.stepRec i).holdoff = false ∧ (s.stepRec i).lockout = none ∧
      (s.stepRec i).hold = false ∧ s.vc.vctrl + change i + y.margin ≤ s.vc.bandHigh
    let remove := fun i : StepId =>
      (s.stepRec i).state = .closed ∧ (s.stepRec i).hold = false ∧
      s.vc.bandLow + y.margin + change i ≤ s.vc.vctrl
    (addCandidate s = none ↔ ∀ i, ¬add i) ∧
    (∀ i, addCandidate s = some i ↔ add i ∧ ∀ j, add j →
      (s.stepRec i).opCount < (s.stepRec j).opCount ∨
      ((s.stepRec i).opCount = (s.stepRec j).opCount ∧ i ≤ j)) ∧
    (removeCandidate s = none ↔ ∀ i ∈ s.tbl.closedOrder, ¬remove i) ∧
    ∀ i, removeCandidate s = some i →
      ∃ before after, s.tbl.closedOrder = before ++ i :: after ∧ remove i ∧ ∀ j ∈ before, ¬remove j

/-! ### Harmonic supervisor -/

/-- A good window end evaluated by the harmonic supervisor: DV and DI (R119), both alarm stages (R121) with
their entries (R122), the resonance watch (R129, R130), the trip counter and shedding (R124, R125) with the cause of
HARM_TRIP, which stands after a shed and ends when shedding ends (R126); the window end is consumed (R11). An open
watch goes on while the rise condition does not hold; when it holds the watch ends, and a step that takes the mark
is suspect with RESONANCE standing for it; otherwise no RESONANCE entry changes. -/
def Obligations.HarmonicSupervisorEvaluatesAGoodWindow : Prop :=
  ∀ (h : InHand) (s : State), s.resetHeld = false → s.rx.inHand = some h → h.hs = true → h.good = true →
    s.mu.computing = none →
    ∃ t, exec .harmonicEvaluation s = .next t ∧
      (let y := s.cfg.yard
       let shown := fun (c : ChanId) (d : Nat) =>
         (look s.mu.entries c).clipped = false ∧ (look s.mu.entries c).d = some d
       let highest := fun (a b c : ChanId) (level : Option Nat) =>
         (level = none ↔ ∀ d, ¬shown a d ∧ ¬shown b d ∧ ¬shown c d) ∧
         ∀ x, level = some x ↔ (shown a x ∨ shown b x ∨ shown c x) ∧
           ∀ d, shown a d ∨ shown b d ∨ shown c d → d ≤ x
       let stage := fun (level : Option Nat) (setting count : Nat) (active : Bool) (r : Nat × Bool) =>
         match level with
         | none => r = (count, active)
         | some x =>
           (setting ≤ x → r.1 = min (count + 1) y.harmAlarmDelay ∧
             (r.2 = true ↔ active = true ∨ r.1 = y.harmAlarmDelay)) ∧
           (x < setting → 95 * setting / 100 ≤ x → r = (count, active)) ∧
           (x < setting → x < 95 * setting / 100 → r = (0, false))
       let threshold := if s.hs.shedding then y.shedInterval else y.harmTripDelay
       highest 0 1 2 t.hs.dv ∧ highest 3 4 5 t.hs.di ∧
       stage t.hs.dv y.dvAlarm s.hs.vCount s.hs.vActive (t.hs.vCount, t.hs.vActive) ∧
       stage t.hs.di y.diAlarm s.hs.iCount s.hs.iActive (t.hs.iCount, t.hs.iActive) ∧
       (let entries := fun (k : AlarmKind) (x : State) =>
          x.link.alarms.filter fun e => decide (e.kind = k ∧ e.subject = .yard)
        let follows := fun (k : AlarmKind) (was now : Bool) =>
          (now = true → was = false → AlarmStands k .yard t) ∧ (now = false → was = true → AlarmAbsent k .yard t) ∧
          (now = was → entries k t = entries k s)
        follows .harmAlarmV s.hs.vActive t.hs.vActive ∧ follows .harmAlarmI s.hs.iActive t.hs.iActive ∧
        (t.hs.shedding = false → s.hs.shedding = true →
          entries .harmTrip t = (entries .harmTrip s).map fun e => { e with cause := false }) ∧
        (t.hs.shedding = false → s.hs.shedding = false → entries .harmTrip t = entries .harmTrip s) ∧
        (t.hs.dv = none ∨ t.hs.tripCount ≠ 0 ∨ s.tbl.closedOrder = [] → t.hs.shedding = s.hs.shedding →
          entries .harmTrip t = entries .harmTrip s)) ∧
       (let resonance := fun x : State => x.link.alarms.filter fun e => decide (e.kind = .resonance)
        (s.hs.watch = none → t.hs.watch = none ∧ resonance t = resonance s) ∧
        ∀ w, s.hs.watch = some w →
          (let rise := ∃ x, t.hs.dv = some x ∧ w.dvBefore + y.resonanceRise ≤ x ∧ y.dvAlarm ≤ x
           let takes := (s.stepRec w.step).retired = false ∧ (s.stepRec w.step).state = .closed ∧
             w.step ∈ s.tbl.closedOrder
           (¬rise → t.hs.watch = some w ∧ resonance t = resonance s) ∧
           (rise → t.hs.watch = none) ∧
           (rise → takes → (t.stepRec w.step).suspect = true ∧ AlarmStands .resonance (.step w.step) t) ∧
           (rise → ¬takes → resonance t = resonance s))) ∧
       (match t.hs.dv with
        | none => t.hs.tripCount = s.hs.tripCount ∧ t.hs.shedding = s.hs.shedding
        | some x =>
          if y.dvTrip ≤ x then
            if min (s.hs.tripCount + 1) threshold = threshold ∧ s.tbl.closedOrder ≠ [] then
              t.hs.tripCount = 0 ∧ t.hs.shedding = true ∧ AlarmStands .harmTrip .yard t ∧
              ∀ e ∈ t.link.alarms, e.kind = .harmTrip → e.subject = .yard → e.cause = true
            else t.hs.tripCount = min (s.hs.tripCount + 1) threshold ∧ t.hs.shedding = s.hs.shedding
          else t.hs.tripCount = 0 ∧ t.hs.shedding = false)) ∧
      t.rx = { s.rx with inHand := if h.vc || h.ub then some { h with hs := false } else none } ∧
      t.mu = s.mu ∧ t.io = s.io ∧ t.cfg = s.cfg ∧ t.clock = s.clock

/-- A shed takes the head when it is suspect and the tail otherwise, arms a step that is not already OPEN,
sends it a protective open, raises HARM_TRIP and starts the next interval (R61, R69, R89, R125, R126). At a good
window HARMONIC_EVALUATION forms the levels, updates the two alarm stages (V before I: log 14), takes the watch and
then the trip stage, in which the step of a due shed is chosen after the watch (R120); `settle` is log 13. A V alarm
state that becomes active withdraws a close of voltage control that has not started its pulse (R106, R122). -/
def Obligations.ShedTakesHeadOrTail : Prop :=
  (∀ (h : InHand) (s : State), s.resetHeld = false → s.rx.inHand = some h → h.hs = true → h.good = true →
    s.mu.computing = none →
    exec .harmonicEvaluation s = .next (settle (hsTrip (hsWatch (hsStageI (hsStageV (hsForm
      { s with rx.inHand := if h.vc || h.ub then some { h with hs := false } else none })))))) ) ∧
  (∀ (x : Nat) (s : State), s.hs.dv = some x → s.cfg.yard.dvTrip ≤ x →
    (let threshold := if s.hs.shedding then s.cfg.yard.shedInterval else s.cfg.yard.harmTripDelay
     (s.hs.tripCount + 1 < threshold → hsTrip s = { s with hs.tripCount := s.hs.tripCount + 1 }) ∧
     (threshold ≤ s.hs.tripCount + 1 →
       (shedChoice s = none → hsTrip s = { s with hs.tripCount := threshold }) ∧
       ∀ i, shedChoice s = some i → hsTrip s = shed i { s with hs.tripCount := threshold }))) ∧
  (∀ s : State,
    (let t := hsStageV s
     (¬(t.hs.vActive = true ∧ s.hs.vActive = false) → t.seq = s.seq ∧ t.arb = s.arb ∧ t.vc = s.vc ∧ t.oe = s.oe) ∧
     ((∀ i, NoOtherHeldClose i s) → t.seq = s.seq ∧ t.arb = s.arb ∧ t.vc = s.vc ∧ t.oe = s.oe) ∧
     ∀ (i : StepId) (o : Operation) (tm : Timing), t.hs.vActive = true → s.hs.vActive = false →
       (s.lane i).op = some o → o.kind = .close tm → o.phase ≠ .inMotion → NoOtherHeldClose i s →
       (o.source ≠ .vc → t.seq = s.seq ∧ t.arb = s.arb ∧ t.vc = s.vc ∧ t.oe = s.oe) ∧
       (o.source = .vc →
         t.lane i = { s.lane i with op := none } ∧ t.seq.schedule = none ∧ t.seq.syncWait = none ∧
         t.arb = { s.arb with busy := .notBusy } ∧ t.tbl = s.tbl ∧ t.oe = s.oe ∧ t.vc = (vcEndReport s).vc))) ∧
  (∀ s : State, shedChoice s = none ↔ s.tbl.closedOrder = []) ∧
  (∀ (i : StepId) (rest : List StepId) (s : State), s.tbl.closedOrder = i :: rest →
    ((s.stepRec i).suspect = true → shedChoice s = some i) ∧
    ((s.stepRec i).suspect = false → shedChoice s = s.tbl.closedOrder.getLast?)) ∧
  ∀ (i : StepId) (s : State),
    let t := shed i s
    t.hs = { s.hs with shedding := true, tripCount := 0 } ∧ AlarmStands .harmTrip .yard t ∧
    ((s.stepRec i).state = .closed ∨ (s.stepRec i).state = .opening → (t.timers i).arming = true) ∧
    ((s.stepRec i).state = .closed → (s.lines i).direct = false →
      (t.stepRec i).state = .opening ∧ (t.stepRec i).lastSource = .protection ∧
      (t.lane i).tripPulse = s.cfg.yard.tripPulse ∧ (t.lane i).confirm = some s.cfg.yard.confirmTime) ∧
    ((s.stepRec i).state = .opening → t.seq = s.seq ∧ (t.stepRec i).state = .opening) ∧
    ∀ j, j ≠ i → t.stepRec j = s.stepRec j ∧ t.timers j = s.timers j

/-- A resonance suspect mark: applied to a step in service, CLOSED and listed, with the flag set and the
step at the head, the order of the others kept; otherwise nothing changes; the answer says which (R60). -/
def Obligations.SuspectMarkMovesToTheHead : Prop :=
  ∀ (i : StepId) (s : State),
    let r := markSuspect i s
    if (s.stepRec i).retired = false ∧ (s.stepRec i).state = .closed ∧ i ∈ s.tbl.closedOrder then
      r.2 = true ∧ r.1 = { s with tbl := r.1.tbl } ∧
      r.1.stepRec i = { s.stepRec i with suspect := true } ∧ (∀ j, j ≠ i → r.1.stepRec j = s.stepRec j) ∧
      r.1.tbl.closedOrder = i :: s.tbl.closedOrder.filter (· ≠ i) ∧
      (∀ rest, s.tbl.closedOrder = i :: rest → i ∉ rest → r.1.tbl.closedOrder = s.tbl.closedOrder)
    else r = (s, false)

/-- Voltage control, the harmonic supervisor and the unbalance unit at a failed window end: held in HOLDING, where
an ordinary request of voltage control is withdrawn and an urgent one kept, cleared in STALE and NO_SYNC (R102,
R110, R111, R131, R146, R150), with the alarm causes that end with what is cleared (R110, R113, R122, R126, R145);
every learning in progress ends its order FAILED INTERRUPTED (R150); each unit consumes the window end (R11). `settle`
(log 13) adds the consequences for orders and the right. -/
def Obligations.FailedWindowHoldsOrClears : Prop :=
  ∀ (h : InHand) (s : State), s.resetHeld = false → s.rx.inHand = some h → h.good = false → s.mu.computing = none →
    (h.vc = true → ∃ p, exec .vcEvaluation s = .next (settle p) ∧ p.tbl = s.tbl ∧ p.oe = s.oe ∧
      p.rx = { s.rx with inHand := if h.hs || h.ub then some { h with vc := false } else none } ∧
      (if s.rx.meas = .holding then
         p.vc = { s.vc with request :=
           if s.vc.request = .operating ∨ s.vc.request = .fastPending then s.vc.request else .idle } ∧
         p.arb = { s.arb with vcRequest := if s.arb.vcRequest = .urgent then .urgent else .absent } ∧
         p.link = s.link
       else
         p.vc = { s.vc with lowAcc := 0, highAcc := 0, lowReached := false, highReached := false,
                            fastAcc := 0, fastDue := false, fastCondition := false, deadAcc := 0, deadOpened := false, noCandidate := false,
                            request := if s.vc.request = .operating then .operating else .idle } ∧
         p.arb = { s.arb with vcRequest := .absent } ∧
         p.link = { s.link with alarms := p.link.alarms } ∧
         p.link.alarms = (s.link.alarms.map fun e =>
           if e.subject = .yard ∧ ((e.kind = .fastOv ∧ s.vc.fastCondition = true) ∨
              (e.kind = .deadBusOpen ∧ s.vc.deadOpened = true)) then { e with cause := false } else e))) ∧
    (h.hs = true → ∃ p, exec .harmonicEvaluation s = .next (settle p) ∧ p.tbl = s.tbl ∧ p.oe = s.oe ∧ p.arb = s.arb ∧
      p.rx = { s.rx with inHand := if h.vc || h.ub then some { h with hs := false } else none } ∧
      (if s.rx.meas = .holding then p.hs = s.hs ∧ p.link = s.link
       else p.hs = { s.hs with vCount := 0, iCount := 0, tripCount := 0, vActive := false, iActive := false,
                               shedding := false } ∧
         p.link = { s.link with alarms := p.link.alarms } ∧
         p.link.alarms = ((s.link.alarms.filter fun e =>
             !decide (e.subject = .yard ∧ ((e.kind = .harmAlarmV ∧ s.hs.vActive = true) ∨
               (e.kind = .harmAlarmI ∧ s.hs.iActive = true)))).map fun e =>
           if e.subject = .yard ∧ e.kind = .harmTrip ∧ s.hs.shedding = true then { e with cause := false }
           else e))) ∧
    (h.ub = true → ∃ p, exec .unbalanceEvaluation s = .next (settle p) ∧ p.tbl = s.tbl ∧ p.arb = s.arb ∧
      p.rx = { s.rx with inHand := if h.vc || h.hs then some { h with ub := false } else none } ∧
      p.link = { s.link with alarms := p.link.alarms } ∧
      p.link.alarms = (s.link.alarms.filter fun e =>
        !decide (s.rx.meas ≠ .holding ∧ e.kind = .unbalanceAlarm ∧ ∃ i : StepId, e.subject = .step i ∧
          (s.unb i).tripped = false ∧ (s.unb i).alarmActive = true)) ∧
      ((∀ i, (s.unb i).learning = none) → p.oe = s.oe) ∧
      (∀ i j, (s.unb i).learning ≠ none → s.oe.executing = some j →
        p.oe.executing = none ∧ (p.slot j).state = .finished ∧ (p.slot j).outcome = some .failed ∧
        (p.slot j).reason = some .interrupted) ∧
      ∀ i, p.unb i =
        (let u := { s.unb i with learning := none }
         if s.rx.meas = .holding then u
         else
           let u := { u with armCount := if u.armed then u.armCount else 0 }
           if u.tripped then u
           else { u with alarmCount := 0, alarmActive := false, tripTiming := false, tripCount := 0 }))

/-! ### Unbalance protection -/

/-- The compensated quantity of R140, and its storing as last u for an armed step. -/
def Obligations.UnbalanceFigureIsFormed : Prop :=
  (∀ (e : ChanEntry) (c : StepSettings), -32767 ≤ e.re → e.re ≤ 32767 → -32767 ≤ e.im → e.im ≤ 32767 →
    -32767 ≤ c.baselineRe → c.baselineRe ≤ 32767 → -32767 ≤ c.baselineIm → c.baselineIm ≤ 32767 →
    let dre := e.re - c.baselineRe
    let dim := e.im - c.baselineIm
    dre.natAbs ≤ 65534 ∧ dim.natAbs ≤ 65534 ∧ formU e c ≤ 9999 ∧
    (e.clipped = true → formU e c = 9999) ∧
    ∃ n, n * n ≤ dre.natAbs * dre.natAbs + dim.natAbs * dim.natAbs ∧
      dre.natAbs * dre.natAbs + dim.natAbs * dim.natAbs < (n + 1) * (n + 1) ∧
      min n 32767 * 46341 / 65536 ≤ 23169 ∧
      (e.clipped = false → formU e c = min (1000 * (min n 32767 * 46341 / 65536) / c.neutralRated) 9999)) ∧
  ∀ (i : StepId) (s : State), (s.unb i).armed = true →
    ((ubStages i s).1.unb i).lastU = formU (look s.mu.entries ⟨6 + i.val, by omega⟩) (s.stepCfg i)

/-- A good window end evaluated by the unbalance unit, step after step in ascending number (log 14), with `settle`
(log 13) after the last; for one step: the arming of R137, at the tenth window evaluated at once as an armed
step, and for an armed step that is not TRIPPED the alarm stage with its UNBALANCE_ALARM entry (R141, R145) and
the trip of R142 and R143 exactly where it is due: the tripped flag, no UNBALANCE_ALARM from an alarm state that
was or became active, LOCKOUT with reason UNBALANCE unless one stood, UNBALANCE_TRIP, cleared counters, and the
trip pulse of a CLOSED step under part control. A step whose departure from CLOSED comes after the window end is
evaluated as an armed step all the same, a due trip is made, its open finds the step OPENING, OPEN or FAULTED and
issues no pulse, its LOCKOUT is added, and the step is disarmed (R138). Where a learning and a trip fall together the
order is the model's choice (log 15); so is which of a departure and a window end comes first (log 37). -/
def Obligations.UnbalanceTripLocksAndOpens : Prop :=
  (∀ (h : InHand) (s : State), s.resetHeld = false → s.rx.inHand = some h → h.ub = true → h.good = true →
    s.mu.computing = none →
    exec .unbalanceEvaluation s = .next (settle ([0, 1, 2, 3, 4, 5, 6, 7].foldl (fun t i => ubStep i t)
      { s with rx.inHand := if h.vc || h.hs then some { h with ub := false } else none }))) ∧
  (∀ (i : StepId) (s : State), (s.unb i).armed = false → (s.stepRec i).state ≠ .closed → (s.unb i).learning = none →
    (s.unb i).departed = false → ubStep i s = s) ∧
  (∀ (i : StepId) (s : State), (s.unb i).armed = false → (s.stepRec i).state = .closed → (s.unb i).armCount < 9 →
    (s.unb i).learning = none → (s.unb i).departed = false →
    ubStep i s = s.modUnb i fun u => { u with armCount := u.armCount + 1 }) ∧
  (∀ (i : StepId) (s : State), (s.unb i).armed = false → (s.unb i).armCount = 9 →
    (s.stepRec i).state = .closed ∨ (s.unb i).departed = true →
    (let t := ubStep i s
     let u := formU (look s.mu.entries ⟨6 + i.val, by omega⟩) (s.stepCfg i)
     t = ubStep i (s.modUnb i fun x => { x with armed := true, armCount := 10 }) ∧
     ((s.unb i).departed = false →
       (t.unb i).lastU = u ∧
       ((s.unb i).tripped = true ∨ u < (s.stepCfg i).unbTrip → (t.unb i).armed = true ∧ (t.unb i).armCount = 10)))) ∧
  (∀ (i : StepId) (s : State), (s.unb i).departed = true → (s.stepRec i).state ≠ .closed →
    let u := formU (look s.mu.entries ⟨6 + i.val, by omega⟩) (s.stepCfg i)
    let c := s.stepCfg i
    let t := ubStep i s
    let due := c.unbTrip ≤ u ∧ min ((s.unb i).tripCount + 1) c.unbTripDelay = c.unbTripDelay
    t.unb i = ⟨false, 0, 0, false, false, 0, (t.unb i).tripped, (t.unb i).lastU, none, false⟩ ∧
    ((s.stepRec i).state ≠ .closing →
      (t.stepRec i).state = (s.stepRec i).state ∧ (t.lane i).tripPulse = (s.lane i).tripPulse ∧
      (t.lane i).confirm = (s.lane i).confirm) ∧
    ((s.unb i).alarmActive = true → AlarmAbsent .unbalanceAlarm (.step i) t) ∧
    ((s.unb i).armed = true → (t.unb i).lastU = u) ∧
    ((s.unb i).armed = true → (s.unb i).tripped = false → (s.stepRec i).state ≠ .closing → due →
      (t.unb i).tripped = true ∧ AlarmStands .unbalanceTrip (.step i) t ∧
      t.stepRec i = { s.stepRec i with lockout := some ((s.stepRec i).lockout.getD .unbalance) }) ∧
    ((s.unb i).tripped = true ∨ ¬due ∨ ((s.unb i).armed = false ∧ (s.unb i).armCount < 9) →
      (t.unb i).tripped = (s.unb i).tripped ∧ t.tbl = s.tbl ∧ t.seq = s.seq)) ∧
  ∀ (i : StepId) (s : State), (s.unb i).armed = true → (s.unb i).tripped = false → (s.unb i).departed = false →
    let u := formU (look s.mu.entries ⟨6 + i.val, by omega⟩) (s.stepCfg i)
    let c := s.stepCfg i
    let t := ubStep i s
    let stage : Nat × Bool :=
      if c.unbAlarm ≤ u then
        (min ((s.unb i).alarmCount + 1) c.unbAlarmDelay,
         (s.unb i).alarmActive || decide (min ((s.unb i).alarmCount + 1) c.unbAlarmDelay = c.unbAlarmDelay))
      else if 95 * c.unbAlarm / 100 ≤ u then ((s.unb i).alarmCount, (s.unb i).alarmActive)
      else (0, false)
    let entries := fun x : State =>
      x.link.alarms.filter fun e => decide (e.kind = .unbalanceAlarm ∧ e.subject = .step i)
    if c.unbTrip ≤ u ∧ min ((s.unb i).tripCount + 1) c.unbTripDelay = c.unbTripDelay then
      (t.unb i).tripped = true ∧ (t.unb i).alarmCount = 0 ∧ (t.unb i).tripCount = 0 ∧
      (t.unb i).alarmActive = false ∧ (t.unb i).tripTiming = false ∧ AlarmStands .unbalanceTrip (.step i) t ∧
      (if (s.unb i).alarmActive = true ∨ stage.2 = true then AlarmAbsent .unbalanceAlarm (.step i) t
       else entries t = entries s) ∧
      (t.stepRec i).lockout = some ((s.stepRec i).lockout.getD .unbalance) ∧
      ((s.stepRec i).state = .closed → (s.lines i).direct = false →
        (t.stepRec i).state = .opening ∧ (t.lane i).tripPulse = s.cfg.yard.tripPulse ∧
        (¬WindowAtUnit s → (t.unb i).armed = false)) ∧
      ((s.stepRec i).state = .closed → (s.lines i).direct = true →
        (t.stepRec i).state = .closed ∧ (t.unb i).armed = true)
    else
      (t.unb i).tripped = false ∧ t.tbl = s.tbl ∧ t.seq = s.seq ∧
      (t.link.alarms.filter fun e => decide (e.kind ≠ .unbalanceAlarm ∨ e.subject ≠ .step i)) =
        (s.link.alarms.filter fun e => decide (e.kind ≠ .unbalanceAlarm ∨ e.subject ≠ .step i)) ∧
      ((∀ l, (s.unb i).learning = some l → l.count ≠ 15) →
        ((t.unb i).alarmCount, (t.unb i).alarmActive) = stage ∧
        (stage.2 = true → (s.unb i).alarmActive = false → AlarmStands .unbalanceAlarm (.step i) t) ∧
        (stage.2 = false → (s.unb i).alarmActive = true → AlarmAbsent .unbalanceAlarm (.step i) t) ∧
        (stage.2 = (s.unb i).alarmActive → entries t = entries s) ∧
        (t.unb i).tripTiming = (if c.unbTrip ≤ u then true
          else if 95 * c.unbTrip / 100 ≤ u then (s.unb i).tripTiming else false) ∧
        (t.unb i).tripCount = (if c.unbTrip ≤ u then min ((s.unb i).tripCount + 1) c.unbTripDelay
          else if 95 * c.unbTrip / 100 ≤ u then (s.unb i).tripCount else 0))

/-- The sixteenth window completes a learning: the rounded means become the baseline, the stages are
cleared, the order ends DONE; a clipped window interrupts it; an earlier one is summed (R148 to R150). The
evaluation of a step takes the window into its learning after the stages, which leave the learning, the published
entries and the order engine as they are (R139, R148); where a trip is made, its lockout and protective open come
after that (the model's choice, log 15). A departure from CLOSED that comes after the window end is taken after it:
the sixteenth window completes the learning, at any other the order ends FAILED INTERRUPTED (R149, R150; which of the
two comes first is the model's choice, log 37). -/
def Obligations.LearningStoresTheRoundedMean : Prop :=
  (∀ (i : StepId) (s : State),
    let r := ubStages i (armStep i s)
    (r.1.unb i).learning = (s.unb i).learning ∧ r.1.mu = s.mu ∧ r.1.oe = s.oe ∧ r.1.cfg = s.cfg ∧
    (r.2 = true ↔ ((armStep i s).unb i).armed = true ∧ (s.unb i).tripped = false ∧ (r.1.unb i).tripped = true) ∧
    (let t := takeDeparture i (learnWindow i r.1)
     ubStep i s = if r.2 then ubTripOut i t else t)) ∧
  (∀ (i : StepId) (s : State), (s.unb i).departed = false → takeDeparture i s = s) ∧
  (∀ (i : StepId) (l : Learning) (j : SlotId) (s : State), (s.unb i).departed = true → (s.unb i).learning = some l →
    s.oe.executing = some j →
    (let t := takeDeparture i (learnWindow i s)
     let whole := l.count + 1 = 16 ∧ (look s.mu.entries ⟨6 + i.val, by omega⟩).clipped = false
     (t.unb i).learning = none ∧ (t.unb i).armed = false ∧ (t.unb i).departed = false ∧
     t.oe.executing = none ∧ (t.slot j).state = .finished ∧
     (whole → (t.slot j).outcome = some .done ∧ (t.slot j).reason = none) ∧
     (¬whole → (t.slot j).outcome = some .failed ∧ (t.slot j).reason = some .interrupted ∧ t.cfg = s.cfg))) ∧
  ∀ (i : StepId) (l : Learning) (s : State), (s.unb i).learning = some l →
    let e := look s.mu.entries ⟨6 + i.val, by omega⟩
    let t := learnWindow i s
    if e.clipped = true then
      (t.unb i).learning = none ∧ t.cfg = s.cfg ∧
      (∀ j, s.oe.executing = some j → t.oe.executing = none ∧ (t.slot j).state = .finished ∧
        (t.slot j).outcome = some .failed ∧ (t.slot j).reason = some .interrupted)
    else if l.count + 1 = 16 then
      (t.unb i).learning = none ∧ (t.unb i).alarmCount = 0 ∧ (t.unb i).tripCount = 0 ∧
      (t.unb i).alarmActive = false ∧ (t.unb i).tripTiming = false ∧ (t.unb i).tripped = (s.unb i).tripped ∧
      t.stepCfg i = { s.stepCfg i with
        baselineRe := (l.sumRe + e.re).sign * (((l.sumRe + e.re).natAbs + 8) / 16 : Nat),
        baselineIm := (l.sumIm + e.im).sign * (((l.sumIm + e.im).natAbs + 8) / 16 : Nat) } ∧
      (∀ j, j ≠ i → t.stepCfg j = s.stepCfg j) ∧ t.cfg.yard = s.cfg.yard ∧
      (∀ j, s.oe.executing = some j → t.oe.executing = none ∧ (t.slot j).state = .finished ∧
        (t.slot j).outcome = some .done ∧ (t.slot j).reason = none)
    else t = s.modUnb i fun u => { u with learning := some ⟨l.count + 1, l.sumRe + e.re, l.sumIm + e.im⟩ }

/-! ### Expiries -/

/-- The expiries of running countdowns: a cooldown and COOLING, a holdoff and HARMONIC_HOLDOFF, a
not-before, and a deadline that ends its order EXPIRED (R65, R72, R164); `settle` adds the consequences for
orders and the right. The end of a close pulse, a trip pulse and YARD TRIP makes the line inactive, and the
expiry of a resonance watch ends it without a mark; nothing else changes (R81, R86, R88, R130). An expiry may be
taken whenever its time runs (the model's choice, log 3). -/
def Obligations.ExpiriesEndWhatRan : Prop :=
  ((∀ (i : StepId) (s : State), s.resetHeld = false → 0 < (s.timers i).cooldown →
     exec (.cooldownExpiry i) s = .next (settle
       ((s.modTimers i fun t => { t with cooldown := 0 }).modStep i fun r => { r with cooling := false }))) ∧
   (∀ (i : StepId) (s : State), s.resetHeld = false → 0 < (s.timers i).holdoffMs →
     exec (.holdoffExpiry i) s = .next (settle
       ((s.modTimers i fun t => { t with holdoffMs := 0 }).modStep i fun r => { r with holdoff := false }))) ∧
   (∀ (j : SlotId) (n : Nat) (s : State), s.resetHeld = false → (s.slot j).notBeforeTimer = some n →
     exec (.notBeforeElapsed j) s = .next (settle (s.modSlot j fun o => { o with notBeforeTimer := none }))) ∧
   ∀ (j : SlotId) (n : Nat) (s : State), s.resetHeld = false → (s.slot j).deadlineTimer = some n →
     exec (.deadlineExpiry j) s = .next (settle
       ({ s with oe.posted := s.oe.posted.filter (· ≠ j) }.modSlot j fun o =>
         { o with state := .finished, outcome := some .expired, reason := none, finishedAt := some s.clock.seconds,
                  notBeforeTimer := none, deadlineTimer := none }))) ∧
  (∀ s : State, s.resetHeld = false →
     (∀ i, exec (.closePulseEnd i) s = .next (s.modLane i fun l => { l with closePulse := 0 })) ∧
     (∀ i, exec (.tripPulseEnd i) s = .next (s.modLane i fun l => { l with tripPulse := 0 })) ∧
     exec .yardTripEnd s = .next { s with seq.yardTrip := 0 } ∧
     exec .resonanceWatchExpiry s = .next { s with hs.watch := none })

/-- The confirm timer of a close expires: with the feed LOST the step is FAULTED with NO_INDICATION (R83);
with the feed LIVE the failure chain trips it with LOCKOUT and CLOSE_FAIL (R84, R50, R54); the busy period
and an order's end as the rules give; the suspect flag with the cause of RESONANCE and the holdoff arming change at
the entry into FAULTED only (R52, R71, R130); `settle` (log 13) adds the further
consequences. -/
def Obligations.CloseConfirmExpiryFailsTheClose : Prop :=
  ∀ (i : StepId) (o : Operation) (tm : Timing) (n : Nat) (s : State), s.resetHeld = false →
    (s.stepRec i).state = .closing → (s.lane i).op = some o → o.kind = .close tm → (s.lane i).confirm = some n →
    ∃ p, exec (.closeConfirmExpiry i) s = .next (settle p) ∧ (p.lane i).closePulse = 0 ∧
      (∀ j, j ≠ i → p.lane j = s.lane j ∧ p.stepRec j = s.stepRec j) ∧
      (if s.rx.feedLive then
         (p.stepRec i).state = .opening ∧ (p.stepRec i).lastSource = .protection ∧
         (p.stepRec i).lockout = some ((s.stepRec i).lockout.getD .closeFailure) ∧
         p.lane i = ⟨some ⟨.trip, .protection, .inMotion, o.underRight⟩, 0, s.cfg.yard.tripPulse,
                     some s.cfg.yard.confirmTime⟩ ∧
         AlarmStands .closeFail (.step i) p ∧ p.arb = s.arb ∧ p.dt = s.dt ∧
         (p.stepRec i).suspect = (s.stepRec i).suspect ∧ CauseOver .resonance .yard false s p ∧
         ((s.stepRec i).retired = false → i ∈ p.tbl.closedOrder)
       else
         (p.stepRec i).state = .faulted .noIndication ∧ FaultedNotice i s p ∧
         (p.lane i).op = none ∧ (p.lane i).confirm = none ∧
         (p.lane i).tripPulse = (s.lane i).tripPulse ∧ i ∉ p.tbl.closedOrder ∧
         p.arb = (if o.underRight then
           { s.arb with busy := if s.arb.vcRequest = .urgent ∨ s.cfg.yard.settleClose = 0 then .notBusy
                                else .settling (1000 * s.cfg.yard.settleClose) }
           else s.arb)) ∧
      (∀ j, o.source = .oe → s.oe.executing = some j → p.oe.executing = none ∧ (p.slot j).state = .finished ∧
        (p.slot j).outcome = some .failed ∧
        (p.slot j).reason = some (if s.rx.feedLive then .position else .noIndication)) ∧
      (p.stepRec i).opCount = (s.stepRec i).opCount ∧ p.seq.yardTrip = s.seq.yardTrip

/-- The confirm timer of an open expires: the trip pulse is cut and the operation goes; with the feed LIVE the step
is FAULTED with SWITCH_FAILURE and LOCKOUT, SWITCH_FAIL is raised and YARD TRIP driven; with the feed LOST it is
FAULTED with NO_INDICATION (R52, R87, R88, R92, R95). Either way the suspect flag is cleared with the cause of
RESONANCE, and a suspect's holdoff is armed (R52, R71, R130). `settle` (log 13) adds the further consequences
for orders and the right. -/
def Obligations.OpenConfirmExpiryFaultsTheStep : Prop :=
  ∀ (i : StepId) (o : Operation) (n : Nat) (s : State), s.resetHeld = false →
    (s.stepRec i).state = .opening → (s.lane i).op = some o → o.kind = .trip → (s.lane i).confirm = some n →
    ∃ p, exec (.openConfirmExpiry i) s = .next (settle p) ∧
      p.lane i = ⟨none, (s.lane i).closePulse, 0, none⟩ ∧ FaultedNotice i s p ∧
      (∀ j, j ≠ i → p.lane j = s.lane j ∧ p.stepRec j = s.stepRec j) ∧ i ∉ p.tbl.closedOrder ∧
      (if s.rx.feedLive then
         (p.stepRec i).state = .faulted .switchFailure ∧
         (p.stepRec i).lockout = some ((s.stepRec i).lockout.getD .switchFailure) ∧
         AlarmStands .switchFail (.step i) p ∧ p.seq.yardTrip = s.cfg.yard.backupPulse
       else
         (p.stepRec i).state = .faulted .noIndication ∧ (p.stepRec i).lockout = (s.stepRec i).lockout ∧
         p.seq.yardTrip = s.seq.yardTrip) ∧
      p.arb = (if o.underRight then
        { s.arb with busy := if s.arb.vcRequest = .urgent ∨ s.cfg.yard.settleOpen = 0 then .notBusy
                             else .settling (1000 * s.cfg.yard.settleOpen) }
        else s.arb) ∧
      (∀ j, o.source = .oe → s.oe.executing = some j → p.oe.executing = none ∧ (p.slot j).state = .finished ∧
        (p.slot j).outcome = some .failed ∧
        (p.slot j).reason = some (if s.rx.feedLive then .position else .noIndication))

/-- The sync wait timer's expiry ends a close that is AWAITING_VALID, an order's with FAILED and NO_SYNC, and leaves
a SCHEDULED one with the timer at 0, read from R80 by inference (log 24); the settle's expiry frees the right
(R92); `settle` (log 13) applies the grant rule (R93). The grant rule of R93: an urgent request of VC wins; else
the only requester; else the one that is not the holder; nobody while the right is busy. With both pending and
no holder the model takes VC (log 17). -/
def Obligations.SyncWaitSettleAndGrantRule : Prop :=
  ((∀ (i : StepId) (o : Operation) (tm : Timing) (n : Nat) (s : State), s.resetHeld = false →
     s.seq.syncWait = some (n + 1) → (s.lane i).op = some o → o.kind = .close tm → o.phase ≠ .inMotion →
     NoOtherHeldClose i s →
     ∃ p, exec .syncWaitExpiry s = .next (settle p) ∧
       (o.phase = .scheduled → p = { s with seq.syncWait := some 0 }) ∧
       (o.phase = .awaitingValid →
         p.tbl = s.tbl ∧ (p.lane i).op = none ∧ (p.lane i).closePulse = (s.lane i).closePulse ∧
         p.seq.schedule = none ∧ p.seq.syncWait = none ∧ p.arb = { s.arb with busy := .notBusy } ∧
         ∀ j, o.source = .oe → s.oe.executing = some j → p.oe.executing = none ∧ (p.slot j).state = .finished ∧
           (p.slot j).outcome = some .failed ∧ (p.slot j).reason = some .noSync)) ∧
   ∀ (n : Nat) (s : State), s.resetHeld = false → s.arb.busy = .settling n →
     exec .settleExpiry s = .next (settle { s with arb.busy := .notBusy })) ∧
  (∀ a : Arbiter,
     (a.busy ≠ .notBusy → winner a = none) ∧
     (a.busy = .notBusy →
       (a.vcRequest = .urgent → winner a = some .vc) ∧
       (a.vcRequest = .ordinary → a.oeRequest = false → winner a = some .vc) ∧
       (a.vcRequest = .absent → a.oeRequest = true → winner a = some .oe) ∧
       (a.vcRequest = .ordinary → a.oeRequest = true → a.holder = .vc → winner a = some .oe) ∧
       (a.vcRequest = .ordinary → a.oeRequest = true → a.holder ≠ .vc → winner a = some .vc) ∧
       (a.vcRequest = .absent → a.oeRequest = false → winner a = none)))

/-! ### Yard inputs -/

/-- The emergency edge: every DIRECT-owned step returned with its levels inactive, every CLOSED or CLOSING
step tripped, EMERGENCY_OPEN raised with its cause present (R181, R89); `settle` (log 13) adds the consequences
for orders and the right. A protective open of one step by the table of R89: the trip's record is PROTECTION's, under
the right as the close it cuts was, so that the right stays busy; the cut close ends with its report PREEMPTED and no
reason; no operation is counted (R50, R86, R90). -/
def Obligations.EmergencyEdgeOpensEveryStep : Prop :=
  (∀ s : State, s.resetHeld = false → s.io.inp1.level = false →
    ∃ p, exec (.inputLevelChange .inp1 true) s = .next (settle p) ∧
      p.io.inp1 = ⟨true, true, none, 0⟩ ∧ p.io.inp0 = s.io.inp0 ∧ p.io.inp2 = s.io.inp2 ∧ p.io.strap = s.io.strap ∧
      (∀ i, p.lines i = if (s.lines i).direct then ⟨false, false, false, false, false⟩ else s.lines i) ∧
      (∀ i, if (s.stepRec i).state = .closed ∨ (s.stepRec i).state = .closing then
          (p.stepRec i).state = .opening ∧ (p.stepRec i).lastSource = .protection ∧
          p.lane i = ⟨some ⟨.trip, .protection, .inMotion,
              match (s.stepRec i).state, (s.lane i).op with
              | .closing, some o => o.underRight
              | _, _ => false⟩, 0, s.cfg.yard.tripPulse, some s.cfg.yard.confirmTime⟩
        else p.stepRec i = s.stepRec i ∧ p.lane i = s.lane i) ∧
      (∃ e ∈ p.link.alarms, e.kind = .emergencyOpen ∧ e.subject = .yard ∧ e.acked = false ∧ e.cause = true) ∧
      p.arb = s.arb ∧ p.rx = s.rx ∧ p.mu = s.mu ∧ p.cfg = s.cfg ∧ p.clock = s.clock) ∧
  ∀ (i : StepId) (s : State),
    let t := protectiveOpen i s
    let opens := fun under : Bool =>
      (t.stepRec i).state = .opening ∧ (t.stepRec i).lastSource = .protection ∧
      (t.stepRec i).opCount = (s.stepRec i).opCount ∧
      t.lane i = ⟨some ⟨.trip, .protection, .inMotion, under⟩, 0, s.cfg.yard.tripPulse, some s.cfg.yard.confirmTime⟩ ∧
      t.seq.yardTrip = s.seq.yardTrip ∧ t.arb = s.arb ∧ t.hs = s.hs ∧
      ∀ j, j ≠ i → t.stepRec j = s.stepRec j ∧ t.lane j = s.lane j
    ((s.stepRec i).state = .closed → (s.lines i).direct = true → t = s) ∧
    ((s.stepRec i).state = .closed → (s.lines i).direct = false → opens false ∧ t.vc = s.vc) ∧
    (∀ o, (s.stepRec i).state = .closing → (s.lane i).op = some o →
      opens o.underRight ∧
      ((s.stepRec i).retired = false → i ∉ s.tbl.closedOrder → t.tbl.closedOrder = s.tbl.closedOrder ++ [i]) ∧
      (o.source = .vc → t.oe = s.oe ∧ t.vc = (vcEndReport s).vc) ∧
      (o.source = .oe → t.vc = s.vc ∧ ∀ j, s.oe.executing = some j →
        t.oe.executing = none ∧ (t.slot j).state = .finished ∧ (t.slot j).outcome = some .preempted ∧
        (t.slot j).reason = none)) ∧
    ((s.stepRec i).state ≠ .closed → (s.stepRec i).state ≠ .closing → t = s)

/-- The other level changes: CLOSE_INHIBIT ends every close that has not started its pulse, with the report
PREEMPTED INHIBIT and the right free with no settle, and has the pool examined (R77, R92, R180; that INHIBIT is
the reason where other conditions fail too is log 16); the end of EMERGENCY_OPEN ends its cause; MAINT_PERMIT
active has no further effect; a permit loss returns every DIRECT-owned step and raises PERMIT_LOST when there
was one (R181, R182). That the command sets pin, level and filter at once (log 23) and the place of `settle`
(log 13) are the model's choices. -/
def Obligations.InputLevelsActAsTheirInput : Prop :=
  (∀ s : State, s.resetHeld = false → s.io.inp0.level = false →
    ∃ p, exec (.inputLevelChange .inp0 true) s = .next (settle p) ∧ p.io = { s.io with inp0 := ⟨true, true, none, 0⟩ } ∧
      p.tbl = s.tbl ∧
      ((∀ i, NoOtherHeldClose i s) → p.seq = s.seq ∧ p.arb = s.arb ∧ p.oe = s.oe ∧ p.vc = s.vc) ∧
      (∀ (i : StepId) (o : Operation) (tm : Timing), (s.lane i).op = some o → o.kind = .close tm →
        o.phase ≠ .inMotion → NoOtherHeldClose i s →
        p.seq.schedule = none ∧ p.seq.syncWait = none ∧ p.arb = { s.arb with busy := .notBusy } ∧
        (o.source = .vc → p.oe = s.oe ∧ p.vc = (vcEndReport s).vc) ∧
        (o.source = .oe → p.vc = s.vc ∧ ∀ j, s.oe.executing = some j →
          p.oe.executing = none ∧ (p.slot j).state = .finished ∧ (p.slot j).outcome = some .preempted ∧
          (p.slot j).reason = some .inhibit)) ∧
      ∀ i, (p.lane i).closePulse = (s.lane i).closePulse ∧ (p.lane i).tripPulse = (s.lane i).tripPulse ∧
        (p.lane i).op = match (s.lane i).op with
          | some ⟨.close _, _, .inMotion, _⟩ => (s.lane i).op
          | some ⟨.close _, _, _, _⟩ => none
          | _ => (s.lane i).op) ∧
  (∀ s : State, s.resetHeld = false → s.io.inp0.level = true →
    ∃ p, exec (.inputLevelChange .inp0 false) s = .next (settle p) ∧
      p.io = { s.io with inp0 := ⟨false, false, none, 0⟩ } ∧ p.tbl = s.tbl) ∧
  (∀ s : State, s.resetHeld = false → s.io.inp1.level = true →
    exec (.inputLevelChange .inp1 false) s = .next { s with
      io.inp1 := ⟨false, false, none, 0⟩,
      link.alarms := s.link.alarms.map fun e =>
        if e.kind = .emergencyOpen ∧ e.subject = .yard then { e with cause := false } else e }) ∧
  (∀ s : State, s.resetHeld = false → s.io.inp2.level = false →
    exec (.inputLevelChange .inp2 true) s = .next { s with io.inp2 := ⟨true, true, none, 0⟩ }) ∧
  ∀ s : State, s.resetHeld = false → s.io.inp2.level = true →
    ∃ t, exec (.inputLevelChange .inp2 false) s = .next t ∧ t.io.inp2 = ⟨false, false, none, 0⟩ ∧
      t = { s with io := { s.io with inp2 := t.io.inp2, lines := t.io.lines },
                   link := { s.link with alarms := t.link.alarms } } ∧
      (∀ i, t.lines i = if (s.lines i).direct then ⟨false, false, false, false, false⟩ else s.lines i) ∧
      ((∃ i, (s.lines i).direct = true) → AlarmStands .permitLost .yard t) ∧
      ((∀ i, (s.lines i).direct = false) → t.link.alarms = s.link.alarms)

/-! ### Station link -/

/-- A frame abort leaves everything but the receive register and the bytes shifted out; with READY low it is a
filler frame, which sets the overrun flag and nothing else; a composed response is loaded with the overrun flag
as it stands, and READY rises (R189 to R191). Every complete frame is taken exactly once while READY is high:
READY falls, the loaded response has been shifted out and a set overrun bit in it clears the overrun flag, and
one response is composed that echoes the code and tag and has 13 data bytes; a complete frame while READY is low
is a filler frame (R190 to R192). The bits go out most significant first, those of an unfinished byte of a
partial frame too, and every bit after the sixteenth byte as 0 (R189). The 16 bytes of a response by their
places, with the number of each status and the overrun bit, and the bytes of a wide number, the most significant
first and signed ones in two's complement, in both directions (R192, R204). A frame whose select was asserted at
the release of RESET is ignored whole, once: nothing of it is taken or consumed and the overrun flag stands
(R203); what was shifted out in it is free (log 36). A frame is one command, and the bits shifted out and the
numbers of bits after the sixteenth byte are kept in fields of the model's own (logs 6, 7, 8, 35). -/
def Obligations.StationLinkFrames : Prop :=
  ((∀ (n : Nat) (s : State), Ready s →
     exec (.frameAbort n) s = .next { s with
       link.rxBytes := 0, link.rxBits := 0, link.dataOut := (frameBits (responseBytes s.link.tx)).take n }) ∧
   (∀ (n : Nat) (s : State), s.resetHeld = false → s.link.ignoring = true → ∃ out, out.length = n ∧
     exec (.frameAbort n) s = .next { s with
       link.rxBytes := 0, link.rxBits := 0, link.ignoring := false, link.dataOut := out,
       freeDraws := s.freeDraws + 1 }) ∧
   (∀ (c : Instr) (s : State), s.resetHeld = false → s.link.ignoring = true →
     c = .fillerFrame ∨ encodeFrame c ≠ none → ∃ out, out.length = 128 + s.extraBits.headD 0 ∧
     exec c s = .next { s with
       link.rxBytes := 0, link.rxBits := 0, link.ignoring := false, link.dataOut := out,
       extraBits := s.extraBits.tail, freeDraws := s.freeDraws + 1 }) ∧
   (∀ (n : Nat) (s : State), s.resetHeld = false → s.link.ready = false → s.link.ignoring = false →
     exec (.frameAbort n) s = .next { s with
       link.rxBytes := 0, link.rxBits := 0, link.overrun := true,
       link.dataOut := (frameBits ([0, 0, 10] ++ List.replicate 13 0)).take n }) ∧
   (∀ s : State, s.resetHeld = false → s.link.ready = false → s.link.ignoring = false →
     exec .fillerFrame s = .next { s with
       link.rxBytes := 0, link.rxBits := 0, link.overrun := true, extraBits := s.extraBits.tail,
       link.dataOut := frameBits ([0, 0, 10] ++ List.replicate 13 0) ++ List.replicate (s.extraBits.headD 0) false }) ∧
   ∀ (r : Response) (s : State), s.resetHeld = false → s.link.composed = some r →
     exec .responseLoad s = .next { s with
       link.tx := { r with overrun := s.link.overrun }, link.composed := none, link.ready := true }) ∧
  (∀ r : Response, r.data.length = 13 →
     (let b := responseBytes r
      b.length = 16 ∧ b.getD 0 0 = r.code ∧ b.getD 1 0 = r.tag ∧
      (b.getD 2 0).toNat =
        (match r.status with
         | .ok => 0
         | .clamped => 1
         | .noneToGive => 2
         | .badCode => 3
         | .badArg => 4
         | .staleHandle => 5
         | .wrongState => 6
         | .tooLate => 7
         | .inconsistent => 8
         | .notPermitted => 9
         | .notReady => 10) + (if r.overrun = true then 128 else 0) ∧
      ∀ k, k < 13 → b.getD (k + 3) 0 = r.data.getD k 0)) ∧
  ((∀ n, n < 65536 → ∃ b1 b0 : Byte, be16 n = [b1, b0] ∧ b1.toNat * 256 + b0.toNat = n) ∧
   (∀ n, n < 4294967296 → ∃ b3 b2 b1 b0 : Byte, be32 n = [b3, b2, b1, b0] ∧
     b3.toNat * 16777216 + b2.toNat * 65536 + b1.toNat * 256 + b0.toNat = n) ∧
   (∀ x : Int, -32768 ≤ x → x < 32768 → ∃ n, n < 65536 ∧ sbe16 x = be16 n ∧
     (n : Int) = if x < 0 then x + 65536 else x) ∧
   (∀ x : Int, -2147483648 ≤ x → x < 2147483648 → ∃ n, n < 4294967296 ∧ sbe32 x = be32 n ∧
     (n : Int) = if x < 0 then x + 4294967296 else x) ∧
   level16 none = [0xFF, 0xFF] ∧ (∀ n, level16 (some n) = be16 n) ∧
   (∀ b1 b0 : Byte, (half16 b1 b0).toNat = b1.toNat * 256 + b0.toNat) ∧
   ∀ b3 b2 b1 b0 : Byte, (word32 b3 b2 b1 b0).toNat =
     b3.toNat * 16777216 + b2.toNat * 65536 + b1.toNat * 256 + b0.toNat) ∧
  (∀ (c : Instr) (b : List Byte) (s : State), encodeFrame c = some b → s.resetHeld = false →
     s.link.ignoring = false →
     (s.link.ready = true → ∃ t r, exec c s = .next t ∧ t.link.composed = some r ∧
       r.code = b.getD 0 0 ∧ r.tag = b.getD 1 0 ∧ r.overrun = false ∧ r.data.length = 13 ∧
       t.link.ready = false ∧ t.link.tx = s.link.tx ∧
       t.link.dataOut = frameBits (responseBytes s.link.tx) ++ List.replicate (s.extraBits.headD 0) false ∧
       t.extraBits = s.extraBits.tail ∧
       t.link.overrun = (s.link.overrun && !s.link.tx.overrun) ∧ t.link.rxBytes = 0 ∧ t.link.rxBits = 0 ∧
       t.link.pubCount = s.link.pubCount ∧ t.rx = s.rx ∧ t.mu = s.mu ∧ t.clock = s.clock ∧ t.pending = s.pending) ∧
     (s.link.ready = false →
       exec c s = .next { s with
         link.rxBytes := 0, link.rxBits := 0, link.overrun := true, extraBits := s.extraBits.tail,
         link.dataOut := frameBits ([0, 0, 10] ++ List.replicate 13 0) ++ List.replicate (s.extraBits.headD 0) false }))

/-- What the consumption of the loaded response does; BAD_CODE answers with that status and zeros and does
nothing else; POLL and READ_IDENT give their data and change nothing else (R190 to R193, 11.9.3). The zeros after
the sixteenth byte (R189) come in the numbers of the model's own list (log 35). -/
def Obligations.PollIdentAndBadCodeAnswer : Prop :=
  (∀ s : State, consume s = { s with
    link.rxBytes := 0, link.rxBits := 0, link.ready := false,
    link.dataOut := frameBits (responseBytes s.link.tx) ++ List.replicate (s.extraBits.headD 0) false,
    extraBits := s.extraBits.tail, link.overrun := s.link.overrun && !s.link.tx.overrun }) ∧
  ∀ (code tag : Byte) (s : State), Ready s →
    exec (.badCode code tag) s = .next (respond code tag .badCode (List.replicate 13 0) (consume s)) ∧
    exec (.poll tag) s = .next (respond 0x01 tag .ok
      ([(match s.rx.meas with
         | .noSync => (0 : Byte)
         | .valid => 1
         | .holding => 2
         | .stale => 3),
        (if s.vc.auto then (1 : Byte) else 0) + (if s.link.overrun && !s.link.tx.overrun then 2 else 0),
        (match s.arb.holder with
         | .none => 0
         | .vc => 1
         | .oe => 2) +
        (match s.arb.busy with
         | .notBusy => 0
         | .inOperation => 16
         | .settling _ => 32)] ++ be32 s.clock.seconds.toNat ++
       [byteOf (finishedCount s), byteOf s.link.alarms.length, byteOf (unackedCount s.link.alarms),
        byteOf s.oe.freeQueue.length, byteOf s.oe.posted.length, 0]) (consume s)) ∧
    exec (.readIdent tag) s = .next (respond 0x02 tag .ok ([0x45, 0x08, 0x01] ++ List.replicate 10 0) (consume s))

/-- READ_STEP, READ_CHANNEL and READ_YARD give the record, the entry or the figures laid out by their page, and
change nothing; a step, channel or page out of range is refused with BAD_ARG (R39, R194, R195, sections 11.9.4,
11.9.5 and 11.9.7). For a page that is not there the data is 0 (R192); for a step or channel that is not there
the bytes its page gives are free (log 9). Stage and last u are absent while the step is not armed or its
departure from CLOSED waits for the unit (log 37). READ_LINES gives for each step the owner, both lines as R183
finds them and both staged levels, then the three inputs, YARD TRIP and the strap code, and changes nothing
(R188, section 11.9.9). The codes of sections 11.9.4, 11.9.5 and 11.9.7, each by its table, and the unbalance
stage shown (R144). -/
def Obligations.RecordReadsGiveTheRecord : Prop :=
  (∀ (tag a page : Byte) (s : State), Ready s →
     (∀ i : StepId, a.toNat = i.val →
       (page = 0 → exec (.readStep tag a page) s = .next (respond 0x03 tag .ok
         ([a, byteOf (stateCode (s.stepRec i).state), byteOf (faultCode (s.stepRec i).state),
           byteOf (positionCode (s.stepRec i).indicated),
           byteOf ((if (s.stepRec i).fitted then 1 else 0) + (if (s.stepRec i).retired then 2 else 0) +
             (if (s.stepRec i).suspect then 4 else 0) + (if (s.stepRec i).cooling then 8 else 0) +
             (if (s.stepRec i).holdoff then 16 else 0) + (if (s.stepRec i).lockout ≠ none then 32 else 0) +
             (if (s.stepRec i).hold then 64 else 0)),
           byteOf (lockoutCode (s.stepRec i).lockout)] ++
          be16 (((s.timers i).cooldown + 999) / 1000) ++ be16 (((s.timers i).holdoffMs + 999) / 1000) ++
          be16 (s.stepRec i).opCount ++
          [byteOf (16 * sourceCode (s.stepRec i).lastSource +
             if i ∈ s.tbl.closedOrder then s.tbl.closedOrder.idxOf i + 1 else 0)]) (consume s))) ∧
       (page = 1 → exec (.readStep tag a page) s = .next (respond 0x03 tag .ok
         ([a, byteOf (if (s.unb i).armed && !(s.unb i).departed then unbalanceStage (s.unb i) else 0)] ++
          be16 (if (s.unb i).armed && !(s.unb i).departed then (s.unb i).lastU else 0) ++
          sbe16 (s.stepCfg i).baselineRe ++ sbe16 (s.stepCfg i).baselineIm ++
          [if (s.lines i).direct then 1 else 0,
           byteOf ((if (s.lines i).stagedClose then 1 else 0) + if (s.lines i).stagedTrip then 2 else 0),
           0, 0, 0]) (consume s)))) ∧
     (∀ c : ChanId, a.toNat = c.val →
       (page = 0 → exec (.readChannel tag a page) s = .next (respond 0x04 tag .ok
         ([a, byteOf (kindCode (channelKind c) + if (look s.mu.entries c).clipped then 128 else 0), s.link.pubCount] ++
          sbe16 (look s.mu.entries c).re ++ sbe16 (look s.mu.entries c).im ++ be16 (look s.mu.entries c).m ++
          be16 (look s.mu.entries c).r ++ be16 (look s.mu.entries c).pk) (consume s))) ∧
       (page = 1 → exec (.readChannel tag a page) s = .next (respond 0x04 tag .ok
         ([a, byteOf (kindCode (channelKind c) + if (look s.mu.entries c).clipped then 128 else 0), s.link.pubCount] ++
          be16 (look s.mu.entries c).f ++ be16 (look s.mu.entries c).h ++
          (match (look s.mu.entries c).d with
           | some d => be16 d
           | none => [0xFF, 0xFF]) ++
          be16 (look s.mu.entries c).p ++ [byteOf (look s.mu.entries c).age, 0]) (consume s)))) ∧
     (page.toNat ≤ 2 → exec (.readYard tag page) s = .next (respond 0x05 tag .ok
       (if page = 0 then
          be16 s.vc.vctrl ++ be16 s.vc.lowAcc ++ be16 s.vc.highAcc ++ [byteOf s.vc.fastAcc] ++ be16 s.vc.deadAcc ++
          [byteOf (requestCode s.vc.request),
           byteOf ((if s.vc.noCandidate then 1 else 0) + (if s.vc.fastCondition then 2 else 0) +
             (if s.vc.fastDue then 4 else 0) + if s.vc.deadOpened then 8 else 0), 0, 0]
        else if page = 1 then
          level16 s.hs.dv ++ level16 s.hs.di ++ be16 s.hs.vCount ++ be16 s.hs.iCount ++ be16 s.hs.tripCount ++
          [byteOf ((if s.hs.shedding then 1 else 0) + (if s.hs.vActive then 2 else 0) +
             if s.hs.iActive then 4 else 0), 0, 0]
        else
          (byteOf s.tbl.closedOrder.length ::
            (s.tbl.closedOrder.map fun i : StepId => byteOf i.val) ++ List.replicate 12 0xFF).take 13) (consume s))) ∧
     (2 ≤ page.toNat →
       exec (.readStep tag a page) s = .next (respond 0x03 tag .badArg (List.replicate 13 0) (consume s)) ∧
       exec (.readChannel tag a page) s = .next (respond 0x04 tag .badArg (List.replicate 13 0) (consume s))) ∧
     (3 ≤ page.toNat →
       exec (.readYard tag page) s = .next (respond 0x05 tag .badArg (List.replicate 13 0) (consume s))) ∧
     (8 ≤ a.toNat → page.toNat ≤ 1 →
       ∃ d, d.length = (if page = 0 then 13 else 10) ∧ exec (.readStep tag a page) s =
         .next (respond 0x03 tag .badArg (d ++ List.replicate (13 - d.length) 0)
           { consume s with freeDraws := s.freeDraws + 1 })) ∧
     (14 ≤ a.toNat → page.toNat ≤ 1 →
       ∃ d, d.length = (if page = 0 then 13 else 12) ∧ exec (.readChannel tag a page) s =
         .next (respond 0x04 tag .badArg (d ++ List.replicate (13 - d.length) 0)
           { consume s with freeDraws := s.freeDraws + 1 }))) ∧
  (∀ (tag : Byte) (s : State), Ready s →
     (let line := fun i : StepId =>
        let l := s.lines i
        byteOf ((if l.direct then 1 else 0) +
          (if (if l.direct then l.directClose else decide (0 < (s.lane i).closePulse)) then 2 else 0) +
          (if (if l.direct then l.directTrip else decide (0 < (s.lane i).tripPulse)) then 4 else 0) +
          (if l.stagedClose then 8 else 0) + (if l.stagedTrip then 16 else 0))
      exec (.readLines tag) s = .next (respond 0x24 tag .ok
        ([line 0, line 1, line 2, line 3, line 4, line 5, line 6, line 7] ++
         [byteOf ((if s.io.inp0.level then 1 else 0) + (if s.io.inp1.level then 2 else 0) +
            (if s.io.inp2.level then 4 else 0) + (if 0 < s.seq.yardTrip then 8 else 0)),
          byteOf s.io.strap.toNat, 0, 0, 0]) (consume s)))) ∧
  (([.absent, .unknown, .opened, .closing, .closed, .opening, .faulted .positionInvalid, .faulted .noIndication,
     .faulted .switchFailure] : List StepState).map (fun x => (stateCode x, faultCode x)) =
    [(0, 0), (1, 0), (2, 0), (3, 0), (4, 0), (5, 0), (6, 1), (6, 2), (6, 3)] ∧
   [none, some Position.opened, some .closed, some .invalid].map positionCode = [0, 1, 2, 3] ∧
   [none, some LockoutReason.unbalance, some .closeFailure, some .switchFailure].map lockoutCode = [0, 1, 2, 3] ∧
   ([.none, .auto, .order, .protection, .direct] : List OpSource).map sourceCode = [0, 1, 2, 3, 4] ∧
   (∀ c : ChanId, kindCode (channelKind c) = if c.val < 3 then 0 else if c.val < 6 then 1 else 2) ∧
   ([.idle, .addPending, .removePending, .fastPending, .operating, .addBlocked] : List VcRequestState).map
     requestCode = [0, 1, 2, 3, 4, 5] ∧
   ∀ u : Unbalance, unbalanceStage u =
     if u.tripped = true then 5 else if u.tripTiming = true then 4 else if u.alarmActive = true then 3
     else if u.alarmCount = 0 then 1 else 2)

/-! ### Settings and mode -/

/-- The yard table and the per-step table of section 11.4.1: identifier, limits, default; any other identifier
names no setting. Which writes of a yard setting are refused with INCONSISTENT (R115, R132). -/
def Obligations.YardTableAndAgreement : Prop :=
  ((([0x01, 0x02, 0x03, 0x10, 0x11, 0x12, 0x13, 0x14, 0x15, 0x16, 0x17, 0x18, 0x19, 0x1A, 0x30, 0x31, 0x32, 0x33,
       0x34, 0x35, 0x36, 0x37, 0x38, 0x40, 0x41, 0x42, 0x43, 0x44, 0x45, 0x46] : List Byte).filterMap yardIdOf).map
     (fun y => ((yardRange y).1, (yardRange y).2, yardRead YardSettings.default y)) =
   [(50, 60, 50), (1000, 23000, 10240), (1000, 23000, 8000), (0, 1, 0), (850, 1150, 975), (850, 1150, 1035),
    (1, 300, 30), (1, 300, 30), (0, 50, 5), (1, 200, 8), (1000, 1300, 1080), (1, 250, 25), (100, 800, 300),
    (1, 500, 50), (10, 500, 50), (20, 999, 100), (10, 999, 150), (1, 3000, 250), (1, 3000, 100), (10, 3000, 100),
    (1, 60, 10), (5, 200, 15), (0, 3600, 600), (1, 60, 5), (0, 60, 1), (20, 500, 100), (20, 500, 100),
    (100, 2000, 500), (100, 5000, 2000), (100, 2000, 500)]) ∧
  (([0x01, 0x02, 0x03, 0x10, 0x11, 0x12, 0x13, 0x14, 0x15, 0x16, 0x17, 0x18, 0x19, 0x1A, 0x30, 0x31, 0x32, 0x33,
      0x34, 0x35, 0x36, 0x37, 0x38, 0x40, 0x41, 0x42, 0x43, 0x44, 0x45, 0x46] : List Byte).map yardIdOf =
    [.nominalFrequency, .voltageNominal, .currentNominal, .controlQuantity, .bandLow, .bandHigh, .delayIn, .delayOut,
     .margin, .sensitivity, .fastLevel, .fastDelay, .deadLevel, .deadDelay, .dvAlarm, .dvTrip, .diAlarm,
     .harmAlarmDelay, .harmTripDelay, .shedInterval, .resonanceWindow, .resonanceRise, .harmHoldoff, .settleClose,
     .settleOpen, .closePulse, .tripPulse, .confirmTime, .syncWait, .backupPulse].map some) ∧
  (∀ b : Byte, yardIdOf b = none ↔ b.toNat = 0 ∨ (4 ≤ b.toNat ∧ b.toNat < 0x10) ∨ (0x1B ≤ b.toNat ∧ b.toNat < 0x30) ∨
     (0x39 ≤ b.toNat ∧ b.toNat < 0x40) ∨ 0x47 ≤ b.toNat) ∧
  (([0, 1, 2, 3, 4, 5, 6, 7, 8, 9, 10] : List Byte).map stepSettingIdOf =
    [.rating, .dischargeTime, .mechTime, .neutralRated, .unbAlarm, .unbAlarmDelay, .unbTrip, .unbTripDelay, .baselineRe,
     .baselineIm, .operationCount].map some) ∧
  (([.rating, .dischargeTime, .mechTime, .neutralRated, .unbAlarm, .unbAlarmDelay, .unbTrip, .unbTripDelay, .baselineRe,
     .baselineIm, .operationCount] : List StepSettingId).map
     (fun p => ((stepRange p).1, (stepRange p).2, stepSettingRead StepSettings.default 0 p)) =
   [(1, 1000, 100), (30, 900, 300), (0, 150, 40), (100, 32767, 2000), (1, 999, 50), (0, 3000, 250), (2, 999, 120),
    (0, 500, 25), (-32767, 32767, 0), (-32767, 32767, 0), (0, 65535, 0)]) ∧
  (∀ b : Byte, stepSettingIdOf b = none ↔ 11 ≤ b.toNat) ∧
  (∀ i, look Settings.default.perStep i = StepSettings.default) ∧ Settings.default.yard = YardSettings.default ∧
  (∀ (c : YardSettings) (y : YardId) (v : Nat),
     yardConsistent c y v = false ↔
       (y = .bandLow ∧ c.bandHigh < v + 20) ∨
       (y = .bandHigh ∧ (v < c.bandLow + 20 ∨ c.fastLevel ≤ v)) ∨
       (y = .fastLevel ∧ v ≤ c.bandHigh) ∨
       (y = .dvAlarm ∧ c.dvTrip ≤ v) ∨ (y = .dvTrip ∧ v ≤ c.dvAlarm))

/-- READ_SETTING and WRITE_SETTING: the stored value; a value brought within its range, checked against the
settings it must agree with, stored with its capping, and the value standing after the request; an unknown
identifier is refused and stores nothing, its value bytes free (log 9) (R16, R115, R116, R132, R133, R196). -/
def Obligations.YardSettingsReadAndWrite : Prop :=
  ∀ (tag ident : Byte) (value : Word) (s : State), Ready s →
    (∀ y, yardIdOf ident = some y →
      exec (.readSetting tag ident) s =
        .next (respond 0x06 tag .ok ([ident] ++ be32 (yardRead s.cfg.yard y) ++ List.replicate 8 0) (consume s)) ∧
      ∃ v : Nat,
        (y ≠ .nominalFrequency →
          (v : Int) = max ((yardRange y).1 : Int) (min ((yardRange y).2 : Int) value.toInt)) ∧
        (y = .nominalFrequency → v = if value.toInt ≤ 55 then 50 else 60) ∧
        (if yardConsistent s.cfg.yard y v then
           ∃ t, exec (.writeSetting tag ident value) s =
               .next (respond 0x07 tag (if value.toInt = v then .ok else .clamped)
                 ([ident] ++ be32 v ++ List.replicate 8 0) t) ∧
             t = { consume s with cfg.yard := t.cfg.yard, vc := t.vc, hs := t.hs } ∧
             yardRead t.cfg.yard y = v ∧ (∀ z, z ≠ y → yardRead t.cfg.yard z = yardRead s.cfg.yard z) ∧
             t.vc = { s.vc with
               lowAcc := if y = .nominalFrequency ∨ y = .delayIn ∨ y = .delayOut then
                   min s.vc.lowAcc (t.cfg.yard.delayIn * t.cfg.yard.nominalFrequency) else s.vc.lowAcc,
               highAcc := if y = .nominalFrequency ∨ y = .delayIn ∨ y = .delayOut then
                   min s.vc.highAcc (t.cfg.yard.delayOut * t.cfg.yard.nominalFrequency) else s.vc.highAcc,
               fastAcc := if y = .fastDelay then min s.vc.fastAcc v else s.vc.fastAcc,
               deadAcc := if y = .deadDelay then min s.vc.deadAcc v else s.vc.deadAcc } ∧
             t.hs = { s.hs with
               vCount := if y = .harmAlarmDelay then min s.hs.vCount v else s.hs.vCount,
               iCount := if y = .harmAlarmDelay then min s.hs.iCount v else s.hs.iCount,
               tripCount := if (y = .harmTripDelay ∧ s.hs.shedding = false) ∨ (y = .shedInterval ∧ s.hs.shedding = true)
                 then min s.hs.tripCount v else s.hs.tripCount }
         else
           exec (.writeSetting tag ident value) s = .next (respond 0x07 tag .inconsistent
             ([ident] ++ be32 (yardRead s.cfg.yard y) ++ List.replicate 8 0) (consume s)))) ∧
    (yardIdOf ident = none → ∃ d, d.length = 12 ∧
      exec (.readSetting tag ident) s =
        .next (respond 0x06 tag .badArg (ident :: d) { consume s with freeDraws := s.freeDraws + 1 }) ∧
      exec (.writeSetting tag ident value) s =
        .next (respond 0x07 tag .badArg (ident :: d) { consume s with freeDraws := s.freeDraws + 1 }))

/-- READ_STEP_SETTING and WRITE_STEP_SETTING: the same for the per-step table, with OPERATION_COUNT kept in
the step record and the capping of R152 (R58, R151, R152, R196). A refused step or identifier has free value
bytes (log 9). -/
def Obligations.StepSettingsReadAndWrite : Prop :=
  ∀ (tag a ident : Byte) (value : Word) (s : State), Ready s →
    (∀ (i : StepId) (p : StepSettingId), a.toNat = i.val → stepSettingIdOf ident = some p →
      (let old := stepSettingRead (s.stepCfg i) (s.stepRec i).opCount p
       let v : Int := max (stepRange p).1 (min (stepRange p).2 value.toInt)
       exec (.readStepSetting tag a ident) s =
         .next (respond 0x08 tag .ok ([a, ident] ++ sbe32 old ++ List.replicate 7 0) (consume s)) ∧
       (if (p = .unbAlarm ∧ ((s.stepCfg i).unbTrip : Int) ≤ v) ∨ (p = .unbTrip ∧ v ≤ ((s.stepCfg i).unbAlarm : Int)) then
          exec (.writeStepSetting tag a ident value) s = .next (respond 0x09 tag .inconsistent
            ([a, ident] ++ sbe32 old ++ List.replicate 7 0) (consume s))
        else
          ∃ t, exec (.writeStepSetting tag a ident value) s =
              .next (respond 0x09 tag (if value.toInt = v then .ok else .clamped)
                ([a, ident] ++ sbe32 v ++ List.replicate 7 0) t) ∧
            t = { consume s with cfg.perStep := t.cfg.perStep, tbl.recs := t.tbl.recs, ub := t.ub } ∧
            stepSettingRead (t.stepCfg i) (t.stepRec i).opCount p = v ∧
            (∀ q, q ≠ p → stepSettingRead (t.stepCfg i) (t.stepRec i).opCount q =
              stepSettingRead (s.stepCfg i) (s.stepRec i).opCount q) ∧
            (∀ j, j ≠ i → t.stepCfg j = s.stepCfg j ∧ t.stepRec j = s.stepRec j ∧ t.unb j = s.unb j) ∧
            t.stepRec i = { s.stepRec i with opCount := (t.stepRec i).opCount } ∧
            t.unb i = { s.unb i with
              alarmCount := if p = .unbAlarmDelay then min (s.unb i).alarmCount v.toNat else (s.unb i).alarmCount,
              tripCount := if p = .unbTripDelay then min (s.unb i).tripCount v.toNat else (s.unb i).tripCount }))) ∧
    (8 ≤ a.toNat ∨ stepSettingIdOf ident = none → ∃ d, d.length = 11 ∧
      exec (.readStepSetting tag a ident) s =
        .next (respond 0x08 tag .badArg (a :: ident :: d) { consume s with freeDraws := s.freeDraws + 1 }) ∧
      exec (.writeStepSetting tag a ident value) s =
        .next (respond 0x09 tag .badArg (a :: ident :: d) { consume s with freeDraws := s.freeDraws + 1 }))

/-- DEFAULT_SETTINGS restores the store and caps every counter to the default delays; nothing else changes
(R116, R133, R152, R197). -/
def Obligations.DefaultSettingsRestoreAndCap : Prop :=
  ∀ (tag : Byte) (s : State), Ready s →
    ∃ t, exec (.defaultSettings tag) s = .next (respond 0x0A tag .ok (List.replicate 13 0) t) ∧
      t = { consume s with cfg := Settings.default, vc := t.vc, hs := t.hs, ub := t.ub } ∧
      t.vc = { s.vc with lowAcc := min s.vc.lowAcc 1500, highAcc := min s.vc.highAcc 1500,
                         fastAcc := min s.vc.fastAcc 25, deadAcc := min s.vc.deadAcc 50 } ∧
      t.hs = { s.hs with vCount := min s.hs.vCount 250, iCount := min s.hs.iCount 250,
                         tripCount := min s.hs.tripCount 100 } ∧
      ∀ i, t.unb i = { s.unb i with alarmCount := min (s.unb i).alarmCount 250,
                                    tripCount := min (s.unb i).tripCount 25 }

/-- SET_MODE: the mode in force named again changes nothing; AUTO takes effect at once; MANUAL clears the
accumulators of the band and the fast stage, withdraws the request and an unpulsed close of voltage control;
another value is refused (R98, R106, R198); `settle` (log 13) adds the consequences for orders and the right. -/
def Obligations.SetModeActsAtOnce : Prop :=
  ∀ (tag mode : Byte) (s : State), Ready s →
    (1 < mode.toNat → exec (.setMode tag mode) s = .next (respond 0x0B tag .badArg
      ([if s.vc.auto then 1 else 0] ++ List.replicate 12 0) (consume s))) ∧
    (mode = 1 → exec (.setMode tag mode) s = .next (respond 0x0B tag .ok
      ([1] ++ List.replicate 12 0) { consume s with vc.auto := true })) ∧
    (mode = 0 → s.vc.auto = false → exec (.setMode tag mode) s = .next (respond 0x0B tag .ok
      (List.replicate 13 0) (consume s))) ∧
    (mode = 0 → s.vc.auto = true → ∃ p, exec (.setMode tag mode) s =
        .next (respond 0x0B tag .ok (List.replicate 13 0) (settle p)) ∧
      p.vc.auto = false ∧ p.vc.lowAcc = 0 ∧ p.vc.highAcc = 0 ∧ p.vc.lowReached = false ∧
      p.vc.highReached = false ∧ p.vc.fastAcc = 0 ∧ p.vc.fastCondition = false ∧
      p.vc.fastDue = false ∧ p.vc.noCandidate = false ∧ p.vc.vctrl = s.vc.vctrl ∧ p.vc.deadAcc = s.vc.deadAcc ∧
      p.vc.deadOpened = s.vc.deadOpened ∧ (p.vc.request = .idle ∨ p.vc.request = .operating) ∧
      p.arb.vcRequest = .absent ∧ p.tbl = s.tbl ∧ p.oe = s.oe ∧
      ((∀ i, NoOtherHeldClose i s) → p.seq = s.seq ∧ p.arb.busy = s.arb.busy) ∧
      ∀ i tm ph, (s.lane i).op = some ⟨.close tm, .vc, ph, true⟩ → ph ≠ .inMotion →
        NoOtherHeldClose i s → (p.lane i).op = none ∧ p.arb.busy = .notBusy ∧ p.seq.schedule = none)

/-! ### Alarm set and ATTN -/

/-- A raise notice and a cause-end notice applied to the alarm set by the table of R199. ATTN is high
exactly while an entry is unacknowledged or a slot is FINISHED, outside reset (R202, R203). -/
def Obligations.AlarmNoticesAndAttn : Prop :=
  (∀ (k : AlarmKind) (sub : Subject) (s : State),
     (let cause := decide (k ∉ [.uncommandedOpen, .uncommandedClose, .closeFail, .switchFail, .permitLost])
      (AlarmAbsent k sub s →
        raise k sub s = { s with link.alarms := s.link.alarms ++ [⟨k, sub, s.clock.seconds, false, cause, false⟩] }) ∧
      (¬AlarmAbsent k sub s →
        raise k sub s = { s with link.alarms := (s.link.alarms.map fun e =>
          if e.kind = k ∧ e.subject = sub then { e with acked := false, cause := cause, cooldownCut := false } else e) })) ∧
     (k ∈ [.measLost, .harmAlarmV, .harmAlarmI, .unbalanceAlarm, .channelClipped, .positionInvalid] →
       endCause k sub s = { s with link.alarms :=
         (s.link.alarms.filter fun e => decide (¬(e.kind = k ∧ e.subject = sub))) }) ∧
     (k ∉ [.measLost, .harmAlarmV, .harmAlarmI, .unbalanceAlarm, .channelClipped, .positionInvalid] →
       endCause k sub s = { s with link.alarms := (s.link.alarms.map fun e =>
         if e.kind = k ∧ e.subject = sub then { e with cause := false } else e) })) ∧
  (∀ s : State, attn s = true ↔
     s.resetHeld = false ∧ ((∃ e ∈ s.link.alarms, e.acked = false) ∨ ∃ j, (s.slot j).state = .finished))

/-- READ_ALARM gives the entry at an index whole, or NONE, with both counts either way, and changes nothing
(R200, section 11.9.6). The codes of the seventeen alarm kinds, read and named alike (section 11.9.6). -/
def Obligations.ReadAlarmGivesTheEntry : Prop :=
  (([.resonance, .unbalanceAlarm, .unbalanceTrip, .closeFail, .switchFail, .positionInvalid, .uncommandedOpen,
     .uncommandedClose, .channelClipped, .measLost, .harmAlarmV, .harmAlarmI, .harmTrip, .deadBusOpen, .fastOv,
     .emergencyOpen, .permitLost] : List AlarmKind).map alarmCode =
    [1, 2, 3, 4, 5, 6, 7, 8, 9, 10, 11, 12, 13, 14, 15, 16, 17]) ∧
  (∀ (b : Byte) (k : AlarmKind), alarmKindOf b = some k ↔ b.toNat = alarmCode k) ∧
  ∀ (tag index : Byte) (s : State), Ready s →
    let counts := [byteOf s.link.alarms.length, byteOf (s.link.alarms.filter fun e => !e.acked).length]
    (∀ e, s.link.alarms[index.toNat]? = some e →
      exec (.readAlarm tag index) s = .next (respond 0x0C tag .ok
        ([byteOf (alarmCode e.kind),
          (match e.subject with
           | .step i => byteOf i.val
           | .channel c => byteOf c.val
           | .yard => 0xFF)] ++ be32 e.raisedAt.toNat ++
         [(if e.acked then 1 else 0) + (if e.cause then 2 else 0), if e.cooldownCut then 1 else 0] ++ counts ++
         [0, 0, 0]) (consume s))) ∧
    (s.link.alarms.length ≤ index.toNat →
      exec (.readAlarm tag index) s = .next (respond 0x0C tag .noneToGive
        (List.replicate 8 0 ++ counts ++ [0, 0, 0]) (consume s)))

/-- ACK_ALARM and ACK_ALL: the entry named, or every entry, leaves when it is latching with its cause ended
and is marked otherwise; NONE where no entry stands; BAD_ARG for an unknown kind or a subject that does not
fit (R201). The counts are given with every status (log 26). Which subject byte fits which alarm kind (R201,
section 11.9.6). -/
def Obligations.AcknowledgementsFollowTheTable : Prop :=
  (∀ (tag kind subject : Byte) (s : State), Ready s →
     (let counts := fun as : List AlarmEntry => [byteOf as.length, byteOf (as.filter fun e => !e.acked).length]
      let ack := fun e : AlarmEntry => if e.kind.latching && !e.cause then none else some { e with acked := true }
      (∀ k sub, alarmKindOf kind = some k → subjectOf k subject = some sub →
        (AlarmAbsent k sub s →
          exec (.ackAlarm tag kind subject) s = .next (respond 0x0D tag .noneToGive
            (counts s.link.alarms ++ List.replicate 11 0) (consume s))) ∧
        (¬AlarmAbsent k sub s → ∃ as,
          as = (s.link.alarms.filterMap fun e => if e.kind = k ∧ e.subject = sub then ack e else some e) ∧
          exec (.ackAlarm tag kind subject) s = .next (respond 0x0D tag .ok
            (counts as ++ List.replicate 11 0) { consume s with link.alarms := as }))) ∧
      (alarmKindOf kind = none ∨ (∃ k, alarmKindOf kind = some k ∧ subjectOf k subject = none) →
        exec (.ackAlarm tag kind subject) s = .next (respond 0x0D tag .badArg
          (counts s.link.alarms ++ List.replicate 11 0) (consume s))) ∧
      exec (.ackAll tag) s = .next (respond 0x0E tag .ok
        (counts (s.link.alarms.filterMap ack) ++ List.replicate 11 0)
        { consume s with link.alarms := s.link.alarms.filterMap ack }))) ∧
  (∀ (k : AlarmKind) (b : Byte),
     (k ∈ [.resonance, .unbalanceAlarm, .unbalanceTrip, .closeFail, .switchFail, .positionInvalid, .uncommandedOpen,
           .uncommandedClose] →
       (∀ i : StepId, subjectOf k b = some (.step i) ↔ b.toNat = i.val) ∧ (subjectOf k b = none ↔ 8 ≤ b.toNat)) ∧
     (k = .channelClipped →
       (∀ c : ChanId, subjectOf k b = some (.channel c) ↔ b.toNat = c.val) ∧ (subjectOf k b = none ↔ 14 ≤ b.toNat)) ∧
     (k ∈ [.measLost, .harmAlarmV, .harmAlarmI, .harmTrip, .deadBusOpen, .fastOv, .emergencyOpen, .permitLost] →
       (subjectOf k b = some .yard ↔ b = 0xFF) ∧ (subjectOf k b = none ↔ b ≠ 0xFF)))

/-! ### Orders -/

/-- TAKE_SLOT takes the head of the free queue, clears its record and gives its handle; with the queue empty
it changes no slot and answers NONE (R157). RETIRE_ORDER returns a FINISHED or DRAFT slot to FREE: cleared,
its generation raised, at the tail of the free queue; in any other state it changes nothing (R161). -/
def Obligations.SlotsAreTakenAndReturned : Prop :=
  (∀ (tag : Byte) (s : State), Ready s →
     (∀ i rest, s.oe.freeQueue = i :: rest →
       exec (.takeSlot tag) s = .next (respond 0x10 tag .ok
         ([byteOf i.val, (s.slot i).generation, 1] ++ List.replicate 10 0)
         ({ consume s with oe.freeQueue := rest }.modSlot i fun o =>
           { generation := o.generation, state := .draft, kind := 0, step := 0, timing := 0, notBefore := 0,
             deadline := 0, postedAt := none, outcome := none, reason := none, finishedAt := none,
             notBeforeTimer := none, deadlineTimer := none }))) ∧
     (s.oe.freeQueue = [] →
       exec (.takeSlot tag) s = .next (respond 0x10 tag .noneToGive (List.replicate 13 0) (consume s)))) ∧
  (∀ (tag slot gen : Byte) (i : SlotId) (s : State), Ready s → slot.toNat = i.val → (s.slot i).generation = gen →
     ((s.slot i).state = .finished ∨ (s.slot i).state = .draft →
       exec (.retireOrder tag slot gen) s = .next (respond 0x14 tag .ok
         ([slot, gen + 1, 0] ++ List.replicate 10 0)
         ({ consume s with oe.freeQueue := s.oe.freeQueue ++ [i] }.modSlot i fun _ =>
           { generation := gen + 1, state := .free, kind := 0, step := 0, timing := 0, notBefore := 0, deadline := 0,
             postedAt := none, outcome := none, reason := none, finishedAt := none, notBeforeTimer := none,
             deadlineTimer := none }))) ∧
     ((s.slot i).state = .free ∨ (s.slot i).state = .posted ∨ (s.slot i).state = .executing →
       exec (.retireOrder tag slot gen) s = .next (respond 0x14 tag .wrongState
         ([slot, gen, byteOf (slotStateCode (s.slot i).state)] ++ List.replicate 10 0) (consume s))))

/-- A request that names a slot above 31 is refused with BAD_ARG, one with another generation with
STALE_HANDLE, and both change nothing (R156). -/
def Obligations.HandlesAreCheckedFirst : Prop :=
  ∀ (tag slot gen kind step timing : Byte) (nb dl : Half) (s : State), Ready s →
    (∀ (c : Instr) (code : Byte),
      (c, code) ∈ [(.fillOrder tag slot gen kind step timing nb dl, 0x11), (.postOrder tag slot gen, 0x12),
                   (.withdrawOrder tag slot gen, 0x13), (.retireOrder tag slot gen, 0x14)] →
      (32 ≤ slot.toNat → exec c s = .next (respond code tag .badArg (List.replicate 13 0) (consume s))) ∧
      (∀ i : SlotId, slot.toNat = i.val → (s.slot i).generation ≠ gen →
        exec c s = .next (respond code tag .staleHandle
          ([slot, (s.slot i).generation, byteOf (slotStateCode (s.slot i).state)] ++ List.replicate 10 0)
          (consume s))))

/-- FILL_ORDER writes the five fields of a DRAFT slot together, the delays brought to their limits with
CLAMPED, and is refused with WRONG_STATE in any other state (R158). -/
def Obligations.FillOrderWritesTheFiveFields : Prop :=
  ∀ (tag slot gen kind step timing : Byte) (nb dl : Half) (i : SlotId) (s : State), Ready s →
    slot.toNat = i.val → (s.slot i).generation = gen →
    ((s.slot i).state = .draft →
      exec (.fillOrder tag slot gen kind step timing nb dl) s = .next (respond 0x11 tag
        (if nb.toNat ≤ 600 ∧ dl.toNat ≤ 3600 then .ok else .clamped)
        ([slot, gen, 1] ++ List.replicate 10 0)
        ((consume s).modSlot i fun o =>
          { o with kind := kind, step := step, timing := timing,
                   notBefore := if 600 < nb.toNat then 600 else nb.toNat,
                   deadline := if 3600 < dl.toNat then 3600 else dl.toNat }))) ∧
    ((s.slot i).state ≠ .draft →
      exec (.fillOrder tag slot gen kind step timing nb dl) s = .next (respond 0x11 tag .wrongState
        ([slot, gen, byteOf (slotStateCode (s.slot i).state)] ++ List.replicate 10 0) (consume s)))

/-- POST_ORDER checks arguments and then delays; a slot that passes is POSTED at the tail with its posted-at
and its timers, and the pool is examined in the same event (R159, R164, R166) by `settle` (log 13). -/
def Obligations.PostOrderChecksThenPosts : Prop :=
  ∀ (tag slot gen : Byte) (i : SlotId) (s : State), Ready s → slot.toNat = i.val → (s.slot i).generation = gen →
    (let o := s.slot i
     let argsOk := 1 ≤ o.kind.toNat ∧ o.kind.toNat ≤ 8 ∧ o.timing.toNat ≤ 1 ∧
       ∃ st : StepId, o.step.toNat = st.val ∧ (s.stepRec st).state ≠ .absent
     let delaysOk := o.deadline = 0 ∨ o.notBefore < o.deadline
     (o.state ≠ .draft → exec (.postOrder tag slot gen) s = .next (respond 0x12 tag .wrongState
       ([slot, gen, byteOf (slotStateCode o.state)] ++ List.replicate 10 0) (consume s))) ∧
     (o.state = .draft → ¬argsOk → exec (.postOrder tag slot gen) s = .next (respond 0x12 tag .badArg
       (List.replicate 13 0) (consume s))) ∧
     (o.state = .draft → argsOk → ¬delaysOk → exec (.postOrder tag slot gen) s = .next (respond 0x12 tag .inconsistent
       ([slot, gen, 1] ++ List.replicate 10 0) (consume s))) ∧
     (o.state = .draft → argsOk → delaysOk → ∃ p q,
       p = ({ consume s with oe.posted := s.oe.posted ++ [i] }.modSlot i fun o =>
         { o with state := .posted, postedAt := some s.clock.seconds,
                  notBeforeTimer := if o.notBefore = 0 then none else some (1000 * o.notBefore),
                  deadlineTimer := if o.deadline = 0 then none else some (1000 * o.deadline) }) ∧
       q = settle p ∧
       exec (.postOrder tag slot gen) s = .next (respond 0x12 tag .ok
         ([slot, (q.slot i).generation, byteOf (slotStateCode (q.slot i).state)] ++ List.replicate 10 0) q)))

/-- WITHDRAW_ORDER ends a POSTED order WITHDRAWN and has the pool examined, is answered TOO_LATE for an
EXECUTING one and WRONG_STATE otherwise (R160); the pool is examined by `settle` (log 13). -/
def Obligations.WithdrawOrderByState : Prop :=
  ∀ (tag slot gen : Byte) (i : SlotId) (s : State), Ready s → slot.toNat = i.val → (s.slot i).generation = gen →
    ((s.slot i).state = .posted → ∃ p q,
      p = ({ consume s with oe.posted := s.oe.posted.filter (· ≠ i) }.modSlot i fun o =>
        { o with state := .finished, outcome := some .withdrawn, reason := none, finishedAt := some s.clock.seconds,
                 notBeforeTimer := none, deadlineTimer := none }) ∧
      q = settle p ∧
      exec (.withdrawOrder tag slot gen) s = .next (respond 0x13 tag .ok
        ([slot, (q.slot i).generation, byteOf (slotStateCode (q.slot i).state)] ++ List.replicate 10 0) q)) ∧
    ((s.slot i).state = .executing → exec (.withdrawOrder tag slot gen) s = .next (respond 0x13 tag .tooLate
      ([slot, gen, 3] ++ List.replicate 10 0) (consume s))) ∧
    ((s.slot i).state = .free ∨ (s.slot i).state = .draft ∨ (s.slot i).state = .finished →
      exec (.withdrawOrder tag slot gen) s = .next (respond 0x13 tag .wrongState
        ([slot, gen, byteOf (slotStateCode (s.slot i).state)] ++ List.replicate 10 0) (consume s)))

/-- READ_ORDER gives the record by handle or by slot number, laid out by its page, and changes nothing; a
slot above 31, a mode or page above 1 is refused with BAD_ARG, another generation by handle with
STALE_HANDLE (R162, R165, sections 11.9.2 and 11.9.8); where page and generation both fail, the model takes the page
first (log 33). For a page that is not there and for a stale handle the data is 0 (R162, R192); for a slot above 31 or
another mode the bytes its page gives are free (log 9). The wait cause by the table of R165, and the codes of
section 11.9.8. -/
def Obligations.ReadOrderGivesTheRecord : Prop :=
  (∀ (j : SlotId) (st : StepId) (s : State), (s.slot j).step.toNat = st.val →
    (let r := s.stepRec st
     let close := (s.slot j).kind = 1
     let earlier := ∃ k : SlotId, (k ∈ s.oe.posted.takeWhile (· ≠ j) ∨ s.oe.executing = some k) ∧
       (s.slot k).step.toNat = st.val
     let held := ∃ (o : Operation) (tm : Timing), (s.lane st).op = some o ∧ o.kind = .close tm ∧ o.phase ≠ .inMotion
     ((s.slot j).state = .posted →
       ((s.slot j).notBeforeTimer ≠ none → waitCause s j = some .notBefore) ∧
       ((s.slot j).notBeforeTimer = none →
         (earlier → waitCause s j = some .earlierOrder) ∧
         (¬earlier →
           (r.state = .closing ∨ r.state = .opening → waitCause s j = some .stepBusy) ∧
           (r.state ≠ .closing → r.state ≠ .opening →
             (close → r.cooling = true → waitCause s j = some .cooling) ∧
             (close → r.cooling = false → r.holdoff = true → waitCause s j = some .holdoff) ∧
             (close → r.cooling = false → r.holdoff = false →
               waitCause s j = some (if s.io.inp0.level then .inhibit else .right)) ∧
             (¬close → waitCause s j = some .right))))) ∧
     ((s.slot j).state = .executing →
       (close → held → waitCause s j = some .sync) ∧ (¬(close ∧ held) → waitCause s j = none)) ∧
     ((s.slot j).state ≠ .posted → (s.slot j).state ≠ .executing → waitCause s j = none))) ∧
  (([.free, .draft, .posted, .executing, .finished] : List SlotState).map slotStateCode = [0, 1, 2, 3, 4] ∧
   [none, some OrderOutcome.done, some .refused, some .expired, some .withdrawn, some .failed, some .preempted].map
     outcomeCode = [0, 1, 2, 3, 4, 5, 6] ∧
   [none, some Reason.absent, some .unknownPosition, some .notOpen, some .notClosed, some .retired, some .inService,
    some .lockout, some .notLocked, some .linesDirect, some .faulted, some .noSync, some .noIndication, some .position,
    some .interrupted, some .inhibit].map reasonCode = [0, 1, 2, 3, 4, 5, 6, 7, 8, 9, 10, 11, 12, 13, 14, 15] ∧
   [none, some WaitCause.notBefore, some .earlierOrder, some .stepBusy, some .cooling, some .holdoff, some .inhibit,
    some .right, some .sync].map waitCode = [0, 1, 2, 3, 4, 5, 6, 7, 8] ∧
   ([1, 2, 3, 4, 5, 6, 7, 8] : List Byte).map orderKindOf =
     [.closeStep, .openStep, .hold, .release, .resetLockout, .learnBaseline, .retireStep, .reinstateStep].map some ∧
   (∀ b : Byte, orderKindOf b = none ↔ b = 0 ∨ 8 < b.toNat) ∧
   (∀ b : Byte, (timingOf b = some .immediate ↔ b = 0) ∧ (timingOf b = some .synchronized ↔ b = 1))) ∧
  ∀ (tag mode slot gen page : Byte) (s : State), Ready s →
    (1 < page.toNat → exec (.readOrder tag mode slot gen page) s =
      .next (respond 0x15 tag .badArg (List.replicate 13 0) (consume s))) ∧
    (page.toNat ≤ 1 → 32 ≤ slot.toNat ∨ 1 < mode.toNat →
      ∃ d, d.length = (if page = 0 then 13 else 12) ∧ exec (.readOrder tag mode slot gen page) s =
        .next (respond 0x15 tag .badArg (d ++ List.replicate (13 - d.length) 0)
          { consume s with freeDraws := s.freeDraws + 1 })) ∧
    ∀ i : SlotId, slot.toNat = i.val → mode.toNat ≤ 1 → page.toNat ≤ 1 →
      (mode = 0 → (s.slot i).generation ≠ gen →
        exec (.readOrder tag mode slot gen page) s =
          .next (respond 0x15 tag .staleHandle (List.replicate 13 0) (consume s))) ∧
      (mode = 1 ∨ (s.slot i).generation = gen →
        (let o := s.slot i
         exec (.readOrder tag mode slot gen page) s = .next (respond 0x15 tag .ok
           (if page = 0 then
              [slot, o.generation, byteOf (slotStateCode o.state), o.kind, o.step, o.timing] ++ be16 o.notBefore ++
              be16 o.deadline ++
              [byteOf (waitCode (waitCause s i)), byteOf (outcomeCode o.outcome), byteOf (reasonCode o.reason)]
            else
              [slot, o.generation, byteOf (slotStateCode o.state)] ++ be32 (o.postedAt.getD 0).toNat ++
              be32 (o.finishedAt.getD 0).toNat ++
              [(if o.postedAt = none then 0 else 1) + (if o.finishedAt = none then 0 else 2), 0]) (consume s))))

/-- A lone OPEN or CLOSE order that is startable, with the right free and no request of voltage control pending, on
a step with no learning in progress (none is while no order is EXECUTING, as `OrderPoolStaysPartitioned` keeps):
OE is granted the right, and the order is EXECUTING with its trip or close pulse begun or its SYNCHRONIZED close
scheduled or waiting, or ends REFUSED with the first failing check and the right is released (R76, R78 to R81,
R86, R92, R93, R167, R169, R170). A grant to VC takes the first case of R107 that applies, its second and third
by what the last good window judged of the band counters and by candidates of the band in force, read from the
manual by inference (log 34): the head of the list with fast removal due, where a learning on it ends its order
FAILED INTERRUPTED (R138, R150), at once unless the unit has a good window end to evaluate first (log 37); the
add candidate; the remove candidate; or no work. An open under the right of a step that is not CLOSED ends
PREEMPTED NOT_CLOSED (R85). `settle` (log 13) leaves the receiver, the channel table, inputs and lines,
settings, time and queue as they are, and changes nothing where no order is posted and no request stands. -/
def Obligations.GrantedWorkReachesTheSequencer : Prop :=
  (∀ (j : SlotId) (i : StepId) (s : State), s.oe.posted = [j] → s.oe.executing = none →
     (s.slot j).step.toNat = i.val → (s.slot j).notBeforeTimer = none → s.arb.busy = .notBusy →
     s.arb.vcRequest = .absent → (s.unb i).learning = none →
     (let r := s.stepRec i
      let t := settle s
      let started := t.oe.posted = [] ∧ t.oe.executing = some j ∧
        t.slot j = { s.slot j with state := .executing, notBeforeTimer := none, deadlineTimer := none } ∧
        t.arb = ⟨.oe, .inOperation, .absent, false⟩ ∧ (t.stepRec i).lastSource = .order ∧
        ∀ k, k ≠ i → t.stepRec k = s.stepRec k ∧ t.lane k = s.lane k
      let refused := fun why : Reason => t.oe.posted = [] ∧ t.oe.executing = none ∧
        (t.slot j).state = .finished ∧ (t.slot j).outcome = some .refused ∧ (t.slot j).reason = some why ∧
        (t.slot j).finishedAt = some s.clock.seconds ∧ t.arb = ⟨.oe, .notBusy, .absent, false⟩ ∧
        t.tbl = s.tbl ∧ t.seq = s.seq
      ((s.slot j).kind = 2 →
        (r.state = .closed → r.retired = false → (s.lines i).direct = false →
          started ∧ (t.stepRec i).state = .opening ∧
          t.lane i = ⟨some ⟨.trip, .oe, .inMotion, true⟩, 0, s.cfg.yard.tripPulse, some s.cfg.yard.confirmTime⟩) ∧
        (r.state = .closed → r.retired = true → refused .retired) ∧
        (r.state ≠ .absent → r.state ≠ .closed → r.state ≠ .closing → r.state ≠ .opening → refused .notClosed)) ∧
      ((s.slot j).kind = 1 → (s.slot j).timing = 0 → r.cooling = false → r.holdoff = false →
        s.io.inp0.level = false →
        (r.state = .opened → r.retired = false → (s.lines i).direct = false → r.lockout = none →
          started ∧ (t.stepRec i).state = .closing ∧
          t.lane i = ⟨some ⟨.close .immediate, .oe, .inMotion, true⟩, s.cfg.yard.closePulse, (s.lane i).tripPulse,
                      some s.cfg.yard.confirmTime⟩ ∧
          t.hs = { s.hs with snapshot := some ⟨i, s.hs.dv⟩ }) ∧
        (r.state = .unknown → refused .unknownPosition) ∧
        ((∃ c, r.state = .faulted c) → refused .faulted) ∧
        (r.state = .closed → refused .notOpen) ∧
        (r.state = .opened → (s.lines i).direct = true → refused .linesDirect) ∧
        (r.state = .opened → (s.lines i).direct = false → r.retired = true → refused .retired) ∧
        (r.state = .opened → (s.lines i).direct = false → r.retired = false → r.lockout ≠ none →
          refused .lockout)) ∧
      ((s.slot j).kind = 1 → (s.slot j).timing = 1 → r.cooling = false → r.holdoff = false →
        s.io.inp0.level = false → r.state = .opened → r.retired = false → (s.lines i).direct = false →
        r.lockout = none →
        (let k := pulseDelay s.rx.wave.toNat (mechFrames (s.stepCfg i).mechTime s.cfg.yard.nominalFrequency)
         let taken := fun ph : Phase => t.oe.posted = [] ∧ t.oe.executing = some j ∧
           t.slot j = { s.slot j with state := .executing, notBeforeTimer := none, deadlineTimer := none } ∧
           t.arb = ⟨.oe, .inOperation, .absent, false⟩ ∧ t.tbl = s.tbl ∧ t.seq.syncWait = some s.cfg.yard.syncWait ∧
           t.lane i = { s.lane i with op := some ⟨.close .synchronized, .oe, ph, true⟩ }
         (s.rx.meas = .valid → k ≠ 0 →
           taken .scheduled ∧ t.seq.schedule = some ⟨s.rx.frameNumber + BitVec.ofNat 32 k, i⟩) ∧
         (s.rx.meas = .valid → k = 0 → started ∧ (t.stepRec i).state = .closing ∧
           t.lane i = ⟨some ⟨.close .synchronized, .oe, .inMotion, true⟩, s.cfg.yard.closePulse,
                       (s.lane i).tripPulse, some s.cfg.yard.confirmTime⟩) ∧
         (s.rx.meas ≠ .valid → taken .awaitingValid))))) ∧
  (∀ s : State,
     let arb := { s.arb with holder := .vc, vcRequest := .absent }
     let noWork := grant .vc s = { s with arb := arb, vc := { s.vc with request := .idle } }
     (s.vc.fastDue = true →
       (s.tbl.closedOrder = [] →
         grant .vc s = { s with arb := arb, vc := { s.vc with fastDue := false, request := .idle } }) ∧
       ∀ i rest, s.tbl.closedOrder = i :: rest →
         grant .vc s = takeOpen i .vc { s with arb := arb, vc := { s.vc with fastDue := false, request := .operating } }) ∧
     (s.vc.fastDue = false → s.vc.lowReached = true →
       (let allowed := s.vc.auto = true ∧ s.rx.meas = .valid ∧ s.hs.vActive = false ∧ s.vc.deadAcc = 0 ∧
          s.io.inp0.level = false
        (¬allowed → noWork) ∧
        (allowed → addCandidate s = none →
          grant .vc s = { s with arb := arb, vc := { s.vc with request := .idle, noCandidate := true } }) ∧
        ∀ i, allowed → addCandidate s = some i →
          grant .vc s = takeClose i .vc .synchronized
            { s with arb := arb, vc := { s.vc with request := .operating, noCandidate := false } })) ∧
     (s.vc.fastDue = false → s.vc.lowReached = false → s.vc.highReached = true →
       (let allowed := s.vc.auto = true ∧ s.rx.meas = .valid
        (¬allowed → noWork) ∧
        (allowed → removeCandidate s = none →
          grant .vc s = { s with arb := arb, vc := { s.vc with request := .idle, noCandidate := true } }) ∧
        ∀ i, allowed → removeCandidate s = some i →
          grant .vc s = takeOpen i .vc
            { s with arb := arb, vc := { s.vc with request := .operating, noCandidate := false } })) ∧
     (s.vc.fastDue = false → s.vc.lowReached = false → s.vc.highReached = false → noWork)) ∧
  (∀ (i : StepId) (src : Requester) (s : State), src = .vc ∨ src = .oe →
     (let t := takeOpen i src s
      ((s.stepRec i).state = .closed → (s.lines i).direct = false →
        t.vc = s.vc ∧ t.arb = { s.arb with busy := .inOperation } ∧ (t.stepRec i).state = .opening ∧
        (t.stepRec i).lastSource = sourceOf src ∧
        t.lane i = ⟨some ⟨.trip, src, .inMotion, true⟩, 0, s.cfg.yard.tripPulse, some s.cfg.yard.confirmTime⟩ ∧
        (∀ k, k ≠ i → t.stepRec k = s.stepRec k ∧ t.lane k = s.lane k) ∧
        ((s.unb i).learning = none ∨ s.oe.executing = none ∨ WindowAtUnit s → t.oe = s.oe) ∧
        (WindowAtUnit s → t.unb i = { s.unb i with departed := true }) ∧
        ∀ j, ¬WindowAtUnit s → (s.unb i).learning ≠ none → s.oe.executing = some j → (t.unb i).learning = none ∧
          t.oe.executing = none ∧ (t.slot j).state = .finished ∧ (t.slot j).outcome = some .failed ∧
          (t.slot j).reason = some .interrupted) ∧
      ((s.stepRec i).state ≠ .closed ∨ (s.lines i).direct = true →
        t.arb = { s.arb with busy := .notBusy } ∧ t.tbl = s.tbl ∧ t.seq = s.seq ∧
        (src = .vc → t.oe = s.oe ∧ t.vc = (vcEndReport s).vc) ∧
        (src = .oe → t.vc = s.vc ∧
          ∀ j, s.oe.executing = some j → t.oe.executing = none ∧ (t.slot j).state = .finished ∧
            (t.slot j).outcome = some .preempted ∧ (t.slot j).reason = some .notClosed)))) ∧
  (∀ s : State, s.oe.posted = [] → s.arb.vcRequest = .absent → s.arb.oeRequest = false → settle s = s) ∧
  ∀ s : State,
    (settle s).rx = s.rx ∧ (settle s).mu = s.mu ∧ (settle s).io = s.io ∧ (settle s).cfg = s.cfg ∧
    (settle s).clock = s.clock ∧ (settle s).pending = s.pending ∧ (settle s).oe.freeQueue = s.oe.freeQueue ∧
    (settle s).link = { s.link with alarms := (settle s).link.alarms }

/-- A right-free order that starts: refused with the first failing check of its kind, or its work done and the order
FINISHED with DONE, LEARN_BASELINE going on as EXECUTING (R166, R171 to R176). Only a close of the order engine
on the same step that has not started its pulse would end with a RETIRE_STEP or REINSTATE_STEP (R77); none
stands while the engine is idle, as `OrderPoolStaysPartitioned` keeps. A RETIRE_STEP ends a close of voltage
control on the step that has not started its pulse, with RETIRED, the right free with no settle (R77, R92).
RESET_LOCKOUT clears the tripped flag, with the cause of UNBALANCE_TRIP, and both stages (R147), after a departure
from CLOSED that the unit has still to take (log 37). -/
def Obligations.RightFreeOrdersDoTheirWork : Prop :=
  ∀ (j : SlotId) (st : StepId) (s : State), (s.stepRec st).state ≠ .absent →
    (let r := s.stepRec st
     let finished := fun (t : State) (out : OrderOutcome) (why : Option Reason) =>
       (t.slot j).state = .finished ∧ (t.slot j).outcome = some out ∧ (t.slot j).reason = why ∧
       (t.slot j).finishedAt = some s.clock.seconds ∧ j ∉ t.oe.posted
     let ends := fun (t : State) (out : OrderOutcome) (why : Option Reason) =>
       finished t out why ∧ t.oe.executing = s.oe.executing
     let done := fun t : State =>
       finished t .done none ∧
       ((∀ o, (s.lane st).op = some o → o.source ≠ .oe) → t.oe.executing = s.oe.executing)
     let run := fun k => startRightFree ⟨j, k, st⟩ s
     (ends (run .hold) .done none ∧ (run .hold).stepRec st = { r with hold := true }) ∧
     (ends (run .release) .done none ∧ (run .release).stepRec st = { r with hold := false }) ∧
     (if r.lockout = none then ends (run .resetLockout) .refused (some .notLocked)
      else if r.state ≠ .opened then ends (run .resetLockout) .refused (some .notOpen)
      else finished (run .resetLockout) .done none ∧
        ((s.unb st).departed = false ∨ (s.unb st).learning = none →
          (run .resetLockout).oe.executing = s.oe.executing) ∧
        (run .resetLockout).stepRec st = { r with lockout := none } ∧
        (let u := if (s.unb st).departed = true then
             { s.unb st with armed := false, armCount := 0, learning := none, departed := false }
           else s.unb st
         (run .resetLockout).unb st = { u with tripped := false, alarmCount := 0, alarmActive := false,
                                               tripTiming := false, tripCount := 0 }) ∧
        CauseOver .unbalanceTrip (.step st) (s.unb st).tripped s (run .resetLockout)) ∧
     (if r.state = .closed ∧ (s.unb st).armed = true ∧ (s.unb st).departed = false then
        ((run .learnBaseline).slot j).state = .executing ∧ (run .learnBaseline).oe.executing = some j ∧
        ((run .learnBaseline).unb st).learning = some ⟨0, 0, 0⟩
      else ends (run .learnBaseline) .refused (some .notClosed)) ∧
     (if r.state = .opened ∨ r.state.isFaulted = true then
        if r.retired = true then ends (run .retireStep) .refused (some .retired)
        else done (run .retireStep) ∧ (run .retireStep).stepRec st = { r with retired := true } ∧
          (∀ o tm, (s.lane st).op = some o → o.kind = .close tm → o.phase ≠ .inMotion → o.source = .vc →
            r.state = .opened → s.io.inp0.level = false → r.lockout = none → r.cooling = false → r.holdoff = false →
            (let t := run .retireStep
             t.lane st = { s.lane st with op := none } ∧ t.seq.schedule = none ∧ t.seq.syncWait = none ∧
             t.arb = { s.arb with busy := .notBusy } ∧ t.vc = (vcEndReport s).vc ∧
             t.oe.executing = s.oe.executing))
      else ends (run .retireStep) .refused (some .notOpen)) ∧
     (if r.retired = false then ends (run .reinstateStep) .refused (some .inService)
      else if (s.lines st).direct = true then ends (run .reinstateStep) .refused (some .linesDirect)
      else if r.state ≠ .opened then ends (run .reinstateStep) .refused (some .notOpen)
      else done (run .reinstateStep) ∧ (run .reinstateStep).stepRec st = { r with retired := false, cooling := true } ∧
        ((run .reinstateStep).timers st).cooldown = 1000 * (s.stepCfg st).dischargeTime))

/-! ### Lines -/

/-- STAGE_LINES stores the two levels for any step in either ownership and any state and answers OK; nothing
else changes, so no line does (R184). Its arguments are checked first (section 10.3). -/
def Obligations.StageLinesStoresTheLevels : Prop :=
  ∀ (tag a close trip : Byte) (s : State), Ready s →
    (∀ i : StepId, a.toNat = i.val → close.toNat ≤ 1 → trip.toNat ≤ 1 → ¬(close = 1 ∧ trip = 1) →
      ∃ t, exec (.stageLines tag a close trip) s =
          .next (respond 0x20 tag .ok ([a] ++ List.replicate 12 0) t) ∧
        t = ((consume s).modLines i fun l =>
          { l with stagedClose := decide (close = 1), stagedTrip := decide (trip = 1) }) ∧
        ∀ j, closeLine t j = closeLine s j ∧ tripLine t j = tripLine s j) ∧
    (8 ≤ a.toNat ∨ 1 < close.toNat ∨ 1 < trip.toNat ∨ (close = 1 ∧ trip = 1) →
      exec (.stageLines tag a close trip) s = .next (respond 0x20 tag .badArg
        ([a] ++ List.replicate 12 0) (consume s)))

/-- HANDOVER: refused with NOT_PERMITTED unless MAINT_PERMIT is active and the step is RETIRED and not
moving; on a CONTROLLED-owned step the staged levels go to the lines at once and the sequencer's pulses are
cut; on a DIRECT-owned one nothing changes (R183, R185). A step above 7 is refused (its owner byte is free,
log 9). DRIVE_LINES drives a DIRECT-owned step's lines and is refused with WRONG_STATE on a CONTROLLED-owned
one; RETURN_LINES gives a DIRECT-owned step back with every level inactive and clears the staged levels of a
CONTROLLED-owned one (R183, R186, R187). When the last operation source becomes DIRECT is read from R183 by
inference (log 20). -/
def Obligations.DirectDriveOfTheLines : Prop :=
  (∀ (tag a : Byte) (s : State), Ready s →
     (8 ≤ a.toNat → ∃ d, d.length = 12 ∧ exec (.handover tag a) s =
       .next (respond 0x21 tag .badArg (a :: d) { consume s with freeDraws := s.freeDraws + 1 })) ∧
     ∀ i : StepId, a.toNat = i.val →
       (let r := s.stepRec i
        let allowed := s.io.inp2.level = true ∧ r.retired = true ∧ r.state ≠ .closing ∧ r.state ≠ .opening
        (¬allowed → exec (.handover tag a) s = .next (respond 0x21 tag .notPermitted
          ([a, if (s.lines i).direct then 1 else 0] ++ List.replicate 11 0) (consume s))) ∧
        (allowed → (s.lines i).direct = true → exec (.handover tag a) s = .next (respond 0x21 tag .ok
          ([a, 1] ++ List.replicate 11 0) (consume s))) ∧
        (allowed → (s.lines i).direct = false → ∃ t, exec (.handover tag a) s =
            .next (respond 0x21 tag .ok ([a, 1] ++ List.replicate 11 0) t) ∧
          t = { consume s with io.lines := t.io.lines, seq.lanes := t.seq.lanes, tbl.recs := t.tbl.recs } ∧
          t.lines i = ⟨true, (s.lines i).stagedClose, (s.lines i).stagedTrip, (s.lines i).stagedClose,
                       (s.lines i).stagedTrip⟩ ∧
          closeLine t i = (s.lines i).stagedClose ∧ tripLine t i = (s.lines i).stagedTrip ∧
          t.lane i = { s.lane i with closePulse := 0, tripPulse := 0 } ∧
          t.stepRec i = { r with lastSource :=
            if (s.lines i).stagedClose = true ∨ (s.lines i).stagedTrip = true then .direct else r.lastSource } ∧
          ∀ j, j ≠ i → t.lines j = s.lines j ∧ t.lane j = s.lane j ∧ t.stepRec j = s.stepRec j))) ∧
  (∀ (tag a close trip : Byte) (s : State), Ready s →
     (∀ i : StepId, a.toNat = i.val →
       (close.toNat ≤ 1 → trip.toNat ≤ 1 → ¬(close = 1 ∧ trip = 1) →
         ((s.lines i).direct = false → exec (.driveLines tag a close trip) s = .next (respond 0x22 tag .wrongState
           ([a] ++ List.replicate 12 0) (consume s))) ∧
         ((s.lines i).direct = true → ∃ t, exec (.driveLines tag a close trip) s =
             .next (respond 0x22 tag .ok ([a] ++ List.replicate 12 0) t) ∧
           t = { consume s with io.lines := t.io.lines, tbl.recs := t.tbl.recs } ∧
           closeLine t i = decide (close = 1) ∧ tripLine t i = decide (trip = 1) ∧
           t.lines i = ⟨true, decide (close = 1), decide (trip = 1), decide (close = 1), decide (trip = 1)⟩ ∧
           t.stepRec i = { s.stepRec i with lastSource :=
             if (close = 1 ∧ (s.lines i).directClose = false) ∨ (trip = 1 ∧ (s.lines i).directTrip = false) then .direct
             else (s.stepRec i).lastSource } ∧
           ∀ j, j ≠ i → t.lines j = s.lines j ∧ t.stepRec j = s.stepRec j)) ∧
       exec (.returnLines tag a) s = .next (respond 0x23 tag .ok (a :: List.replicate 12 0)
         ((consume s).modLines i fun l =>
           if l.direct then ⟨false, false, false, false, false⟩
           else { l with stagedClose := false, stagedTrip := false }))) ∧
     (8 ≤ a.toNat ∨ 1 < close.toNat ∨ 1 < trip.toNat ∨ (close = 1 ∧ trip = 1) →
       exec (.driveLines tag a close trip) s = .next (respond 0x22 tag .badArg
         ([a] ++ List.replicate 12 0) (consume s))) ∧
     (8 ≤ a.toNat → ∃ d, d.length = 12 ∧ exec (.returnLines tag a) s =
       .next (respond 0x23 tag .badArg (a :: d) { consume s with freeDraws := s.freeDraws + 1 })))
end

