-- ==== Sys2Proof/Laws/State.lean ====
section
/-! SUPPORT. The small lemmas of the record updates over the state: what each leaves as it is and what it
changes, so that no later proof unfolds a record update. -/

namespace Sys2Proof.Laws

open Sys2Proof.Machine

/-! ### Fixed-size tables -/

/-- An entry just written is read back. -/
@[simp] theorem look_put_self {α : Type} {n : Nat} (v : Vector α n) (i : Fin n) (a : α) : look (put v i a) i = a := by
  simp [look, put]

/-- Writing one entry leaves every other. -/
theorem look_put_ne {α : Type} {n : Nat} (v : Vector α n) (i j : Fin n) (a : α) (h : j ≠ i) :
    look (put v i a) j = look v j := by
  have : i.val ≠ j.val := fun e => h (Fin.ext e.symm)
  simp [look, put, this]

/-- An entry after one write. -/
theorem look_put {α : Type} {n : Nat} (v : Vector α n) (i j : Fin n) (a : α) :
    look (put v i a) j = if j = i then a else look v j := by
  by_cases h : j = i
  · subst h; simp
  · simp [h, look_put_ne v i j a h]

/-- An entry of a mapped table. -/
@[simp] theorem look_map {α β : Type} {n : Nat} (f : α → β) (v : Vector α n) (i : Fin n) :
    look (v.map f) i = f (look v i) := by
  simp [look]

/-- An entry of a table given entry by entry. -/
@[simp] theorem look_ofFn {α : Type} {n : Nat} (f : Fin n → α) (i : Fin n) : look (Vector.ofFn f) i = f i := by
  simp [look]

/-! ### What each update leaves -/

/-- An update of the alarm set leaves the rest as it is. -/
@[simp] theorem State.modAlarms_frame (f : List AlarmEntry → List AlarmEntry) (s : State) :
    (s.modAlarms f).resetHeld = s.resetHeld ∧ (s.modAlarms f).clock = s.clock ∧ (s.modAlarms f).rx = s.rx ∧
    (s.modAlarms f).mu = s.mu ∧ (s.modAlarms f).tbl = s.tbl ∧ (s.modAlarms f).dt = s.dt ∧ (s.modAlarms f).seq = s.seq ∧
    (s.modAlarms f).arb = s.arb ∧ (s.modAlarms f).vc = s.vc ∧ (s.modAlarms f).hs = s.hs ∧ (s.modAlarms f).ub = s.ub ∧
    (s.modAlarms f).oe = s.oe ∧ (s.modAlarms f).io = s.io ∧ (s.modAlarms f).link.rxBytes = s.link.rxBytes ∧
    (s.modAlarms f).link.rxBits = s.link.rxBits ∧ (s.modAlarms f).link.tx = s.link.tx ∧
    (s.modAlarms f).link.composed = s.link.composed ∧ (s.modAlarms f).link.ready = s.link.ready ∧
    (s.modAlarms f).link.overrun = s.link.overrun ∧ (s.modAlarms f).link.pubCount = s.link.pubCount ∧
    (s.modAlarms f).link.dataOut = s.link.dataOut ∧
    (s.modAlarms f).link.ignoring = s.link.ignoring ∧ (s.modAlarms f).cfg = s.cfg ∧
    (s.modAlarms f).freeDraws = s.freeDraws ∧ (s.modAlarms f).extraBits = s.extraBits ∧
    (s.modAlarms f).pending = s.pending := by
  simp [State.modAlarms]

/-- An update of a step record leaves the rest as it is. -/
@[simp] theorem State.modStep_frame (i : StepId) (f : StepRec → StepRec) (s : State) :
    (s.modStep i f).resetHeld = s.resetHeld ∧ (s.modStep i f).clock = s.clock ∧ (s.modStep i f).rx = s.rx ∧
    (s.modStep i f).mu = s.mu ∧ (s.modStep i f).tbl.closedOrder = s.tbl.closedOrder ∧ (s.modStep i f).dt = s.dt ∧
    (s.modStep i f).seq = s.seq ∧ (s.modStep i f).arb = s.arb ∧ (s.modStep i f).vc = s.vc ∧ (s.modStep i f).hs = s.hs ∧
    (s.modStep i f).ub = s.ub ∧ (s.modStep i f).oe = s.oe ∧ (s.modStep i f).io = s.io ∧ (s.modStep i f).link = s.link ∧
    (s.modStep i f).cfg = s.cfg ∧ (s.modStep i f).freeDraws = s.freeDraws ∧ (s.modStep i f).extraBits = s.extraBits ∧
    (s.modStep i f).pending = s.pending := by
  simp [State.modStep]

/-- An update of a lane leaves the rest as it is. -/
@[simp] theorem State.modLane_frame (i : StepId) (f : Lane → Lane) (s : State) :
    (s.modLane i f).resetHeld = s.resetHeld ∧ (s.modLane i f).clock = s.clock ∧ (s.modLane i f).rx = s.rx ∧
    (s.modLane i f).mu = s.mu ∧ (s.modLane i f).tbl = s.tbl ∧ (s.modLane i f).dt = s.dt ∧
    (s.modLane i f).seq.schedule = s.seq.schedule ∧ (s.modLane i f).seq.syncWait = s.seq.syncWait ∧
    (s.modLane i f).seq.yardTrip = s.seq.yardTrip ∧ (s.modLane i f).arb = s.arb ∧ (s.modLane i f).vc = s.vc ∧
    (s.modLane i f).hs = s.hs ∧ (s.modLane i f).ub = s.ub ∧ (s.modLane i f).oe = s.oe ∧ (s.modLane i f).io = s.io ∧
    (s.modLane i f).link = s.link ∧ (s.modLane i f).cfg = s.cfg ∧ (s.modLane i f).freeDraws = s.freeDraws ∧
    (s.modLane i f).extraBits = s.extraBits ∧ (s.modLane i f).pending = s.pending := by
  simp [State.modLane]

/-- An update of a step's countdowns leaves the rest as it is. -/
@[simp] theorem State.modTimers_frame (i : StepId) (f : DischargeTimer → DischargeTimer) (s : State) :
    (s.modTimers i f).resetHeld = s.resetHeld ∧ (s.modTimers i f).clock = s.clock ∧ (s.modTimers i f).rx = s.rx ∧
    (s.modTimers i f).mu = s.mu ∧ (s.modTimers i f).tbl = s.tbl ∧ (s.modTimers i f).seq = s.seq ∧
    (s.modTimers i f).arb = s.arb ∧ (s.modTimers i f).vc = s.vc ∧ (s.modTimers i f).hs = s.hs ∧
    (s.modTimers i f).ub = s.ub ∧ (s.modTimers i f).oe = s.oe ∧ (s.modTimers i f).io = s.io ∧
    (s.modTimers i f).link = s.link ∧ (s.modTimers i f).cfg = s.cfg ∧ (s.modTimers i f).freeDraws = s.freeDraws ∧
    (s.modTimers i f).extraBits = s.extraBits ∧ (s.modTimers i f).pending = s.pending := by
  simp [State.modTimers]

/-- An update of a step's unbalance record leaves the rest as it is. -/
@[simp] theorem State.modUnb_frame (i : StepId) (f : Unbalance → Unbalance) (s : State) :
    (s.modUnb i f).resetHeld = s.resetHeld ∧ (s.modUnb i f).clock = s.clock ∧ (s.modUnb i f).rx = s.rx ∧
    (s.modUnb i f).mu = s.mu ∧ (s.modUnb i f).tbl = s.tbl ∧ (s.modUnb i f).dt = s.dt ∧ (s.modUnb i f).seq = s.seq ∧
    (s.modUnb i f).arb = s.arb ∧ (s.modUnb i f).vc = s.vc ∧ (s.modUnb i f).hs = s.hs ∧ (s.modUnb i f).oe = s.oe ∧
    (s.modUnb i f).io = s.io ∧ (s.modUnb i f).link = s.link ∧ (s.modUnb i f).cfg = s.cfg ∧
    (s.modUnb i f).freeDraws = s.freeDraws ∧ (s.modUnb i f).extraBits = s.extraBits ∧
    (s.modUnb i f).pending = s.pending := by
  simp [State.modUnb]

/-- An update of an order slot leaves the rest as it is. -/
@[simp] theorem State.modSlot_frame (i : SlotId) (f : Slot → Slot) (s : State) :
    (s.modSlot i f).resetHeld = s.resetHeld ∧ (s.modSlot i f).clock = s.clock ∧ (s.modSlot i f).rx = s.rx ∧
    (s.modSlot i f).mu = s.mu ∧ (s.modSlot i f).tbl = s.tbl ∧ (s.modSlot i f).dt = s.dt ∧ (s.modSlot i f).seq = s.seq ∧
    (s.modSlot i f).arb = s.arb ∧ (s.modSlot i f).vc = s.vc ∧ (s.modSlot i f).hs = s.hs ∧ (s.modSlot i f).ub = s.ub ∧
    (s.modSlot i f).oe.freeQueue = s.oe.freeQueue ∧ (s.modSlot i f).oe.posted = s.oe.posted ∧
    (s.modSlot i f).oe.executing = s.oe.executing ∧ (s.modSlot i f).io = s.io ∧ (s.modSlot i f).link = s.link ∧
    (s.modSlot i f).cfg = s.cfg ∧ (s.modSlot i f).freeDraws = s.freeDraws ∧ (s.modSlot i f).extraBits = s.extraBits ∧
    (s.modSlot i f).pending = s.pending := by
  simp [State.modSlot]

/-- An update of a step's line state leaves the rest as it is. -/
@[simp] theorem State.modLines_frame (i : StepId) (f : LineState → LineState) (s : State) :
    (s.modLines i f).resetHeld = s.resetHeld ∧ (s.modLines i f).clock = s.clock ∧ (s.modLines i f).rx = s.rx ∧
    (s.modLines i f).mu = s.mu ∧ (s.modLines i f).tbl = s.tbl ∧ (s.modLines i f).dt = s.dt ∧
    (s.modLines i f).seq = s.seq ∧ (s.modLines i f).arb = s.arb ∧ (s.modLines i f).vc = s.vc ∧
    (s.modLines i f).hs = s.hs ∧ (s.modLines i f).ub = s.ub ∧ (s.modLines i f).oe = s.oe ∧
    (s.modLines i f).io.strap = s.io.strap ∧ (s.modLines i f).io.inp0 = s.io.inp0 ∧
    (s.modLines i f).io.inp1 = s.io.inp1 ∧ (s.modLines i f).io.inp2 = s.io.inp2 ∧ (s.modLines i f).link = s.link ∧
    (s.modLines i f).cfg = s.cfg ∧ (s.modLines i f).freeDraws = s.freeDraws ∧
    (s.modLines i f).extraBits = s.extraBits ∧ (s.modLines i f).pending = s.pending := by
  simp [State.modLines]

/-! ### What each update changes -/

/-- The alarm set after an update. -/
@[simp] theorem State.modAlarms_alarms (f : List AlarmEntry → List AlarmEntry) (s : State) :
    (s.modAlarms f).link.alarms = f s.link.alarms := rfl

/-- A record after an update of one of them. -/
theorem State.modStep_stepRec (i j : StepId) (f : StepRec → StepRec) (s : State) :
    (s.modStep i f).stepRec j = if j = i then f (s.stepRec i) else s.stepRec j := by
  simp [State.modStep, State.stepRec, look_put]

/-- The record just updated. -/
@[simp] theorem State.modStep_stepRec_self (i : StepId) (f : StepRec → StepRec) (s : State) :
    (s.modStep i f).stepRec i = f (s.stepRec i) := by
  simp [State.modStep_stepRec]

/-- A record after an update of one of them. -/
theorem State.modLane_lane (i j : StepId) (f : Lane → Lane) (s : State) :
    (s.modLane i f).lane j = if j = i then f (s.lane i) else s.lane j := by
  simp [State.modLane, State.lane, look_put]

/-- The record just updated. -/
@[simp] theorem State.modLane_lane_self (i : StepId) (f : Lane → Lane) (s : State) :
    (s.modLane i f).lane i = f (s.lane i) := by
  simp [State.modLane_lane]

/-- A record after an update of one of them. -/
theorem State.modTimers_timers (i j : StepId) (f : DischargeTimer → DischargeTimer) (s : State) :
    (s.modTimers i f).timers j = if j = i then f (s.timers i) else s.timers j := by
  simp [State.modTimers, State.timers, look_put]

/-- The record just updated. -/
@[simp] theorem State.modTimers_timers_self (i : StepId) (f : DischargeTimer → DischargeTimer) (s : State) :
    (s.modTimers i f).timers i = f (s.timers i) := by
  simp [State.modTimers_timers]

/-- A record after an update of one of them. -/
theorem State.modUnb_unb (i j : StepId) (f : Unbalance → Unbalance) (s : State) :
    (s.modUnb i f).unb j = if j = i then f (s.unb i) else s.unb j := by
  simp [State.modUnb, State.unb, look_put]

/-- The record just updated. -/
@[simp] theorem State.modUnb_unb_self (i : StepId) (f : Unbalance → Unbalance) (s : State) :
    (s.modUnb i f).unb i = f (s.unb i) := by
  simp [State.modUnb_unb]

/-- A record after an update of one of them. -/
theorem State.modSlot_slot (i j : SlotId) (f : Slot → Slot) (s : State) :
    (s.modSlot i f).slot j = if j = i then f (s.slot i) else s.slot j := by
  simp [State.modSlot, State.slot, look_put]

/-- The record just updated. -/
@[simp] theorem State.modSlot_slot_self (i : SlotId) (f : Slot → Slot) (s : State) :
    (s.modSlot i f).slot i = f (s.slot i) := by
  simp [State.modSlot_slot]

/-- A record after an update of one of them. -/
theorem State.modLines_lines (i j : StepId) (f : LineState → LineState) (s : State) :
    (s.modLines i f).lines j = if j = i then f (s.lines i) else s.lines j := by
  simp [State.modLines, State.lines, look_put]

/-- The record just updated. -/
@[simp] theorem State.modLines_lines_self (i : StepId) (f : LineState → LineState) (s : State) :
    (s.modLines i f).lines i = f (s.lines i) := by
  simp [State.modLines_lines]

/-! ### Iteration -/

/-- A figure that each round of an iteration leaves is left by the whole. -/
theorem forEach_keeps {α β : Type} (g : State → β) (f : α → State → State) (h : ∀ a s, g (f a s) = g s) (l : List α)
    (s : State) : g (forEach f l s) = g s := by
  induction l generalizing s with
  | nil => rfl
  | cons a as ih => simp [forEach, ih, h]

/-- A property that each round of an iteration keeps is kept by the whole. -/
theorem forEach_invariant {α : Type} (P : State → Prop) (f : α → State → State) (h : ∀ a s, P s → P (f a s))
    (l : List α) (s : State) (hs : P s) : P (forEach f l s) := by
  induction l generalizing s with
  | nil => exact hs
  | cons a as ih => exact ih _ (h a s hs)

end Sys2Proof.Laws
end

