-- ==== Sys2Proof/Laws/Ops.lean ====
section
/-! SUPPORT. What each shared operation of the sequencer, the step table, the order engine and the arbiter
leaves as it is: the frame lemmas that later proofs cite instead of unfolding the operation. -/

namespace Sys2Proof.Laws

open Sys2Proof.Machine

/-- What `raise` leaves as it is. -/
@[simp] theorem raise_frame (k : AlarmKind) (sub : Subject) (s : State) :
    (raise k sub s).resetHeld = s.resetHeld ∧ (raise k sub s).clock = s.clock ∧ (raise k sub s).rx = s.rx ∧
    (raise k sub s).mu = s.mu ∧ (raise k sub s).tbl = s.tbl ∧ (raise k sub s).dt = s.dt ∧ (raise k sub s).seq = s.seq ∧
    (raise k sub s).arb = s.arb ∧ (raise k sub s).vc = s.vc ∧ (raise k sub s).hs = s.hs ∧ (raise k sub s).ub = s.ub ∧
    (raise k sub s).oe = s.oe ∧ (raise k sub s).io = s.io ∧ (raise k sub s).link.rxBytes = s.link.rxBytes ∧
    (raise k sub s).link.rxBits = s.link.rxBits ∧ (raise k sub s).link.tx = s.link.tx ∧
    (raise k sub s).link.composed = s.link.composed ∧ (raise k sub s).link.ready = s.link.ready ∧
    (raise k sub s).link.overrun = s.link.overrun ∧ (raise k sub s).link.pubCount = s.link.pubCount ∧
    (raise k sub s).link.dataOut = s.link.dataOut ∧
    (raise k sub s).link.ignoring = s.link.ignoring ∧ (raise k sub s).cfg = s.cfg ∧
    (raise k sub s).freeDraws = s.freeDraws ∧ (raise k sub s).extraBits = s.extraBits ∧
    (raise k sub s).pending = s.pending := by
  simp [raise]

/-- What `raiseCut` leaves as it is. -/
@[simp] theorem raiseCut_frame (k : AlarmKind) (sub : Subject) (cut : Bool) (s : State) :
    (raiseCut k sub cut s).resetHeld = s.resetHeld ∧ (raiseCut k sub cut s).clock = s.clock ∧
    (raiseCut k sub cut s).rx = s.rx ∧ (raiseCut k sub cut s).mu = s.mu ∧ (raiseCut k sub cut s).tbl = s.tbl ∧
    (raiseCut k sub cut s).dt = s.dt ∧ (raiseCut k sub cut s).seq = s.seq ∧ (raiseCut k sub cut s).arb = s.arb ∧
    (raiseCut k sub cut s).vc = s.vc ∧ (raiseCut k sub cut s).hs = s.hs ∧ (raiseCut k sub cut s).ub = s.ub ∧
    (raiseCut k sub cut s).oe = s.oe ∧ (raiseCut k sub cut s).io = s.io ∧
    (raiseCut k sub cut s).link.rxBytes = s.link.rxBytes ∧ (raiseCut k sub cut s).link.rxBits = s.link.rxBits ∧
    (raiseCut k sub cut s).link.tx = s.link.tx ∧ (raiseCut k sub cut s).link.composed = s.link.composed ∧
    (raiseCut k sub cut s).link.ready = s.link.ready ∧ (raiseCut k sub cut s).link.overrun = s.link.overrun ∧
    (raiseCut k sub cut s).link.pubCount = s.link.pubCount ∧ (raiseCut k sub cut s).link.dataOut = s.link.dataOut ∧
    (raiseCut k sub cut s).link.ignoring = s.link.ignoring ∧
    (raiseCut k sub cut s).cfg = s.cfg ∧ (raiseCut k sub cut s).freeDraws = s.freeDraws ∧
    (raiseCut k sub cut s).extraBits = s.extraBits ∧ (raiseCut k sub cut s).pending = s.pending := by
  simp [raiseCut]

/-- What `endCause` leaves as it is. -/
@[simp] theorem endCause_frame (k : AlarmKind) (sub : Subject) (s : State) :
    (endCause k sub s).resetHeld = s.resetHeld ∧ (endCause k sub s).clock = s.clock ∧ (endCause k sub s).rx = s.rx ∧
    (endCause k sub s).mu = s.mu ∧ (endCause k sub s).tbl = s.tbl ∧ (endCause k sub s).dt = s.dt ∧
    (endCause k sub s).seq = s.seq ∧ (endCause k sub s).arb = s.arb ∧ (endCause k sub s).vc = s.vc ∧
    (endCause k sub s).hs = s.hs ∧ (endCause k sub s).ub = s.ub ∧ (endCause k sub s).oe = s.oe ∧
    (endCause k sub s).io = s.io ∧ (endCause k sub s).link.rxBytes = s.link.rxBytes ∧
    (endCause k sub s).link.rxBits = s.link.rxBits ∧ (endCause k sub s).link.tx = s.link.tx ∧
    (endCause k sub s).link.composed = s.link.composed ∧ (endCause k sub s).link.ready = s.link.ready ∧
    (endCause k sub s).link.overrun = s.link.overrun ∧ (endCause k sub s).link.pubCount = s.link.pubCount ∧
    (endCause k sub s).link.dataOut = s.link.dataOut ∧
    (endCause k sub s).link.ignoring = s.link.ignoring ∧ (endCause k sub s).cfg = s.cfg ∧
    (endCause k sub s).freeDraws = s.freeDraws ∧ (endCause k sub s).extraBits = s.extraBits ∧
    (endCause k sub s).pending = s.pending := by
  simp [endCause]

/-- What `finishSlot` leaves as it is. -/
@[simp] theorem finishSlot_frame (i : SlotId) (out : OrderOutcome) (r : Option Reason) (s : State) :
    (finishSlot i out r s).resetHeld = s.resetHeld ∧ (finishSlot i out r s).clock = s.clock ∧
    (finishSlot i out r s).rx = s.rx ∧ (finishSlot i out r s).mu = s.mu ∧ (finishSlot i out r s).tbl = s.tbl ∧
    (finishSlot i out r s).dt = s.dt ∧ (finishSlot i out r s).seq = s.seq ∧ (finishSlot i out r s).arb = s.arb ∧
    (finishSlot i out r s).vc = s.vc ∧ (finishSlot i out r s).hs = s.hs ∧ (finishSlot i out r s).ub = s.ub ∧
    (finishSlot i out r s).oe.freeQueue = s.oe.freeQueue ∧ (finishSlot i out r s).oe.posted = s.oe.posted ∧
    (finishSlot i out r s).oe.executing = s.oe.executing ∧ (finishSlot i out r s).io = s.io ∧
    (finishSlot i out r s).link = s.link ∧ (finishSlot i out r s).cfg = s.cfg ∧
    (finishSlot i out r s).freeDraws = s.freeDraws ∧ (finishSlot i out r s).extraBits = s.extraBits ∧
    (finishSlot i out r s).pending = s.pending := by
  simp [finishSlot]

/-- What `finishExecuting` leaves as it is. -/
@[simp] theorem finishExecuting_frame (out : OrderOutcome) (r : Option Reason) (s : State) :
    (finishExecuting out r s).resetHeld = s.resetHeld ∧ (finishExecuting out r s).clock = s.clock ∧
    (finishExecuting out r s).rx = s.rx ∧ (finishExecuting out r s).mu = s.mu ∧ (finishExecuting out r s).tbl = s.tbl ∧
    (finishExecuting out r s).dt = s.dt ∧ (finishExecuting out r s).seq = s.seq ∧
    (finishExecuting out r s).arb = s.arb ∧ (finishExecuting out r s).vc = s.vc ∧ (finishExecuting out r s).hs = s.hs ∧
    (finishExecuting out r s).ub = s.ub ∧ (finishExecuting out r s).oe.freeQueue = s.oe.freeQueue ∧
    (finishExecuting out r s).oe.posted = s.oe.posted ∧ (finishExecuting out r s).io = s.io ∧
    (finishExecuting out r s).link = s.link ∧ (finishExecuting out r s).cfg = s.cfg ∧
    (finishExecuting out r s).freeDraws = s.freeDraws ∧ (finishExecuting out r s).extraBits = s.extraBits ∧
    (finishExecuting out r s).pending = s.pending := by
  unfold finishExecuting; (repeat' split) <;> simp

/-- What `clearBand` does, whole: both accumulators at 0, neither at its delay, nothing else. -/
@[simp] theorem clearBand_frame (s : State) :
    (clearBand s).resetHeld = s.resetHeld ∧ (clearBand s).clock = s.clock ∧ (clearBand s).rx = s.rx ∧
    (clearBand s).mu = s.mu ∧ (clearBand s).tbl = s.tbl ∧ (clearBand s).dt = s.dt ∧ (clearBand s).seq = s.seq ∧
    (clearBand s).arb = s.arb ∧
    (clearBand s).vc = { s.vc with lowAcc := 0, highAcc := 0, lowReached := false, highReached := false } ∧
    (clearBand s).hs = s.hs ∧ (clearBand s).ub = s.ub ∧ (clearBand s).oe = s.oe ∧ (clearBand s).io = s.io ∧
    (clearBand s).link = s.link ∧ (clearBand s).cfg = s.cfg ∧ (clearBand s).freeDraws = s.freeDraws ∧
    (clearBand s).extraBits = s.extraBits ∧ (clearBand s).pending = s.pending := by
  simp [clearBand]

/-- What `vcEndReport` leaves as it is. -/
@[simp] theorem vcEndReport_frame (s : State) :
    (vcEndReport s).resetHeld = s.resetHeld ∧ (vcEndReport s).clock = s.clock ∧ (vcEndReport s).rx = s.rx ∧
    (vcEndReport s).mu = s.mu ∧ (vcEndReport s).tbl = s.tbl ∧ (vcEndReport s).dt = s.dt ∧ (vcEndReport s).seq = s.seq ∧
    (vcEndReport s).arb = s.arb ∧ (vcEndReport s).vc.auto = s.vc.auto ∧ (vcEndReport s).vc.vctrl = s.vc.vctrl ∧
    (vcEndReport s).vc.bandLow = s.vc.bandLow ∧ (vcEndReport s).vc.bandHigh = s.vc.bandHigh ∧
    (vcEndReport s).vc.fastAcc = s.vc.fastAcc ∧ (vcEndReport s).vc.fastCondition = s.vc.fastCondition ∧
    (vcEndReport s).vc.fastDue = s.vc.fastDue ∧ (vcEndReport s).vc.deadAcc = s.vc.deadAcc ∧
    (vcEndReport s).vc.deadOpened = s.vc.deadOpened ∧ (vcEndReport s).vc.noCandidate = s.vc.noCandidate ∧
    (vcEndReport s).hs = s.hs ∧ (vcEndReport s).ub = s.ub ∧ (vcEndReport s).oe = s.oe ∧ (vcEndReport s).io = s.io ∧
    (vcEndReport s).link = s.link ∧ (vcEndReport s).cfg = s.cfg ∧ (vcEndReport s).freeDraws = s.freeDraws ∧
    (vcEndReport s).extraBits = s.extraBits ∧ (vcEndReport s).pending = s.pending := by
  simp [vcEndReport]

/-- What `endReport` leaves as it is. -/
@[simp] theorem endReport_frame (src : Requester) (out : OrderOutcome) (r : Option Reason) (s : State) :
    (endReport src out r s).resetHeld = s.resetHeld ∧ (endReport src out r s).clock = s.clock ∧
    (endReport src out r s).rx = s.rx ∧ (endReport src out r s).mu = s.mu ∧ (endReport src out r s).tbl = s.tbl ∧
    (endReport src out r s).dt = s.dt ∧ (endReport src out r s).seq = s.seq ∧ (endReport src out r s).arb = s.arb ∧
    (endReport src out r s).vc.auto = s.vc.auto ∧ (endReport src out r s).vc.vctrl = s.vc.vctrl ∧
    (endReport src out r s).vc.bandLow = s.vc.bandLow ∧ (endReport src out r s).vc.bandHigh = s.vc.bandHigh ∧
    (endReport src out r s).vc.fastAcc = s.vc.fastAcc ∧ (endReport src out r s).vc.fastCondition = s.vc.fastCondition ∧
    (endReport src out r s).vc.fastDue = s.vc.fastDue ∧ (endReport src out r s).vc.deadAcc = s.vc.deadAcc ∧
    (endReport src out r s).vc.deadOpened = s.vc.deadOpened ∧
    (endReport src out r s).vc.noCandidate = s.vc.noCandidate ∧ (endReport src out r s).hs = s.hs ∧
    (endReport src out r s).ub = s.ub ∧ (endReport src out r s).oe.freeQueue = s.oe.freeQueue ∧
    (endReport src out r s).oe.posted = s.oe.posted ∧ (endReport src out r s).io = s.io ∧
    (endReport src out r s).link = s.link ∧ (endReport src out r s).cfg = s.cfg ∧
    (endReport src out r s).freeDraws = s.freeDraws ∧ (endReport src out r s).extraBits = s.extraBits ∧
    (endReport src out r s).pending = s.pending := by
  unfold endReport; (repeat' split) <;> simp

/-- What `passBusy` leaves as it is. -/
@[simp] theorem passBusy_frame (ms : Nat) (s : State) :
    (passBusy ms s).resetHeld = s.resetHeld ∧ (passBusy ms s).clock = s.clock ∧ (passBusy ms s).rx = s.rx ∧
    (passBusy ms s).mu = s.mu ∧ (passBusy ms s).tbl = s.tbl ∧ (passBusy ms s).dt = s.dt ∧ (passBusy ms s).seq = s.seq ∧
    (passBusy ms s).arb.holder = s.arb.holder ∧ (passBusy ms s).arb.vcRequest = s.arb.vcRequest ∧
    (passBusy ms s).arb.oeRequest = s.arb.oeRequest ∧ (passBusy ms s).vc = s.vc ∧ (passBusy ms s).hs = s.hs ∧
    (passBusy ms s).ub = s.ub ∧ (passBusy ms s).oe = s.oe ∧ (passBusy ms s).io = s.io ∧ (passBusy ms s).link = s.link ∧
    (passBusy ms s).cfg = s.cfg ∧ (passBusy ms s).freeDraws = s.freeDraws ∧ (passBusy ms s).extraBits = s.extraBits ∧
    (passBusy ms s).pending = s.pending := by
  simp [passBusy]

/-- What `freeRight` leaves as it is. -/
@[simp] theorem freeRight_frame (s : State) :
    (freeRight s).resetHeld = s.resetHeld ∧ (freeRight s).clock = s.clock ∧ (freeRight s).rx = s.rx ∧
    (freeRight s).mu = s.mu ∧ (freeRight s).tbl = s.tbl ∧ (freeRight s).dt = s.dt ∧ (freeRight s).seq = s.seq ∧
    (freeRight s).arb.holder = s.arb.holder ∧ (freeRight s).arb.vcRequest = s.arb.vcRequest ∧
    (freeRight s).arb.oeRequest = s.arb.oeRequest ∧ (freeRight s).vc = s.vc ∧ (freeRight s).hs = s.hs ∧
    (freeRight s).ub = s.ub ∧ (freeRight s).oe = s.oe ∧ (freeRight s).io = s.io ∧ (freeRight s).link = s.link ∧
    (freeRight s).cfg = s.cfg ∧ (freeRight s).freeDraws = s.freeDraws ∧ (freeRight s).extraBits = s.extraBits ∧
    (freeRight s).pending = s.pending := by
  simp [freeRight]

/-- What `abandonClose` leaves as it is. -/
@[simp] theorem abandonClose_frame (i : StepId) (out : OrderOutcome) (r : Option Reason) (s : State) :
    (abandonClose i out r s).resetHeld = s.resetHeld ∧ (abandonClose i out r s).clock = s.clock ∧
    (abandonClose i out r s).rx = s.rx ∧ (abandonClose i out r s).mu = s.mu ∧ (abandonClose i out r s).tbl = s.tbl ∧
    (abandonClose i out r s).dt = s.dt ∧ (abandonClose i out r s).seq.yardTrip = s.seq.yardTrip ∧
    (abandonClose i out r s).arb.holder = s.arb.holder ∧ (abandonClose i out r s).arb.vcRequest = s.arb.vcRequest ∧
    (abandonClose i out r s).arb.oeRequest = s.arb.oeRequest ∧ (abandonClose i out r s).vc.auto = s.vc.auto ∧
    (abandonClose i out r s).vc.vctrl = s.vc.vctrl ∧ (abandonClose i out r s).vc.bandLow = s.vc.bandLow ∧
    (abandonClose i out r s).vc.bandHigh = s.vc.bandHigh ∧ (abandonClose i out r s).vc.fastAcc = s.vc.fastAcc ∧
    (abandonClose i out r s).vc.fastCondition = s.vc.fastCondition ∧
    (abandonClose i out r s).vc.fastDue = s.vc.fastDue ∧ (abandonClose i out r s).vc.deadAcc = s.vc.deadAcc ∧
    (abandonClose i out r s).vc.deadOpened = s.vc.deadOpened ∧
    (abandonClose i out r s).vc.noCandidate = s.vc.noCandidate ∧ (abandonClose i out r s).hs = s.hs ∧
    (abandonClose i out r s).ub = s.ub ∧ (abandonClose i out r s).oe.freeQueue = s.oe.freeQueue ∧
    (abandonClose i out r s).oe.posted = s.oe.posted ∧ (abandonClose i out r s).io = s.io ∧
    (abandonClose i out r s).link = s.link ∧ (abandonClose i out r s).cfg = s.cfg ∧
    (abandonClose i out r s).freeDraws = s.freeDraws ∧ (abandonClose i out r s).extraBits = s.extraBits ∧
    (abandonClose i out r s).pending = s.pending := by
  unfold abandonClose; (repeat' split) <;> simp

/-- What `watchClose` leaves as it is. -/
@[simp] theorem watchClose_frame (i : StepId) (s : State) :
    (watchClose i s).resetHeld = s.resetHeld ∧ (watchClose i s).clock = s.clock ∧ (watchClose i s).rx = s.rx ∧
    (watchClose i s).mu = s.mu ∧ (watchClose i s).tbl = s.tbl ∧ (watchClose i s).dt = s.dt ∧
    (watchClose i s).seq.yardTrip = s.seq.yardTrip ∧ (watchClose i s).arb.holder = s.arb.holder ∧
    (watchClose i s).arb.vcRequest = s.arb.vcRequest ∧ (watchClose i s).arb.oeRequest = s.arb.oeRequest ∧
    (watchClose i s).vc.auto = s.vc.auto ∧ (watchClose i s).vc.vctrl = s.vc.vctrl ∧
    (watchClose i s).vc.bandLow = s.vc.bandLow ∧ (watchClose i s).vc.bandHigh = s.vc.bandHigh ∧
    (watchClose i s).vc.fastAcc = s.vc.fastAcc ∧ (watchClose i s).vc.fastCondition = s.vc.fastCondition ∧
    (watchClose i s).vc.fastDue = s.vc.fastDue ∧ (watchClose i s).vc.deadAcc = s.vc.deadAcc ∧
    (watchClose i s).vc.deadOpened = s.vc.deadOpened ∧ (watchClose i s).vc.noCandidate = s.vc.noCandidate ∧
    (watchClose i s).hs = s.hs ∧ (watchClose i s).ub = s.ub ∧ (watchClose i s).oe.freeQueue = s.oe.freeQueue ∧
    (watchClose i s).oe.posted = s.oe.posted ∧ (watchClose i s).io = s.io ∧ (watchClose i s).link = s.link ∧
    (watchClose i s).cfg = s.cfg ∧ (watchClose i s).freeDraws = s.freeDraws ∧
    (watchClose i s).extraBits = s.extraBits ∧ (watchClose i s).pending = s.pending := by
  unfold watchClose; (repeat' split) <;> simp

/-- What `addLockout` leaves as it is. -/
@[simp] theorem addLockout_frame (i : StepId) (r : LockoutReason) (s : State) :
    (addLockout i r s).resetHeld = s.resetHeld ∧ (addLockout i r s).clock = s.clock ∧ (addLockout i r s).rx = s.rx ∧
    (addLockout i r s).mu = s.mu ∧ (addLockout i r s).tbl.closedOrder = s.tbl.closedOrder ∧
    (addLockout i r s).dt = s.dt ∧ (addLockout i r s).seq.yardTrip = s.seq.yardTrip ∧
    (addLockout i r s).arb.holder = s.arb.holder ∧ (addLockout i r s).arb.vcRequest = s.arb.vcRequest ∧
    (addLockout i r s).arb.oeRequest = s.arb.oeRequest ∧ (addLockout i r s).vc.auto = s.vc.auto ∧
    (addLockout i r s).vc.vctrl = s.vc.vctrl ∧ (addLockout i r s).vc.bandLow = s.vc.bandLow ∧
    (addLockout i r s).vc.bandHigh = s.vc.bandHigh ∧ (addLockout i r s).vc.fastAcc = s.vc.fastAcc ∧
    (addLockout i r s).vc.fastCondition = s.vc.fastCondition ∧ (addLockout i r s).vc.fastDue = s.vc.fastDue ∧
    (addLockout i r s).vc.deadAcc = s.vc.deadAcc ∧ (addLockout i r s).vc.deadOpened = s.vc.deadOpened ∧
    (addLockout i r s).vc.noCandidate = s.vc.noCandidate ∧ (addLockout i r s).hs = s.hs ∧
    (addLockout i r s).ub = s.ub ∧ (addLockout i r s).oe.freeQueue = s.oe.freeQueue ∧
    (addLockout i r s).oe.posted = s.oe.posted ∧ (addLockout i r s).io = s.io ∧ (addLockout i r s).link = s.link ∧
    (addLockout i r s).cfg = s.cfg ∧ (addLockout i r s).freeDraws = s.freeDraws ∧
    (addLockout i r s).extraBits = s.extraBits ∧ (addLockout i r s).pending = s.pending := by
  simp [addLockout]

/-- What `startCooldown` leaves as it is. -/
@[simp] theorem startCooldown_frame (i : StepId) (s : State) :
    (startCooldown i s).resetHeld = s.resetHeld ∧ (startCooldown i s).clock = s.clock ∧ (startCooldown i s).rx = s.rx ∧
    (startCooldown i s).mu = s.mu ∧ (startCooldown i s).tbl.closedOrder = s.tbl.closedOrder ∧
    (startCooldown i s).seq.yardTrip = s.seq.yardTrip ∧ (startCooldown i s).arb.holder = s.arb.holder ∧
    (startCooldown i s).arb.vcRequest = s.arb.vcRequest ∧ (startCooldown i s).arb.oeRequest = s.arb.oeRequest ∧
    (startCooldown i s).vc.auto = s.vc.auto ∧ (startCooldown i s).vc.vctrl = s.vc.vctrl ∧
    (startCooldown i s).vc.bandLow = s.vc.bandLow ∧ (startCooldown i s).vc.bandHigh = s.vc.bandHigh ∧
    (startCooldown i s).vc.fastAcc = s.vc.fastAcc ∧ (startCooldown i s).vc.fastCondition = s.vc.fastCondition ∧
    (startCooldown i s).vc.fastDue = s.vc.fastDue ∧ (startCooldown i s).vc.deadAcc = s.vc.deadAcc ∧
    (startCooldown i s).vc.deadOpened = s.vc.deadOpened ∧ (startCooldown i s).vc.noCandidate = s.vc.noCandidate ∧
    (startCooldown i s).hs = s.hs ∧ (startCooldown i s).ub = s.ub ∧ (startCooldown i s).oe.freeQueue = s.oe.freeQueue ∧
    (startCooldown i s).oe.posted = s.oe.posted ∧ (startCooldown i s).io = s.io ∧ (startCooldown i s).link = s.link ∧
    (startCooldown i s).cfg = s.cfg ∧ (startCooldown i s).freeDraws = s.freeDraws ∧
    (startCooldown i s).extraBits = s.extraBits ∧ (startCooldown i s).pending = s.pending := by
  simp [startCooldown]

/-- What `stopCooldown` leaves as it is. -/
@[simp] theorem stopCooldown_frame (i : StepId) (s : State) :
    (stopCooldown i s).resetHeld = s.resetHeld ∧ (stopCooldown i s).clock = s.clock ∧ (stopCooldown i s).rx = s.rx ∧
    (stopCooldown i s).mu = s.mu ∧ (stopCooldown i s).tbl.closedOrder = s.tbl.closedOrder ∧
    (stopCooldown i s).seq = s.seq ∧ (stopCooldown i s).arb = s.arb ∧ (stopCooldown i s).vc = s.vc ∧
    (stopCooldown i s).hs = s.hs ∧ (stopCooldown i s).ub = s.ub ∧ (stopCooldown i s).oe = s.oe ∧
    (stopCooldown i s).io = s.io ∧ (stopCooldown i s).link = s.link ∧ (stopCooldown i s).cfg = s.cfg ∧
    (stopCooldown i s).freeDraws = s.freeDraws ∧ (stopCooldown i s).extraBits = s.extraBits ∧
    (stopCooldown i s).pending = s.pending := by
  simp [stopCooldown]

/-- What `startHoldoff` leaves as it is. -/
@[simp] theorem startHoldoff_frame (i : StepId) (s : State) :
    (startHoldoff i s).resetHeld = s.resetHeld ∧ (startHoldoff i s).clock = s.clock ∧ (startHoldoff i s).rx = s.rx ∧
    (startHoldoff i s).mu = s.mu ∧ (startHoldoff i s).tbl.closedOrder = s.tbl.closedOrder ∧
    (startHoldoff i s).seq.yardTrip = s.seq.yardTrip ∧ (startHoldoff i s).arb.holder = s.arb.holder ∧
    (startHoldoff i s).arb.vcRequest = s.arb.vcRequest ∧ (startHoldoff i s).arb.oeRequest = s.arb.oeRequest ∧
    (startHoldoff i s).vc.auto = s.vc.auto ∧ (startHoldoff i s).vc.vctrl = s.vc.vctrl ∧
    (startHoldoff i s).vc.bandLow = s.vc.bandLow ∧ (startHoldoff i s).vc.bandHigh = s.vc.bandHigh ∧
    (startHoldoff i s).vc.fastAcc = s.vc.fastAcc ∧ (startHoldoff i s).vc.fastCondition = s.vc.fastCondition ∧
    (startHoldoff i s).vc.fastDue = s.vc.fastDue ∧ (startHoldoff i s).vc.deadAcc = s.vc.deadAcc ∧
    (startHoldoff i s).vc.deadOpened = s.vc.deadOpened ∧ (startHoldoff i s).vc.noCandidate = s.vc.noCandidate ∧
    (startHoldoff i s).hs = s.hs ∧ (startHoldoff i s).ub = s.ub ∧ (startHoldoff i s).oe.freeQueue = s.oe.freeQueue ∧
    (startHoldoff i s).oe.posted = s.oe.posted ∧ (startHoldoff i s).io = s.io ∧ (startHoldoff i s).link = s.link ∧
    (startHoldoff i s).cfg = s.cfg ∧ (startHoldoff i s).freeDraws = s.freeDraws ∧
    (startHoldoff i s).extraBits = s.extraBits ∧ (startHoldoff i s).pending = s.pending := by
  unfold startHoldoff; dsimp only; (repeat' split) <;> simp

/-- What `interruptLearning` leaves as it is. -/
@[simp] theorem interruptLearning_frame (i : StepId) (s : State) :
    (interruptLearning i s).resetHeld = s.resetHeld ∧ (interruptLearning i s).clock = s.clock ∧
    (interruptLearning i s).rx = s.rx ∧ (interruptLearning i s).mu = s.mu ∧ (interruptLearning i s).tbl = s.tbl ∧
    (interruptLearning i s).dt = s.dt ∧ (interruptLearning i s).seq = s.seq ∧ (interruptLearning i s).arb = s.arb ∧
    (interruptLearning i s).vc = s.vc ∧ (interruptLearning i s).hs = s.hs ∧
    (interruptLearning i s).oe.freeQueue = s.oe.freeQueue ∧ (interruptLearning i s).oe.posted = s.oe.posted ∧
    (interruptLearning i s).io = s.io ∧ (interruptLearning i s).link = s.link ∧ (interruptLearning i s).cfg = s.cfg ∧
    (interruptLearning i s).freeDraws = s.freeDraws ∧ (interruptLearning i s).extraBits = s.extraBits ∧
    (interruptLearning i s).pending = s.pending := by
  unfold interruptLearning; (repeat' split) <;> simp

/-- What `clearStages` leaves as it is. -/
@[simp] theorem clearStages_frame (i : StepId) (s : State) :
    (clearStages i s).resetHeld = s.resetHeld ∧ (clearStages i s).clock = s.clock ∧ (clearStages i s).rx = s.rx ∧
    (clearStages i s).mu = s.mu ∧ (clearStages i s).tbl = s.tbl ∧ (clearStages i s).dt = s.dt ∧
    (clearStages i s).seq = s.seq ∧ (clearStages i s).arb = s.arb ∧ (clearStages i s).vc = s.vc ∧
    (clearStages i s).hs = s.hs ∧ (clearStages i s).oe = s.oe ∧ (clearStages i s).io = s.io ∧
    (clearStages i s).link.rxBytes = s.link.rxBytes ∧ (clearStages i s).link.rxBits = s.link.rxBits ∧
    (clearStages i s).link.tx = s.link.tx ∧ (clearStages i s).link.composed = s.link.composed ∧
    (clearStages i s).link.ready = s.link.ready ∧ (clearStages i s).link.overrun = s.link.overrun ∧
    (clearStages i s).link.pubCount = s.link.pubCount ∧ (clearStages i s).link.dataOut = s.link.dataOut ∧
    (clearStages i s).link.ignoring = s.link.ignoring ∧
    (clearStages i s).cfg = s.cfg ∧ (clearStages i s).freeDraws = s.freeDraws ∧
    (clearStages i s).extraBits = s.extraBits ∧ (clearStages i s).pending = s.pending := by
  unfold clearStages; (repeat' split) <;> simp

/-- What `disarm` leaves as it is. -/
@[simp] theorem disarm_frame (i : StepId) (s : State) :
    (disarm i s).resetHeld = s.resetHeld ∧ (disarm i s).clock = s.clock ∧ (disarm i s).rx = s.rx ∧
    (disarm i s).mu = s.mu ∧ (disarm i s).tbl = s.tbl ∧ (disarm i s).dt = s.dt ∧ (disarm i s).seq = s.seq ∧
    (disarm i s).arb = s.arb ∧ (disarm i s).vc = s.vc ∧ (disarm i s).hs = s.hs ∧
    (disarm i s).oe.freeQueue = s.oe.freeQueue ∧ (disarm i s).oe.posted = s.oe.posted ∧ (disarm i s).io = s.io ∧
    (disarm i s).link.rxBytes = s.link.rxBytes ∧ (disarm i s).link.rxBits = s.link.rxBits ∧
    (disarm i s).link.tx = s.link.tx ∧ (disarm i s).link.composed = s.link.composed ∧
    (disarm i s).link.ready = s.link.ready ∧ (disarm i s).link.overrun = s.link.overrun ∧
    (disarm i s).link.pubCount = s.link.pubCount ∧ (disarm i s).link.dataOut = s.link.dataOut ∧
    (disarm i s).link.ignoring = s.link.ignoring ∧
    (disarm i s).cfg = s.cfg ∧ (disarm i s).freeDraws = s.freeDraws ∧ (disarm i s).extraBits = s.extraBits ∧
    (disarm i s).pending = s.pending := by
  simp [disarm]

/-- What `leaveClosed` leaves as it is. -/
@[simp] theorem leaveClosed_frame (i : StepId) (s : State) :
    (leaveClosed i s).resetHeld = s.resetHeld ∧ (leaveClosed i s).clock = s.clock ∧ (leaveClosed i s).rx = s.rx ∧
    (leaveClosed i s).mu = s.mu ∧ (leaveClosed i s).tbl = s.tbl ∧ (leaveClosed i s).dt = s.dt ∧ (leaveClosed i s).seq = s.seq ∧
    (leaveClosed i s).arb = s.arb ∧ (leaveClosed i s).vc = s.vc ∧ (leaveClosed i s).hs = s.hs ∧
    (leaveClosed i s).oe.freeQueue = s.oe.freeQueue ∧ (leaveClosed i s).oe.posted = s.oe.posted ∧ (leaveClosed i s).io = s.io ∧
    (leaveClosed i s).link.rxBytes = s.link.rxBytes ∧ (leaveClosed i s).link.rxBits = s.link.rxBits ∧
    (leaveClosed i s).link.tx = s.link.tx ∧ (leaveClosed i s).link.composed = s.link.composed ∧
    (leaveClosed i s).link.ready = s.link.ready ∧ (leaveClosed i s).link.overrun = s.link.overrun ∧
    (leaveClosed i s).link.pubCount = s.link.pubCount ∧ (leaveClosed i s).link.dataOut = s.link.dataOut ∧
    (leaveClosed i s).link.ignoring = s.link.ignoring ∧
    (leaveClosed i s).cfg = s.cfg ∧ (leaveClosed i s).freeDraws = s.freeDraws ∧ (leaveClosed i s).extraBits = s.extraBits ∧
    (leaveClosed i s).pending = s.pending := by
  unfold leaveClosed; split <;> simp

/-- What `enterClosed` leaves as it is. -/
@[simp] theorem enterClosed_frame (i : StepId) (s : State) :
    (enterClosed i s).resetHeld = s.resetHeld ∧ (enterClosed i s).clock = s.clock ∧ (enterClosed i s).rx = s.rx ∧
    (enterClosed i s).mu = s.mu ∧ (enterClosed i s).tbl = s.tbl ∧ (enterClosed i s).seq = s.seq ∧
    (enterClosed i s).arb = s.arb ∧ (enterClosed i s).vc = s.vc ∧ (enterClosed i s).hs = s.hs ∧
    (enterClosed i s).oe = s.oe ∧ (enterClosed i s).io = s.io ∧ (enterClosed i s).link = s.link ∧
    (enterClosed i s).cfg = s.cfg ∧ (enterClosed i s).freeDraws = s.freeDraws ∧
    (enterClosed i s).extraBits = s.extraBits ∧ (enterClosed i s).pending = s.pending := by
  simp [enterClosed]

/-- What `takeDeparture` leaves as it is. -/
@[simp] theorem takeDeparture_frame (i : StepId) (s : State) :
    (takeDeparture i s).resetHeld = s.resetHeld ∧ (takeDeparture i s).clock = s.clock ∧ (takeDeparture i s).rx = s.rx ∧
    (takeDeparture i s).mu = s.mu ∧ (takeDeparture i s).tbl = s.tbl ∧ (takeDeparture i s).dt = s.dt ∧ (takeDeparture i s).seq = s.seq ∧
    (takeDeparture i s).arb = s.arb ∧ (takeDeparture i s).vc = s.vc ∧ (takeDeparture i s).hs = s.hs ∧
    (takeDeparture i s).oe.freeQueue = s.oe.freeQueue ∧ (takeDeparture i s).oe.posted = s.oe.posted ∧ (takeDeparture i s).io = s.io ∧
    (takeDeparture i s).link.rxBytes = s.link.rxBytes ∧ (takeDeparture i s).link.rxBits = s.link.rxBits ∧
    (takeDeparture i s).link.tx = s.link.tx ∧ (takeDeparture i s).link.composed = s.link.composed ∧
    (takeDeparture i s).link.ready = s.link.ready ∧ (takeDeparture i s).link.overrun = s.link.overrun ∧
    (takeDeparture i s).link.pubCount = s.link.pubCount ∧ (takeDeparture i s).link.dataOut = s.link.dataOut ∧
    (takeDeparture i s).link.ignoring = s.link.ignoring ∧
    (takeDeparture i s).cfg = s.cfg ∧ (takeDeparture i s).freeDraws = s.freeDraws ∧ (takeDeparture i s).extraBits = s.extraBits ∧
    (takeDeparture i s).pending = s.pending := by
  unfold takeDeparture; dsimp only; (repeat' split) <;> simp

/-- What `relist` leaves as it is. -/
@[simp] theorem relist_frame (i : StepId) (s : State) :
    (relist i s).resetHeld = s.resetHeld ∧ (relist i s).clock = s.clock ∧ (relist i s).rx = s.rx ∧
    (relist i s).mu = s.mu ∧ (relist i s).tbl.recs = s.tbl.recs ∧ (relist i s).dt = s.dt ∧ (relist i s).seq = s.seq ∧
    (relist i s).arb = s.arb ∧ (relist i s).vc = s.vc ∧ (relist i s).hs = s.hs ∧ (relist i s).ub = s.ub ∧
    (relist i s).oe = s.oe ∧ (relist i s).io = s.io ∧ (relist i s).link = s.link ∧ (relist i s).cfg = s.cfg ∧
    (relist i s).freeDraws = s.freeDraws ∧ (relist i s).extraBits = s.extraBits ∧
    (relist i s).pending = s.pending := by
  unfold relist; (repeat' split) <;> simp

/-- What `clearSuspect` leaves as it is. -/
@[simp] theorem clearSuspect_frame (i : StepId) (s : State) :
    (clearSuspect i s).resetHeld = s.resetHeld ∧ (clearSuspect i s).clock = s.clock ∧ (clearSuspect i s).rx = s.rx ∧
    (clearSuspect i s).mu = s.mu ∧ (clearSuspect i s).tbl.closedOrder = s.tbl.closedOrder ∧
    (clearSuspect i s).dt = s.dt ∧ (clearSuspect i s).seq = s.seq ∧ (clearSuspect i s).arb = s.arb ∧
    (clearSuspect i s).vc = s.vc ∧ (clearSuspect i s).hs = s.hs ∧ (clearSuspect i s).ub = s.ub ∧
    (clearSuspect i s).oe = s.oe ∧ (clearSuspect i s).io = s.io ∧ (clearSuspect i s).link.rxBytes = s.link.rxBytes ∧
    (clearSuspect i s).link.rxBits = s.link.rxBits ∧ (clearSuspect i s).link.tx = s.link.tx ∧
    (clearSuspect i s).link.composed = s.link.composed ∧ (clearSuspect i s).link.ready = s.link.ready ∧
    (clearSuspect i s).link.overrun = s.link.overrun ∧ (clearSuspect i s).link.pubCount = s.link.pubCount ∧
    (clearSuspect i s).link.dataOut = s.link.dataOut ∧
    (clearSuspect i s).link.ignoring = s.link.ignoring ∧ (clearSuspect i s).cfg = s.cfg ∧
    (clearSuspect i s).freeDraws = s.freeDraws ∧ (clearSuspect i s).extraBits = s.extraBits ∧
    (clearSuspect i s).pending = s.pending := by
  unfold clearSuspect; (repeat' split) <;> simp

/-- What `enterOpened` leaves as it is. -/
@[simp] theorem enterOpened_frame (i : StepId) (s : State) :
    (enterOpened i s).resetHeld = s.resetHeld ∧ (enterOpened i s).clock = s.clock ∧ (enterOpened i s).rx = s.rx ∧
    (enterOpened i s).mu = s.mu ∧ (enterOpened i s).tbl.closedOrder = s.tbl.closedOrder ∧
    (enterOpened i s).seq.yardTrip = s.seq.yardTrip ∧ (enterOpened i s).arb.holder = s.arb.holder ∧
    (enterOpened i s).arb.vcRequest = s.arb.vcRequest ∧ (enterOpened i s).arb.oeRequest = s.arb.oeRequest ∧
    (enterOpened i s).vc.auto = s.vc.auto ∧ (enterOpened i s).vc.vctrl = s.vc.vctrl ∧
    (enterOpened i s).vc.bandLow = s.vc.bandLow ∧ (enterOpened i s).vc.bandHigh = s.vc.bandHigh ∧
    (enterOpened i s).vc.fastAcc = s.vc.fastAcc ∧ (enterOpened i s).vc.fastCondition = s.vc.fastCondition ∧
    (enterOpened i s).vc.fastDue = s.vc.fastDue ∧ (enterOpened i s).vc.deadAcc = s.vc.deadAcc ∧
    (enterOpened i s).vc.deadOpened = s.vc.deadOpened ∧ (enterOpened i s).vc.noCandidate = s.vc.noCandidate ∧
    (enterOpened i s).hs = s.hs ∧ (enterOpened i s).ub = s.ub ∧ (enterOpened i s).oe.freeQueue = s.oe.freeQueue ∧
    (enterOpened i s).oe.posted = s.oe.posted ∧ (enterOpened i s).io = s.io ∧
    (enterOpened i s).link.rxBytes = s.link.rxBytes ∧ (enterOpened i s).link.rxBits = s.link.rxBits ∧
    (enterOpened i s).link.tx = s.link.tx ∧ (enterOpened i s).link.composed = s.link.composed ∧
    (enterOpened i s).link.ready = s.link.ready ∧ (enterOpened i s).link.overrun = s.link.overrun ∧
    (enterOpened i s).link.pubCount = s.link.pubCount ∧ (enterOpened i s).link.dataOut = s.link.dataOut ∧
    (enterOpened i s).link.ignoring = s.link.ignoring ∧
    (enterOpened i s).cfg = s.cfg ∧ (enterOpened i s).freeDraws = s.freeDraws ∧
    (enterOpened i s).extraBits = s.extraBits ∧ (enterOpened i s).pending = s.pending := by
  unfold enterOpened; dsimp only; (repeat' split) <;> simp

/-- What `enterFaulted` leaves as it is. -/
@[simp] theorem enterFaulted_frame (i : StepId) (c : FaultCause) (s : State) :
    (enterFaulted i c s).resetHeld = s.resetHeld ∧ (enterFaulted i c s).clock = s.clock ∧
    (enterFaulted i c s).rx = s.rx ∧ (enterFaulted i c s).mu = s.mu ∧
    (enterFaulted i c s).tbl.closedOrder = s.tbl.closedOrder ∧ (enterFaulted i c s).seq = s.seq ∧
    (enterFaulted i c s).arb = s.arb ∧ (enterFaulted i c s).vc = s.vc ∧ (enterFaulted i c s).hs = s.hs ∧
    (enterFaulted i c s).ub = s.ub ∧ (enterFaulted i c s).oe = s.oe ∧ (enterFaulted i c s).io = s.io ∧
    (enterFaulted i c s).link.rxBytes = s.link.rxBytes ∧ (enterFaulted i c s).link.rxBits = s.link.rxBits ∧
    (enterFaulted i c s).link.tx = s.link.tx ∧ (enterFaulted i c s).link.composed = s.link.composed ∧
    (enterFaulted i c s).link.ready = s.link.ready ∧ (enterFaulted i c s).link.overrun = s.link.overrun ∧
    (enterFaulted i c s).link.pubCount = s.link.pubCount ∧ (enterFaulted i c s).link.dataOut = s.link.dataOut ∧
    (enterFaulted i c s).link.ignoring = s.link.ignoring ∧
    (enterFaulted i c s).cfg = s.cfg ∧ (enterFaulted i c s).freeDraws = s.freeDraws ∧
    (enterFaulted i c s).extraBits = s.extraBits ∧ (enterFaulted i c s).pending = s.pending := by
  unfold enterFaulted; (repeat' split) <;> simp

/-- What `leaveState` leaves as it is. -/
@[simp] theorem leaveState_frame (i : StepId) (old : StepState) (s : State) :
    (leaveState i old s).resetHeld = s.resetHeld ∧ (leaveState i old s).clock = s.clock ∧
    (leaveState i old s).rx = s.rx ∧ (leaveState i old s).mu = s.mu ∧
    (leaveState i old s).tbl.closedOrder = s.tbl.closedOrder ∧ (leaveState i old s).seq = s.seq ∧
    (leaveState i old s).arb = s.arb ∧ (leaveState i old s).vc = s.vc ∧ (leaveState i old s).hs = s.hs ∧
    (leaveState i old s).oe.freeQueue = s.oe.freeQueue ∧ (leaveState i old s).oe.posted = s.oe.posted ∧
    (leaveState i old s).io = s.io ∧ (leaveState i old s).link.rxBytes = s.link.rxBytes ∧
    (leaveState i old s).link.rxBits = s.link.rxBits ∧ (leaveState i old s).link.tx = s.link.tx ∧
    (leaveState i old s).link.composed = s.link.composed ∧ (leaveState i old s).link.ready = s.link.ready ∧
    (leaveState i old s).link.overrun = s.link.overrun ∧ (leaveState i old s).link.pubCount = s.link.pubCount ∧
    (leaveState i old s).link.dataOut = s.link.dataOut ∧
    (leaveState i old s).link.ignoring = s.link.ignoring ∧ (leaveState i old s).cfg = s.cfg ∧
    (leaveState i old s).freeDraws = s.freeDraws ∧ (leaveState i old s).extraBits = s.extraBits ∧
    (leaveState i old s).pending = s.pending := by
  unfold leaveState; (repeat' split) <;> simp

/-- What `enterState` leaves as it is. -/
@[simp] theorem enterState_frame (i : StepId) (new : StepState) (s : State) :
    (enterState i new s).resetHeld = s.resetHeld ∧ (enterState i new s).clock = s.clock ∧
    (enterState i new s).rx = s.rx ∧ (enterState i new s).mu = s.mu ∧
    (enterState i new s).tbl.closedOrder = s.tbl.closedOrder ∧ (enterState i new s).seq.yardTrip = s.seq.yardTrip ∧
    (enterState i new s).arb.holder = s.arb.holder ∧ (enterState i new s).arb.vcRequest = s.arb.vcRequest ∧
    (enterState i new s).arb.oeRequest = s.arb.oeRequest ∧ (enterState i new s).vc.auto = s.vc.auto ∧
    (enterState i new s).vc.vctrl = s.vc.vctrl ∧ (enterState i new s).vc.bandLow = s.vc.bandLow ∧
    (enterState i new s).vc.bandHigh = s.vc.bandHigh ∧ (enterState i new s).vc.fastAcc = s.vc.fastAcc ∧
    (enterState i new s).vc.fastCondition = s.vc.fastCondition ∧ (enterState i new s).vc.fastDue = s.vc.fastDue ∧
    (enterState i new s).vc.deadAcc = s.vc.deadAcc ∧ (enterState i new s).vc.deadOpened = s.vc.deadOpened ∧
    (enterState i new s).vc.noCandidate = s.vc.noCandidate ∧ (enterState i new s).hs = s.hs ∧
    (enterState i new s).oe.freeQueue = s.oe.freeQueue ∧ (enterState i new s).oe.posted = s.oe.posted ∧
    (enterState i new s).io = s.io ∧ (enterState i new s).link.rxBytes = s.link.rxBytes ∧
    (enterState i new s).link.rxBits = s.link.rxBits ∧ (enterState i new s).link.tx = s.link.tx ∧
    (enterState i new s).link.composed = s.link.composed ∧ (enterState i new s).link.ready = s.link.ready ∧
    (enterState i new s).link.overrun = s.link.overrun ∧ (enterState i new s).link.pubCount = s.link.pubCount ∧
    (enterState i new s).link.dataOut = s.link.dataOut ∧
    (enterState i new s).link.ignoring = s.link.ignoring ∧ (enterState i new s).cfg = s.cfg ∧
    (enterState i new s).freeDraws = s.freeDraws ∧ (enterState i new s).extraBits = s.extraBits ∧
    (enterState i new s).pending = s.pending := by
  unfold enterState; (repeat' split) <;> simp

/-- What `moveStep` leaves as it is. -/
@[simp] theorem moveStep_frame (i : StepId) (new : StepState) (s : State) :
    (moveStep i new s).resetHeld = s.resetHeld ∧ (moveStep i new s).clock = s.clock ∧ (moveStep i new s).rx = s.rx ∧
    (moveStep i new s).mu = s.mu ∧ (moveStep i new s).seq.yardTrip = s.seq.yardTrip ∧
    (moveStep i new s).arb.holder = s.arb.holder ∧ (moveStep i new s).arb.vcRequest = s.arb.vcRequest ∧
    (moveStep i new s).arb.oeRequest = s.arb.oeRequest ∧ (moveStep i new s).vc.auto = s.vc.auto ∧
    (moveStep i new s).vc.vctrl = s.vc.vctrl ∧ (moveStep i new s).vc.bandLow = s.vc.bandLow ∧
    (moveStep i new s).vc.bandHigh = s.vc.bandHigh ∧ (moveStep i new s).vc.fastAcc = s.vc.fastAcc ∧
    (moveStep i new s).vc.fastCondition = s.vc.fastCondition ∧ (moveStep i new s).vc.fastDue = s.vc.fastDue ∧
    (moveStep i new s).vc.deadAcc = s.vc.deadAcc ∧ (moveStep i new s).vc.deadOpened = s.vc.deadOpened ∧
    (moveStep i new s).vc.noCandidate = s.vc.noCandidate ∧ (moveStep i new s).hs = s.hs ∧
    (moveStep i new s).oe.freeQueue = s.oe.freeQueue ∧ (moveStep i new s).oe.posted = s.oe.posted ∧
    (moveStep i new s).io = s.io ∧ (moveStep i new s).link.rxBytes = s.link.rxBytes ∧
    (moveStep i new s).link.rxBits = s.link.rxBits ∧ (moveStep i new s).link.tx = s.link.tx ∧
    (moveStep i new s).link.composed = s.link.composed ∧ (moveStep i new s).link.ready = s.link.ready ∧
    (moveStep i new s).link.overrun = s.link.overrun ∧ (moveStep i new s).link.pubCount = s.link.pubCount ∧
    (moveStep i new s).link.dataOut = s.link.dataOut ∧
    (moveStep i new s).link.ignoring = s.link.ignoring ∧ (moveStep i new s).cfg = s.cfg ∧
    (moveStep i new s).freeDraws = s.freeDraws ∧ (moveStep i new s).extraBits = s.extraBits ∧
    (moveStep i new s).pending = s.pending := by
  simp [moveStep]

/-- What `faultInvalid` leaves as it is. -/
@[simp] theorem faultInvalid_frame (i : StepId) (s : State) :
    (faultInvalid i s).resetHeld = s.resetHeld ∧ (faultInvalid i s).clock = s.clock ∧ (faultInvalid i s).rx = s.rx ∧
    (faultInvalid i s).mu = s.mu ∧ (faultInvalid i s).tbl.closedOrder = s.tbl.closedOrder ∧
    (faultInvalid i s).dt = s.dt ∧ (faultInvalid i s).seq = s.seq ∧ (faultInvalid i s).arb = s.arb ∧
    (faultInvalid i s).vc = s.vc ∧ (faultInvalid i s).hs = s.hs ∧ (faultInvalid i s).ub = s.ub ∧
    (faultInvalid i s).oe = s.oe ∧ (faultInvalid i s).io = s.io ∧ (faultInvalid i s).link.rxBytes = s.link.rxBytes ∧
    (faultInvalid i s).link.rxBits = s.link.rxBits ∧ (faultInvalid i s).link.tx = s.link.tx ∧
    (faultInvalid i s).link.composed = s.link.composed ∧ (faultInvalid i s).link.ready = s.link.ready ∧
    (faultInvalid i s).link.overrun = s.link.overrun ∧ (faultInvalid i s).link.pubCount = s.link.pubCount ∧
    (faultInvalid i s).link.dataOut = s.link.dataOut ∧
    (faultInvalid i s).link.ignoring = s.link.ignoring ∧ (faultInvalid i s).cfg = s.cfg ∧
    (faultInvalid i s).freeDraws = s.freeDraws ∧ (faultInvalid i s).extraBits = s.extraBits ∧
    (faultInvalid i s).pending = s.pending := by
  unfold faultInvalid; dsimp only; (repeat' split) <;> simp

/-- What `armHoldoff` leaves as it is. -/
@[simp] theorem armHoldoff_frame (i : StepId) (s : State) :
    (armHoldoff i s).resetHeld = s.resetHeld ∧ (armHoldoff i s).clock = s.clock ∧ (armHoldoff i s).rx = s.rx ∧
    (armHoldoff i s).mu = s.mu ∧ (armHoldoff i s).tbl.closedOrder = s.tbl.closedOrder ∧
    (armHoldoff i s).seq.yardTrip = s.seq.yardTrip ∧ (armHoldoff i s).arb.holder = s.arb.holder ∧
    (armHoldoff i s).arb.vcRequest = s.arb.vcRequest ∧ (armHoldoff i s).arb.oeRequest = s.arb.oeRequest ∧
    (armHoldoff i s).vc.auto = s.vc.auto ∧ (armHoldoff i s).vc.vctrl = s.vc.vctrl ∧
    (armHoldoff i s).vc.bandLow = s.vc.bandLow ∧ (armHoldoff i s).vc.bandHigh = s.vc.bandHigh ∧
    (armHoldoff i s).vc.fastAcc = s.vc.fastAcc ∧ (armHoldoff i s).vc.fastCondition = s.vc.fastCondition ∧
    (armHoldoff i s).vc.fastDue = s.vc.fastDue ∧ (armHoldoff i s).vc.deadAcc = s.vc.deadAcc ∧
    (armHoldoff i s).vc.deadOpened = s.vc.deadOpened ∧ (armHoldoff i s).vc.noCandidate = s.vc.noCandidate ∧
    (armHoldoff i s).hs = s.hs ∧ (armHoldoff i s).ub = s.ub ∧ (armHoldoff i s).oe.freeQueue = s.oe.freeQueue ∧
    (armHoldoff i s).oe.posted = s.oe.posted ∧ (armHoldoff i s).io = s.io ∧ (armHoldoff i s).link = s.link ∧
    (armHoldoff i s).cfg = s.cfg ∧ (armHoldoff i s).freeDraws = s.freeDraws ∧
    (armHoldoff i s).extraBits = s.extraBits ∧ (armHoldoff i s).pending = s.pending := by
  unfold armHoldoff; (repeat' split) <;> simp

/-- What `startClosePulse` leaves as it is. -/
@[simp] theorem startClosePulse_frame (i : StepId) (s : State) :
    (startClosePulse i s).resetHeld = s.resetHeld ∧ (startClosePulse i s).clock = s.clock ∧
    (startClosePulse i s).rx = s.rx ∧ (startClosePulse i s).mu = s.mu ∧
    (startClosePulse i s).seq.yardTrip = s.seq.yardTrip ∧ (startClosePulse i s).arb.holder = s.arb.holder ∧
    (startClosePulse i s).arb.vcRequest = s.arb.vcRequest ∧ (startClosePulse i s).arb.oeRequest = s.arb.oeRequest ∧
    (startClosePulse i s).vc.auto = s.vc.auto ∧ (startClosePulse i s).vc.vctrl = s.vc.vctrl ∧
    (startClosePulse i s).vc.bandLow = s.vc.bandLow ∧ (startClosePulse i s).vc.bandHigh = s.vc.bandHigh ∧
    (startClosePulse i s).vc.fastAcc = s.vc.fastAcc ∧ (startClosePulse i s).vc.fastCondition = s.vc.fastCondition ∧
    (startClosePulse i s).vc.fastDue = s.vc.fastDue ∧ (startClosePulse i s).vc.deadAcc = s.vc.deadAcc ∧
    (startClosePulse i s).vc.deadOpened = s.vc.deadOpened ∧ (startClosePulse i s).vc.noCandidate = s.vc.noCandidate ∧
    (startClosePulse i s).hs.dv = s.hs.dv ∧ (startClosePulse i s).hs.di = s.hs.di ∧
    (startClosePulse i s).hs.vCount = s.hs.vCount ∧ (startClosePulse i s).hs.iCount = s.hs.iCount ∧
    (startClosePulse i s).hs.vActive = s.hs.vActive ∧ (startClosePulse i s).hs.iActive = s.hs.iActive ∧
    (startClosePulse i s).hs.tripCount = s.hs.tripCount ∧ (startClosePulse i s).hs.shedding = s.hs.shedding ∧
    (startClosePulse i s).hs.watch = s.hs.watch ∧ (startClosePulse i s).oe.freeQueue = s.oe.freeQueue ∧
    (startClosePulse i s).oe.posted = s.oe.posted ∧ (startClosePulse i s).io = s.io ∧
    (startClosePulse i s).link.rxBytes = s.link.rxBytes ∧ (startClosePulse i s).link.rxBits = s.link.rxBits ∧
    (startClosePulse i s).link.tx = s.link.tx ∧ (startClosePulse i s).link.composed = s.link.composed ∧
    (startClosePulse i s).link.ready = s.link.ready ∧ (startClosePulse i s).link.overrun = s.link.overrun ∧
    (startClosePulse i s).link.pubCount = s.link.pubCount ∧ (startClosePulse i s).link.dataOut = s.link.dataOut ∧
    (startClosePulse i s).link.ignoring = s.link.ignoring ∧
    (startClosePulse i s).cfg = s.cfg ∧ (startClosePulse i s).freeDraws = s.freeDraws ∧
    (startClosePulse i s).extraBits = s.extraBits ∧ (startClosePulse i s).pending = s.pending := by
  unfold startClosePulse; (repeat' split) <;> simp

/-- What `tryClosePulse` leaves as it is. -/
@[simp] theorem tryClosePulse_frame (i : StepId) (s : State) :
    (tryClosePulse i s).resetHeld = s.resetHeld ∧ (tryClosePulse i s).clock = s.clock ∧ (tryClosePulse i s).rx = s.rx ∧
    (tryClosePulse i s).mu = s.mu ∧ (tryClosePulse i s).seq.yardTrip = s.seq.yardTrip ∧
    (tryClosePulse i s).arb.holder = s.arb.holder ∧ (tryClosePulse i s).arb.vcRequest = s.arb.vcRequest ∧
    (tryClosePulse i s).arb.oeRequest = s.arb.oeRequest ∧ (tryClosePulse i s).vc.auto = s.vc.auto ∧
    (tryClosePulse i s).vc.vctrl = s.vc.vctrl ∧ (tryClosePulse i s).vc.bandLow = s.vc.bandLow ∧
    (tryClosePulse i s).vc.bandHigh = s.vc.bandHigh ∧ (tryClosePulse i s).vc.fastAcc = s.vc.fastAcc ∧
    (tryClosePulse i s).vc.fastCondition = s.vc.fastCondition ∧ (tryClosePulse i s).vc.fastDue = s.vc.fastDue ∧
    (tryClosePulse i s).vc.deadAcc = s.vc.deadAcc ∧ (tryClosePulse i s).vc.deadOpened = s.vc.deadOpened ∧
    (tryClosePulse i s).vc.noCandidate = s.vc.noCandidate ∧ (tryClosePulse i s).hs.dv = s.hs.dv ∧
    (tryClosePulse i s).hs.di = s.hs.di ∧ (tryClosePulse i s).hs.vCount = s.hs.vCount ∧
    (tryClosePulse i s).hs.iCount = s.hs.iCount ∧ (tryClosePulse i s).hs.vActive = s.hs.vActive ∧
    (tryClosePulse i s).hs.iActive = s.hs.iActive ∧ (tryClosePulse i s).hs.tripCount = s.hs.tripCount ∧
    (tryClosePulse i s).hs.shedding = s.hs.shedding ∧ (tryClosePulse i s).hs.watch = s.hs.watch ∧
    (tryClosePulse i s).oe.freeQueue = s.oe.freeQueue ∧ (tryClosePulse i s).oe.posted = s.oe.posted ∧
    (tryClosePulse i s).io = s.io ∧ (tryClosePulse i s).link.rxBytes = s.link.rxBytes ∧
    (tryClosePulse i s).link.rxBits = s.link.rxBits ∧ (tryClosePulse i s).link.tx = s.link.tx ∧
    (tryClosePulse i s).link.composed = s.link.composed ∧ (tryClosePulse i s).link.ready = s.link.ready ∧
    (tryClosePulse i s).link.overrun = s.link.overrun ∧ (tryClosePulse i s).link.pubCount = s.link.pubCount ∧
    (tryClosePulse i s).link.dataOut = s.link.dataOut ∧
    (tryClosePulse i s).link.ignoring = s.link.ignoring ∧ (tryClosePulse i s).cfg = s.cfg ∧
    (tryClosePulse i s).freeDraws = s.freeDraws ∧ (tryClosePulse i s).extraBits = s.extraBits ∧
    (tryClosePulse i s).pending = s.pending := by
  unfold tryClosePulse; (repeat' split) <;> simp

/-- What `scheduleClose` leaves as it is. -/
@[simp] theorem scheduleClose_frame (i : StepId) (frame : Word) (wave : BitVec 5) (s : State) :
    (scheduleClose i frame wave s).resetHeld = s.resetHeld ∧ (scheduleClose i frame wave s).clock = s.clock ∧
    (scheduleClose i frame wave s).rx = s.rx ∧ (scheduleClose i frame wave s).mu = s.mu ∧
    (scheduleClose i frame wave s).seq.yardTrip = s.seq.yardTrip ∧
    (scheduleClose i frame wave s).arb.holder = s.arb.holder ∧
    (scheduleClose i frame wave s).arb.vcRequest = s.arb.vcRequest ∧
    (scheduleClose i frame wave s).arb.oeRequest = s.arb.oeRequest ∧
    (scheduleClose i frame wave s).vc.auto = s.vc.auto ∧ (scheduleClose i frame wave s).vc.vctrl = s.vc.vctrl ∧
    (scheduleClose i frame wave s).vc.bandLow = s.vc.bandLow ∧
    (scheduleClose i frame wave s).vc.bandHigh = s.vc.bandHigh ∧
    (scheduleClose i frame wave s).vc.fastAcc = s.vc.fastAcc ∧
    (scheduleClose i frame wave s).vc.fastCondition = s.vc.fastCondition ∧
    (scheduleClose i frame wave s).vc.fastDue = s.vc.fastDue ∧
    (scheduleClose i frame wave s).vc.deadAcc = s.vc.deadAcc ∧
    (scheduleClose i frame wave s).vc.deadOpened = s.vc.deadOpened ∧
    (scheduleClose i frame wave s).vc.noCandidate = s.vc.noCandidate ∧ (scheduleClose i frame wave s).hs.dv = s.hs.dv ∧
    (scheduleClose i frame wave s).hs.di = s.hs.di ∧ (scheduleClose i frame wave s).hs.vCount = s.hs.vCount ∧
    (scheduleClose i frame wave s).hs.iCount = s.hs.iCount ∧ (scheduleClose i frame wave s).hs.vActive = s.hs.vActive ∧
    (scheduleClose i frame wave s).hs.iActive = s.hs.iActive ∧
    (scheduleClose i frame wave s).hs.tripCount = s.hs.tripCount ∧
    (scheduleClose i frame wave s).hs.shedding = s.hs.shedding ∧ (scheduleClose i frame wave s).hs.watch = s.hs.watch ∧
    (scheduleClose i frame wave s).oe.freeQueue = s.oe.freeQueue ∧
    (scheduleClose i frame wave s).oe.posted = s.oe.posted ∧ (scheduleClose i frame wave s).io = s.io ∧
    (scheduleClose i frame wave s).link.rxBytes = s.link.rxBytes ∧
    (scheduleClose i frame wave s).link.rxBits = s.link.rxBits ∧ (scheduleClose i frame wave s).link.tx = s.link.tx ∧
    (scheduleClose i frame wave s).link.composed = s.link.composed ∧
    (scheduleClose i frame wave s).link.ready = s.link.ready ∧
    (scheduleClose i frame wave s).link.overrun = s.link.overrun ∧
    (scheduleClose i frame wave s).link.pubCount = s.link.pubCount ∧
    (scheduleClose i frame wave s).link.dataOut = s.link.dataOut ∧
    (scheduleClose i frame wave s).link.ignoring = s.link.ignoring ∧ (scheduleClose i frame wave s).cfg = s.cfg ∧
    (scheduleClose i frame wave s).freeDraws = s.freeDraws ∧ (scheduleClose i frame wave s).extraBits = s.extraBits ∧
    (scheduleClose i frame wave s).pending = s.pending := by
  unfold scheduleClose; dsimp only; (repeat' split) <;> simp

/-- What `takeClose` leaves as it is. -/
@[simp] theorem takeClose_frame (i : StepId) (src : Requester) (t : Timing) (s : State) :
    (takeClose i src t s).resetHeld = s.resetHeld ∧ (takeClose i src t s).clock = s.clock ∧
    (takeClose i src t s).rx = s.rx ∧ (takeClose i src t s).mu = s.mu ∧
    (takeClose i src t s).seq.yardTrip = s.seq.yardTrip ∧ (takeClose i src t s).arb.holder = s.arb.holder ∧
    (takeClose i src t s).arb.vcRequest = s.arb.vcRequest ∧ (takeClose i src t s).arb.oeRequest = s.arb.oeRequest ∧
    (takeClose i src t s).vc.auto = s.vc.auto ∧ (takeClose i src t s).vc.vctrl = s.vc.vctrl ∧
    (takeClose i src t s).vc.bandLow = s.vc.bandLow ∧ (takeClose i src t s).vc.bandHigh = s.vc.bandHigh ∧
    (takeClose i src t s).vc.fastAcc = s.vc.fastAcc ∧ (takeClose i src t s).vc.fastCondition = s.vc.fastCondition ∧
    (takeClose i src t s).vc.fastDue = s.vc.fastDue ∧ (takeClose i src t s).vc.deadAcc = s.vc.deadAcc ∧
    (takeClose i src t s).vc.deadOpened = s.vc.deadOpened ∧ (takeClose i src t s).vc.noCandidate = s.vc.noCandidate ∧
    (takeClose i src t s).hs.dv = s.hs.dv ∧ (takeClose i src t s).hs.di = s.hs.di ∧
    (takeClose i src t s).hs.vCount = s.hs.vCount ∧ (takeClose i src t s).hs.iCount = s.hs.iCount ∧
    (takeClose i src t s).hs.vActive = s.hs.vActive ∧ (takeClose i src t s).hs.iActive = s.hs.iActive ∧
    (takeClose i src t s).hs.tripCount = s.hs.tripCount ∧ (takeClose i src t s).hs.shedding = s.hs.shedding ∧
    (takeClose i src t s).hs.watch = s.hs.watch ∧ (takeClose i src t s).oe.freeQueue = s.oe.freeQueue ∧
    (takeClose i src t s).oe.posted = s.oe.posted ∧ (takeClose i src t s).io = s.io ∧
    (takeClose i src t s).link.rxBytes = s.link.rxBytes ∧ (takeClose i src t s).link.rxBits = s.link.rxBits ∧
    (takeClose i src t s).link.tx = s.link.tx ∧ (takeClose i src t s).link.composed = s.link.composed ∧
    (takeClose i src t s).link.ready = s.link.ready ∧ (takeClose i src t s).link.overrun = s.link.overrun ∧
    (takeClose i src t s).link.pubCount = s.link.pubCount ∧ (takeClose i src t s).link.dataOut = s.link.dataOut ∧
    (takeClose i src t s).link.ignoring = s.link.ignoring ∧
    (takeClose i src t s).cfg = s.cfg ∧ (takeClose i src t s).freeDraws = s.freeDraws ∧
    (takeClose i src t s).extraBits = s.extraBits ∧ (takeClose i src t s).pending = s.pending := by
  unfold takeClose; dsimp only; (repeat' split) <;> simp

/-- What `startTripPulse` leaves as it is. -/
@[simp] theorem startTripPulse_frame (i : StepId) (o : Operation) (s : State) :
    (startTripPulse i o s).resetHeld = s.resetHeld ∧ (startTripPulse i o s).clock = s.clock ∧
    (startTripPulse i o s).rx = s.rx ∧ (startTripPulse i o s).mu = s.mu ∧
    (startTripPulse i o s).seq.yardTrip = s.seq.yardTrip ∧ (startTripPulse i o s).arb.holder = s.arb.holder ∧
    (startTripPulse i o s).arb.vcRequest = s.arb.vcRequest ∧ (startTripPulse i o s).arb.oeRequest = s.arb.oeRequest ∧
    (startTripPulse i o s).vc.auto = s.vc.auto ∧ (startTripPulse i o s).vc.vctrl = s.vc.vctrl ∧
    (startTripPulse i o s).vc.bandLow = s.vc.bandLow ∧ (startTripPulse i o s).vc.bandHigh = s.vc.bandHigh ∧
    (startTripPulse i o s).vc.fastAcc = s.vc.fastAcc ∧ (startTripPulse i o s).vc.fastCondition = s.vc.fastCondition ∧
    (startTripPulse i o s).vc.fastDue = s.vc.fastDue ∧ (startTripPulse i o s).vc.deadAcc = s.vc.deadAcc ∧
    (startTripPulse i o s).vc.deadOpened = s.vc.deadOpened ∧ (startTripPulse i o s).vc.noCandidate = s.vc.noCandidate ∧
    (startTripPulse i o s).hs = s.hs ∧ (startTripPulse i o s).oe.freeQueue = s.oe.freeQueue ∧
    (startTripPulse i o s).oe.posted = s.oe.posted ∧ (startTripPulse i o s).io = s.io ∧
    (startTripPulse i o s).link.rxBytes = s.link.rxBytes ∧ (startTripPulse i o s).link.rxBits = s.link.rxBits ∧
    (startTripPulse i o s).link.tx = s.link.tx ∧ (startTripPulse i o s).link.composed = s.link.composed ∧
    (startTripPulse i o s).link.ready = s.link.ready ∧ (startTripPulse i o s).link.overrun = s.link.overrun ∧
    (startTripPulse i o s).link.pubCount = s.link.pubCount ∧ (startTripPulse i o s).link.dataOut = s.link.dataOut ∧
    (startTripPulse i o s).link.ignoring = s.link.ignoring ∧
    (startTripPulse i o s).cfg = s.cfg ∧ (startTripPulse i o s).freeDraws = s.freeDraws ∧
    (startTripPulse i o s).extraBits = s.extraBits ∧ (startTripPulse i o s).pending = s.pending := by
  simp [startTripPulse]

/-- What `takeOpen` leaves as it is. -/
@[simp] theorem takeOpen_frame (i : StepId) (src : Requester) (s : State) :
    (takeOpen i src s).resetHeld = s.resetHeld ∧ (takeOpen i src s).clock = s.clock ∧ (takeOpen i src s).rx = s.rx ∧
    (takeOpen i src s).mu = s.mu ∧ (takeOpen i src s).seq.yardTrip = s.seq.yardTrip ∧
    (takeOpen i src s).arb.holder = s.arb.holder ∧ (takeOpen i src s).arb.vcRequest = s.arb.vcRequest ∧
    (takeOpen i src s).arb.oeRequest = s.arb.oeRequest ∧ (takeOpen i src s).vc.auto = s.vc.auto ∧
    (takeOpen i src s).vc.vctrl = s.vc.vctrl ∧ (takeOpen i src s).vc.bandLow = s.vc.bandLow ∧
    (takeOpen i src s).vc.bandHigh = s.vc.bandHigh ∧ (takeOpen i src s).vc.fastAcc = s.vc.fastAcc ∧
    (takeOpen i src s).vc.fastCondition = s.vc.fastCondition ∧ (takeOpen i src s).vc.fastDue = s.vc.fastDue ∧
    (takeOpen i src s).vc.deadAcc = s.vc.deadAcc ∧ (takeOpen i src s).vc.deadOpened = s.vc.deadOpened ∧
    (takeOpen i src s).vc.noCandidate = s.vc.noCandidate ∧ (takeOpen i src s).hs = s.hs ∧
    (takeOpen i src s).oe.freeQueue = s.oe.freeQueue ∧ (takeOpen i src s).oe.posted = s.oe.posted ∧
    (takeOpen i src s).io = s.io ∧ (takeOpen i src s).link.rxBytes = s.link.rxBytes ∧
    (takeOpen i src s).link.rxBits = s.link.rxBits ∧ (takeOpen i src s).link.tx = s.link.tx ∧
    (takeOpen i src s).link.composed = s.link.composed ∧ (takeOpen i src s).link.ready = s.link.ready ∧
    (takeOpen i src s).link.overrun = s.link.overrun ∧ (takeOpen i src s).link.pubCount = s.link.pubCount ∧
    (takeOpen i src s).link.dataOut = s.link.dataOut ∧
    (takeOpen i src s).link.ignoring = s.link.ignoring ∧ (takeOpen i src s).cfg = s.cfg ∧
    (takeOpen i src s).freeDraws = s.freeDraws ∧ (takeOpen i src s).extraBits = s.extraBits ∧
    (takeOpen i src s).pending = s.pending := by
  unfold takeOpen; dsimp only; (repeat' split) <;> simp

/-- What `protectiveOpen` leaves as it is. -/
@[simp] theorem protectiveOpen_frame (i : StepId) (s : State) :
    (protectiveOpen i s).resetHeld = s.resetHeld ∧ (protectiveOpen i s).clock = s.clock ∧
    (protectiveOpen i s).rx = s.rx ∧ (protectiveOpen i s).mu = s.mu ∧
    (protectiveOpen i s).seq.yardTrip = s.seq.yardTrip ∧ (protectiveOpen i s).arb.holder = s.arb.holder ∧
    (protectiveOpen i s).arb.vcRequest = s.arb.vcRequest ∧ (protectiveOpen i s).arb.oeRequest = s.arb.oeRequest ∧
    (protectiveOpen i s).vc.auto = s.vc.auto ∧ (protectiveOpen i s).vc.vctrl = s.vc.vctrl ∧
    (protectiveOpen i s).vc.bandLow = s.vc.bandLow ∧ (protectiveOpen i s).vc.bandHigh = s.vc.bandHigh ∧
    (protectiveOpen i s).vc.fastAcc = s.vc.fastAcc ∧ (protectiveOpen i s).vc.fastCondition = s.vc.fastCondition ∧
    (protectiveOpen i s).vc.fastDue = s.vc.fastDue ∧ (protectiveOpen i s).vc.deadAcc = s.vc.deadAcc ∧
    (protectiveOpen i s).vc.deadOpened = s.vc.deadOpened ∧ (protectiveOpen i s).vc.noCandidate = s.vc.noCandidate ∧
    (protectiveOpen i s).hs = s.hs ∧ (protectiveOpen i s).oe.freeQueue = s.oe.freeQueue ∧
    (protectiveOpen i s).oe.posted = s.oe.posted ∧ (protectiveOpen i s).io = s.io ∧
    (protectiveOpen i s).link.rxBytes = s.link.rxBytes ∧ (protectiveOpen i s).link.rxBits = s.link.rxBits ∧
    (protectiveOpen i s).link.tx = s.link.tx ∧ (protectiveOpen i s).link.composed = s.link.composed ∧
    (protectiveOpen i s).link.ready = s.link.ready ∧ (protectiveOpen i s).link.overrun = s.link.overrun ∧
    (protectiveOpen i s).link.pubCount = s.link.pubCount ∧ (protectiveOpen i s).link.dataOut = s.link.dataOut ∧
    (protectiveOpen i s).link.ignoring = s.link.ignoring ∧
    (protectiveOpen i s).cfg = s.cfg ∧ (protectiveOpen i s).freeDraws = s.freeDraws ∧
    (protectiveOpen i s).extraBits = s.extraBits ∧ (protectiveOpen i s).pending = s.pending := by
  unfold protectiveOpen; (repeat' split) <;> simp

/-- What `passIfUnder` leaves as it is. -/
@[simp] theorem passIfUnder_frame (o : Operation) (ms : Nat) (s : State) :
    (passIfUnder o ms s).resetHeld = s.resetHeld ∧ (passIfUnder o ms s).clock = s.clock ∧
    (passIfUnder o ms s).rx = s.rx ∧ (passIfUnder o ms s).mu = s.mu ∧ (passIfUnder o ms s).tbl = s.tbl ∧
    (passIfUnder o ms s).dt = s.dt ∧ (passIfUnder o ms s).seq = s.seq ∧
    (passIfUnder o ms s).arb.holder = s.arb.holder ∧ (passIfUnder o ms s).arb.vcRequest = s.arb.vcRequest ∧
    (passIfUnder o ms s).arb.oeRequest = s.arb.oeRequest ∧ (passIfUnder o ms s).vc = s.vc ∧
    (passIfUnder o ms s).hs = s.hs ∧ (passIfUnder o ms s).ub = s.ub ∧ (passIfUnder o ms s).oe = s.oe ∧
    (passIfUnder o ms s).io = s.io ∧ (passIfUnder o ms s).link = s.link ∧ (passIfUnder o ms s).cfg = s.cfg ∧
    (passIfUnder o ms s).freeDraws = s.freeDraws ∧ (passIfUnder o ms s).extraBits = s.extraBits ∧
    (passIfUnder o ms s).pending = s.pending := by
  unfold passIfUnder; (repeat' split) <;> simp

/-- What `dropOperation` leaves as it is. -/
@[simp] theorem dropOperation_frame (i : StepId) (s : State) :
    (dropOperation i s).resetHeld = s.resetHeld ∧ (dropOperation i s).clock = s.clock ∧ (dropOperation i s).rx = s.rx ∧
    (dropOperation i s).mu = s.mu ∧ (dropOperation i s).tbl = s.tbl ∧ (dropOperation i s).dt = s.dt ∧
    (dropOperation i s).seq.schedule = s.seq.schedule ∧ (dropOperation i s).seq.syncWait = s.seq.syncWait ∧
    (dropOperation i s).seq.yardTrip = s.seq.yardTrip ∧ (dropOperation i s).arb = s.arb ∧
    (dropOperation i s).vc = s.vc ∧ (dropOperation i s).hs = s.hs ∧ (dropOperation i s).ub = s.ub ∧
    (dropOperation i s).oe = s.oe ∧ (dropOperation i s).io = s.io ∧ (dropOperation i s).link = s.link ∧
    (dropOperation i s).cfg = s.cfg ∧ (dropOperation i s).freeDraws = s.freeDraws ∧
    (dropOperation i s).extraBits = s.extraBits ∧ (dropOperation i s).pending = s.pending := by
  simp [dropOperation]

/-- What `openWatch` leaves as it is. -/
@[simp] theorem openWatch_frame (i : StepId) (s : State) :
    (openWatch i s).resetHeld = s.resetHeld ∧ (openWatch i s).clock = s.clock ∧ (openWatch i s).rx = s.rx ∧
    (openWatch i s).mu = s.mu ∧ (openWatch i s).tbl = s.tbl ∧ (openWatch i s).dt = s.dt ∧ (openWatch i s).seq = s.seq ∧
    (openWatch i s).arb = s.arb ∧ (openWatch i s).vc = s.vc ∧ (openWatch i s).hs.dv = s.hs.dv ∧
    (openWatch i s).hs.di = s.hs.di ∧ (openWatch i s).hs.vCount = s.hs.vCount ∧
    (openWatch i s).hs.iCount = s.hs.iCount ∧ (openWatch i s).hs.vActive = s.hs.vActive ∧
    (openWatch i s).hs.iActive = s.hs.iActive ∧ (openWatch i s).hs.tripCount = s.hs.tripCount ∧
    (openWatch i s).hs.shedding = s.hs.shedding ∧ (openWatch i s).ub = s.ub ∧ (openWatch i s).oe = s.oe ∧
    (openWatch i s).io = s.io ∧ (openWatch i s).link = s.link ∧ (openWatch i s).cfg = s.cfg ∧
    (openWatch i s).freeDraws = s.freeDraws ∧ (openWatch i s).extraBits = s.extraBits ∧
    (openWatch i s).pending = s.pending := by
  simp [openWatch]

/-- What `confirmClose` leaves as it is. -/
@[simp] theorem confirmClose_frame (i : StepId) (o : Operation) (s : State) :
    (confirmClose i o s).resetHeld = s.resetHeld ∧ (confirmClose i o s).clock = s.clock ∧
    (confirmClose i o s).rx = s.rx ∧ (confirmClose i o s).mu = s.mu ∧
    (confirmClose i o s).seq.yardTrip = s.seq.yardTrip ∧ (confirmClose i o s).arb.holder = s.arb.holder ∧
    (confirmClose i o s).arb.vcRequest = s.arb.vcRequest ∧ (confirmClose i o s).arb.oeRequest = s.arb.oeRequest ∧
    (confirmClose i o s).vc.auto = s.vc.auto ∧ (confirmClose i o s).vc.vctrl = s.vc.vctrl ∧
    (confirmClose i o s).vc.bandLow = s.vc.bandLow ∧ (confirmClose i o s).vc.bandHigh = s.vc.bandHigh ∧
    (confirmClose i o s).vc.fastAcc = s.vc.fastAcc ∧ (confirmClose i o s).vc.fastCondition = s.vc.fastCondition ∧
    (confirmClose i o s).vc.fastDue = s.vc.fastDue ∧ (confirmClose i o s).vc.deadAcc = s.vc.deadAcc ∧
    (confirmClose i o s).vc.deadOpened = s.vc.deadOpened ∧ (confirmClose i o s).vc.noCandidate = s.vc.noCandidate ∧
    (confirmClose i o s).hs.dv = s.hs.dv ∧ (confirmClose i o s).hs.di = s.hs.di ∧
    (confirmClose i o s).hs.vCount = s.hs.vCount ∧ (confirmClose i o s).hs.iCount = s.hs.iCount ∧
    (confirmClose i o s).hs.vActive = s.hs.vActive ∧ (confirmClose i o s).hs.iActive = s.hs.iActive ∧
    (confirmClose i o s).hs.tripCount = s.hs.tripCount ∧ (confirmClose i o s).hs.shedding = s.hs.shedding ∧
    (confirmClose i o s).oe.freeQueue = s.oe.freeQueue ∧ (confirmClose i o s).oe.posted = s.oe.posted ∧
    (confirmClose i o s).io = s.io ∧ (confirmClose i o s).link.rxBytes = s.link.rxBytes ∧
    (confirmClose i o s).link.rxBits = s.link.rxBits ∧ (confirmClose i o s).link.tx = s.link.tx ∧
    (confirmClose i o s).link.composed = s.link.composed ∧ (confirmClose i o s).link.ready = s.link.ready ∧
    (confirmClose i o s).link.overrun = s.link.overrun ∧ (confirmClose i o s).link.pubCount = s.link.pubCount ∧
    (confirmClose i o s).link.dataOut = s.link.dataOut ∧
    (confirmClose i o s).link.ignoring = s.link.ignoring ∧ (confirmClose i o s).cfg = s.cfg ∧
    (confirmClose i o s).freeDraws = s.freeDraws ∧ (confirmClose i o s).extraBits = s.extraBits ∧
    (confirmClose i o s).pending = s.pending := by
  simp [confirmClose]

/-- What `confirmOpen` leaves as it is. -/
@[simp] theorem confirmOpen_frame (i : StepId) (o : Operation) (s : State) :
    (confirmOpen i o s).resetHeld = s.resetHeld ∧ (confirmOpen i o s).clock = s.clock ∧ (confirmOpen i o s).rx = s.rx ∧
    (confirmOpen i o s).mu = s.mu ∧ (confirmOpen i o s).seq.yardTrip = s.seq.yardTrip ∧
    (confirmOpen i o s).arb.holder = s.arb.holder ∧ (confirmOpen i o s).arb.vcRequest = s.arb.vcRequest ∧
    (confirmOpen i o s).arb.oeRequest = s.arb.oeRequest ∧ (confirmOpen i o s).vc.auto = s.vc.auto ∧
    (confirmOpen i o s).vc.vctrl = s.vc.vctrl ∧ (confirmOpen i o s).vc.bandLow = s.vc.bandLow ∧
    (confirmOpen i o s).vc.bandHigh = s.vc.bandHigh ∧ (confirmOpen i o s).vc.fastAcc = s.vc.fastAcc ∧
    (confirmOpen i o s).vc.fastCondition = s.vc.fastCondition ∧ (confirmOpen i o s).vc.fastDue = s.vc.fastDue ∧
    (confirmOpen i o s).vc.deadAcc = s.vc.deadAcc ∧ (confirmOpen i o s).vc.deadOpened = s.vc.deadOpened ∧
    (confirmOpen i o s).vc.noCandidate = s.vc.noCandidate ∧ (confirmOpen i o s).hs = s.hs ∧
    (confirmOpen i o s).oe.freeQueue = s.oe.freeQueue ∧ (confirmOpen i o s).oe.posted = s.oe.posted ∧
    (confirmOpen i o s).io = s.io ∧ (confirmOpen i o s).link.rxBytes = s.link.rxBytes ∧
    (confirmOpen i o s).link.rxBits = s.link.rxBits ∧ (confirmOpen i o s).link.tx = s.link.tx ∧
    (confirmOpen i o s).link.composed = s.link.composed ∧ (confirmOpen i o s).link.ready = s.link.ready ∧
    (confirmOpen i o s).link.overrun = s.link.overrun ∧ (confirmOpen i o s).link.pubCount = s.link.pubCount ∧
    (confirmOpen i o s).link.dataOut = s.link.dataOut ∧
    (confirmOpen i o s).link.ignoring = s.link.ignoring ∧ (confirmOpen i o s).cfg = s.cfg ∧
    (confirmOpen i o s).freeDraws = s.freeDraws ∧ (confirmOpen i o s).extraBits = s.extraBits ∧
    (confirmOpen i o s).pending = s.pending := by
  simp [confirmOpen]

/-- What `judgeDelivery` leaves as it is. -/
@[simp] theorem judgeDelivery_frame (i : StepId) (p : Position) (s : State) :
    (judgeDelivery i p s).resetHeld = s.resetHeld ∧ (judgeDelivery i p s).clock = s.clock ∧
    (judgeDelivery i p s).rx = s.rx ∧ (judgeDelivery i p s).mu = s.mu ∧
    (judgeDelivery i p s).seq.yardTrip = s.seq.yardTrip ∧ (judgeDelivery i p s).arb.holder = s.arb.holder ∧
    (judgeDelivery i p s).arb.vcRequest = s.arb.vcRequest ∧ (judgeDelivery i p s).arb.oeRequest = s.arb.oeRequest ∧
    (judgeDelivery i p s).vc.auto = s.vc.auto ∧ (judgeDelivery i p s).vc.vctrl = s.vc.vctrl ∧
    (judgeDelivery i p s).vc.bandLow = s.vc.bandLow ∧ (judgeDelivery i p s).vc.bandHigh = s.vc.bandHigh ∧
    (judgeDelivery i p s).vc.fastAcc = s.vc.fastAcc ∧ (judgeDelivery i p s).vc.fastCondition = s.vc.fastCondition ∧
    (judgeDelivery i p s).vc.fastDue = s.vc.fastDue ∧ (judgeDelivery i p s).vc.deadAcc = s.vc.deadAcc ∧
    (judgeDelivery i p s).vc.deadOpened = s.vc.deadOpened ∧ (judgeDelivery i p s).vc.noCandidate = s.vc.noCandidate ∧
    (judgeDelivery i p s).hs.dv = s.hs.dv ∧ (judgeDelivery i p s).hs.di = s.hs.di ∧
    (judgeDelivery i p s).hs.vCount = s.hs.vCount ∧ (judgeDelivery i p s).hs.iCount = s.hs.iCount ∧
    (judgeDelivery i p s).hs.vActive = s.hs.vActive ∧ (judgeDelivery i p s).hs.iActive = s.hs.iActive ∧
    (judgeDelivery i p s).hs.tripCount = s.hs.tripCount ∧ (judgeDelivery i p s).hs.shedding = s.hs.shedding ∧
    (judgeDelivery i p s).oe.freeQueue = s.oe.freeQueue ∧ (judgeDelivery i p s).oe.posted = s.oe.posted ∧
    (judgeDelivery i p s).io = s.io ∧ (judgeDelivery i p s).link.rxBytes = s.link.rxBytes ∧
    (judgeDelivery i p s).link.rxBits = s.link.rxBits ∧ (judgeDelivery i p s).link.tx = s.link.tx ∧
    (judgeDelivery i p s).link.composed = s.link.composed ∧ (judgeDelivery i p s).link.ready = s.link.ready ∧
    (judgeDelivery i p s).link.overrun = s.link.overrun ∧ (judgeDelivery i p s).link.pubCount = s.link.pubCount ∧
    (judgeDelivery i p s).link.dataOut = s.link.dataOut ∧
    (judgeDelivery i p s).link.ignoring = s.link.ignoring ∧ (judgeDelivery i p s).cfg = s.cfg ∧
    (judgeDelivery i p s).freeDraws = s.freeDraws ∧ (judgeDelivery i p s).extraBits = s.extraBits ∧
    (judgeDelivery i p s).pending = s.pending := by
  unfold judgeDelivery; (repeat' split) <;> simp

/-- What `closeNoIndication` leaves as it is. -/
@[simp] theorem closeNoIndication_frame (i : StepId) (o : Operation) (s : State) :
    (closeNoIndication i o s).resetHeld = s.resetHeld ∧ (closeNoIndication i o s).clock = s.clock ∧
    (closeNoIndication i o s).rx = s.rx ∧ (closeNoIndication i o s).mu = s.mu ∧
    (closeNoIndication i o s).seq.yardTrip = s.seq.yardTrip ∧ (closeNoIndication i o s).arb.holder = s.arb.holder ∧
    (closeNoIndication i o s).arb.vcRequest = s.arb.vcRequest ∧
    (closeNoIndication i o s).arb.oeRequest = s.arb.oeRequest ∧ (closeNoIndication i o s).vc.auto = s.vc.auto ∧
    (closeNoIndication i o s).vc.vctrl = s.vc.vctrl ∧ (closeNoIndication i o s).vc.bandLow = s.vc.bandLow ∧
    (closeNoIndication i o s).vc.bandHigh = s.vc.bandHigh ∧ (closeNoIndication i o s).vc.fastAcc = s.vc.fastAcc ∧
    (closeNoIndication i o s).vc.fastCondition = s.vc.fastCondition ∧
    (closeNoIndication i o s).vc.fastDue = s.vc.fastDue ∧ (closeNoIndication i o s).vc.deadAcc = s.vc.deadAcc ∧
    (closeNoIndication i o s).vc.deadOpened = s.vc.deadOpened ∧
    (closeNoIndication i o s).vc.noCandidate = s.vc.noCandidate ∧ (closeNoIndication i o s).hs = s.hs ∧
    (closeNoIndication i o s).oe.freeQueue = s.oe.freeQueue ∧ (closeNoIndication i o s).oe.posted = s.oe.posted ∧
    (closeNoIndication i o s).io = s.io ∧ (closeNoIndication i o s).link.rxBytes = s.link.rxBytes ∧
    (closeNoIndication i o s).link.rxBits = s.link.rxBits ∧ (closeNoIndication i o s).link.tx = s.link.tx ∧
    (closeNoIndication i o s).link.composed = s.link.composed ∧ (closeNoIndication i o s).link.ready = s.link.ready ∧
    (closeNoIndication i o s).link.overrun = s.link.overrun ∧
    (closeNoIndication i o s).link.pubCount = s.link.pubCount ∧
    (closeNoIndication i o s).link.dataOut = s.link.dataOut ∧
    (closeNoIndication i o s).link.ignoring = s.link.ignoring ∧ (closeNoIndication i o s).cfg = s.cfg ∧
    (closeNoIndication i o s).freeDraws = s.freeDraws ∧ (closeNoIndication i o s).extraBits = s.extraBits ∧
    (closeNoIndication i o s).pending = s.pending := by
  simp [closeNoIndication]

/-- What `closeFailure` leaves as it is. -/
@[simp] theorem closeFailure_frame (i : StepId) (o : Operation) (s : State) :
    (closeFailure i o s).resetHeld = s.resetHeld ∧ (closeFailure i o s).clock = s.clock ∧
    (closeFailure i o s).rx = s.rx ∧ (closeFailure i o s).mu = s.mu ∧
    (closeFailure i o s).seq.yardTrip = s.seq.yardTrip ∧ (closeFailure i o s).arb.holder = s.arb.holder ∧
    (closeFailure i o s).arb.vcRequest = s.arb.vcRequest ∧ (closeFailure i o s).arb.oeRequest = s.arb.oeRequest ∧
    (closeFailure i o s).vc.auto = s.vc.auto ∧ (closeFailure i o s).vc.vctrl = s.vc.vctrl ∧
    (closeFailure i o s).vc.bandLow = s.vc.bandLow ∧ (closeFailure i o s).vc.bandHigh = s.vc.bandHigh ∧
    (closeFailure i o s).vc.fastAcc = s.vc.fastAcc ∧ (closeFailure i o s).vc.fastCondition = s.vc.fastCondition ∧
    (closeFailure i o s).vc.fastDue = s.vc.fastDue ∧ (closeFailure i o s).vc.deadAcc = s.vc.deadAcc ∧
    (closeFailure i o s).vc.deadOpened = s.vc.deadOpened ∧ (closeFailure i o s).vc.noCandidate = s.vc.noCandidate ∧
    (closeFailure i o s).hs = s.hs ∧ (closeFailure i o s).oe.freeQueue = s.oe.freeQueue ∧
    (closeFailure i o s).oe.posted = s.oe.posted ∧ (closeFailure i o s).io = s.io ∧
    (closeFailure i o s).link.rxBytes = s.link.rxBytes ∧ (closeFailure i o s).link.rxBits = s.link.rxBits ∧
    (closeFailure i o s).link.tx = s.link.tx ∧ (closeFailure i o s).link.composed = s.link.composed ∧
    (closeFailure i o s).link.ready = s.link.ready ∧ (closeFailure i o s).link.overrun = s.link.overrun ∧
    (closeFailure i o s).link.pubCount = s.link.pubCount ∧ (closeFailure i o s).link.dataOut = s.link.dataOut ∧
    (closeFailure i o s).link.ignoring = s.link.ignoring ∧
    (closeFailure i o s).cfg = s.cfg ∧ (closeFailure i o s).freeDraws = s.freeDraws ∧
    (closeFailure i o s).extraBits = s.extraBits ∧ (closeFailure i o s).pending = s.pending := by
  simp [closeFailure]

/-- What `openFailure` leaves as it is. -/
@[simp] theorem openFailure_frame (i : StepId) (o : Operation) (s : State) :
    (openFailure i o s).resetHeld = s.resetHeld ∧ (openFailure i o s).clock = s.clock ∧ (openFailure i o s).rx = s.rx ∧
    (openFailure i o s).mu = s.mu ∧ (openFailure i o s).arb.holder = s.arb.holder ∧
    (openFailure i o s).arb.vcRequest = s.arb.vcRequest ∧ (openFailure i o s).arb.oeRequest = s.arb.oeRequest ∧
    (openFailure i o s).vc.auto = s.vc.auto ∧ (openFailure i o s).vc.vctrl = s.vc.vctrl ∧
    (openFailure i o s).vc.bandLow = s.vc.bandLow ∧ (openFailure i o s).vc.bandHigh = s.vc.bandHigh ∧
    (openFailure i o s).vc.fastAcc = s.vc.fastAcc ∧ (openFailure i o s).vc.fastCondition = s.vc.fastCondition ∧
    (openFailure i o s).vc.fastDue = s.vc.fastDue ∧ (openFailure i o s).vc.deadAcc = s.vc.deadAcc ∧
    (openFailure i o s).vc.deadOpened = s.vc.deadOpened ∧ (openFailure i o s).vc.noCandidate = s.vc.noCandidate ∧
    (openFailure i o s).hs = s.hs ∧ (openFailure i o s).oe.freeQueue = s.oe.freeQueue ∧
    (openFailure i o s).oe.posted = s.oe.posted ∧ (openFailure i o s).io = s.io ∧
    (openFailure i o s).link.rxBytes = s.link.rxBytes ∧ (openFailure i o s).link.rxBits = s.link.rxBits ∧
    (openFailure i o s).link.tx = s.link.tx ∧ (openFailure i o s).link.composed = s.link.composed ∧
    (openFailure i o s).link.ready = s.link.ready ∧ (openFailure i o s).link.overrun = s.link.overrun ∧
    (openFailure i o s).link.pubCount = s.link.pubCount ∧ (openFailure i o s).link.dataOut = s.link.dataOut ∧
    (openFailure i o s).link.ignoring = s.link.ignoring ∧
    (openFailure i o s).cfg = s.cfg ∧ (openFailure i o s).freeDraws = s.freeDraws ∧
    (openFailure i o s).extraBits = s.extraBits ∧ (openFailure i o s).pending = s.pending := by
  unfold openFailure; dsimp only; (repeat' split) <;> simp

/-- What `vcWithdrawClose` leaves as it is. -/
@[simp] theorem vcWithdrawClose_frame (s : State) :
    (vcWithdrawClose s).resetHeld = s.resetHeld ∧ (vcWithdrawClose s).clock = s.clock ∧ (vcWithdrawClose s).rx = s.rx ∧
    (vcWithdrawClose s).mu = s.mu ∧ (vcWithdrawClose s).tbl = s.tbl ∧ (vcWithdrawClose s).dt = s.dt ∧
    (vcWithdrawClose s).seq.yardTrip = s.seq.yardTrip ∧ (vcWithdrawClose s).arb.holder = s.arb.holder ∧
    (vcWithdrawClose s).arb.vcRequest = s.arb.vcRequest ∧ (vcWithdrawClose s).arb.oeRequest = s.arb.oeRequest ∧
    (vcWithdrawClose s).vc.auto = s.vc.auto ∧ (vcWithdrawClose s).vc.vctrl = s.vc.vctrl ∧
    (vcWithdrawClose s).vc.bandLow = s.vc.bandLow ∧ (vcWithdrawClose s).vc.bandHigh = s.vc.bandHigh ∧
    (vcWithdrawClose s).vc.fastAcc = s.vc.fastAcc ∧ (vcWithdrawClose s).vc.fastCondition = s.vc.fastCondition ∧
    (vcWithdrawClose s).vc.fastDue = s.vc.fastDue ∧ (vcWithdrawClose s).vc.deadAcc = s.vc.deadAcc ∧
    (vcWithdrawClose s).vc.deadOpened = s.vc.deadOpened ∧ (vcWithdrawClose s).vc.noCandidate = s.vc.noCandidate ∧
    (vcWithdrawClose s).hs = s.hs ∧ (vcWithdrawClose s).ub = s.ub ∧ (vcWithdrawClose s).oe.freeQueue = s.oe.freeQueue ∧
    (vcWithdrawClose s).oe.posted = s.oe.posted ∧ (vcWithdrawClose s).io = s.io ∧ (vcWithdrawClose s).link = s.link ∧
    (vcWithdrawClose s).cfg = s.cfg ∧ (vcWithdrawClose s).freeDraws = s.freeDraws ∧
    (vcWithdrawClose s).extraBits = s.extraBits ∧ (vcWithdrawClose s).pending = s.pending := by
  unfold vcWithdrawClose; (repeat' split) <;> simp

/-- What `loseSchedule` leaves as it is. -/
@[simp] theorem loseSchedule_frame (i : StepId) (o : Operation) (s : State) :
    (loseSchedule i o s).resetHeld = s.resetHeld ∧ (loseSchedule i o s).clock = s.clock ∧
    (loseSchedule i o s).rx = s.rx ∧ (loseSchedule i o s).mu = s.mu ∧ (loseSchedule i o s).tbl = s.tbl ∧
    (loseSchedule i o s).dt = s.dt ∧ (loseSchedule i o s).seq.yardTrip = s.seq.yardTrip ∧
    (loseSchedule i o s).arb.holder = s.arb.holder ∧ (loseSchedule i o s).arb.vcRequest = s.arb.vcRequest ∧
    (loseSchedule i o s).arb.oeRequest = s.arb.oeRequest ∧ (loseSchedule i o s).vc.auto = s.vc.auto ∧
    (loseSchedule i o s).vc.vctrl = s.vc.vctrl ∧ (loseSchedule i o s).vc.bandLow = s.vc.bandLow ∧
    (loseSchedule i o s).vc.bandHigh = s.vc.bandHigh ∧ (loseSchedule i o s).vc.fastAcc = s.vc.fastAcc ∧
    (loseSchedule i o s).vc.fastCondition = s.vc.fastCondition ∧ (loseSchedule i o s).vc.fastDue = s.vc.fastDue ∧
    (loseSchedule i o s).vc.deadAcc = s.vc.deadAcc ∧ (loseSchedule i o s).vc.deadOpened = s.vc.deadOpened ∧
    (loseSchedule i o s).vc.noCandidate = s.vc.noCandidate ∧ (loseSchedule i o s).hs = s.hs ∧
    (loseSchedule i o s).ub = s.ub ∧ (loseSchedule i o s).oe.freeQueue = s.oe.freeQueue ∧
    (loseSchedule i o s).oe.posted = s.oe.posted ∧ (loseSchedule i o s).io = s.io ∧
    (loseSchedule i o s).link = s.link ∧ (loseSchedule i o s).cfg = s.cfg ∧
    (loseSchedule i o s).freeDraws = s.freeDraws ∧ (loseSchedule i o s).extraBits = s.extraBits ∧
    (loseSchedule i o s).pending = s.pending := by
  unfold loseSchedule; (repeat' split) <;> simp

/-- What `measNotice` leaves as it is. -/
@[simp] theorem measNotice_frame (frame : Word) (wave : BitVec 5) (s : State) :
    (measNotice frame wave s).resetHeld = s.resetHeld ∧ (measNotice frame wave s).clock = s.clock ∧
    (measNotice frame wave s).rx = s.rx ∧ (measNotice frame wave s).mu = s.mu ∧
    (measNotice frame wave s).seq.yardTrip = s.seq.yardTrip ∧ (measNotice frame wave s).arb.holder = s.arb.holder ∧
    (measNotice frame wave s).arb.vcRequest = s.arb.vcRequest ∧
    (measNotice frame wave s).arb.oeRequest = s.arb.oeRequest ∧ (measNotice frame wave s).vc.auto = s.vc.auto ∧
    (measNotice frame wave s).vc.vctrl = s.vc.vctrl ∧ (measNotice frame wave s).vc.bandLow = s.vc.bandLow ∧
    (measNotice frame wave s).vc.bandHigh = s.vc.bandHigh ∧ (measNotice frame wave s).vc.fastAcc = s.vc.fastAcc ∧
    (measNotice frame wave s).vc.fastCondition = s.vc.fastCondition ∧
    (measNotice frame wave s).vc.fastDue = s.vc.fastDue ∧ (measNotice frame wave s).vc.deadAcc = s.vc.deadAcc ∧
    (measNotice frame wave s).vc.deadOpened = s.vc.deadOpened ∧
    (measNotice frame wave s).vc.noCandidate = s.vc.noCandidate ∧ (measNotice frame wave s).hs.dv = s.hs.dv ∧
    (measNotice frame wave s).hs.di = s.hs.di ∧ (measNotice frame wave s).hs.vCount = s.hs.vCount ∧
    (measNotice frame wave s).hs.iCount = s.hs.iCount ∧ (measNotice frame wave s).hs.vActive = s.hs.vActive ∧
    (measNotice frame wave s).hs.iActive = s.hs.iActive ∧ (measNotice frame wave s).hs.tripCount = s.hs.tripCount ∧
    (measNotice frame wave s).hs.shedding = s.hs.shedding ∧ (measNotice frame wave s).hs.watch = s.hs.watch ∧
    (measNotice frame wave s).oe.freeQueue = s.oe.freeQueue ∧ (measNotice frame wave s).oe.posted = s.oe.posted ∧
    (measNotice frame wave s).io = s.io ∧ (measNotice frame wave s).link.rxBytes = s.link.rxBytes ∧
    (measNotice frame wave s).link.rxBits = s.link.rxBits ∧ (measNotice frame wave s).link.tx = s.link.tx ∧
    (measNotice frame wave s).link.composed = s.link.composed ∧ (measNotice frame wave s).link.ready = s.link.ready ∧
    (measNotice frame wave s).link.overrun = s.link.overrun ∧
    (measNotice frame wave s).link.pubCount = s.link.pubCount ∧
    (measNotice frame wave s).link.dataOut = s.link.dataOut ∧
    (measNotice frame wave s).link.ignoring = s.link.ignoring ∧ (measNotice frame wave s).cfg = s.cfg ∧
    (measNotice frame wave s).freeDraws = s.freeDraws ∧ (measNotice frame wave s).extraBits = s.extraBits ∧
    (measNotice frame wave s).pending = s.pending := by
  unfold measNotice; (repeat' split) <;> simp

/-- What `vcRelease` leaves as it is. -/
@[simp] theorem vcRelease_frame (s : State) :
    (vcRelease s).resetHeld = s.resetHeld ∧ (vcRelease s).clock = s.clock ∧ (vcRelease s).rx = s.rx ∧
    (vcRelease s).mu = s.mu ∧ (vcRelease s).tbl = s.tbl ∧ (vcRelease s).dt = s.dt ∧ (vcRelease s).seq = s.seq ∧
    (vcRelease s).arb = s.arb ∧ (vcRelease s).vc.auto = s.vc.auto ∧ (vcRelease s).vc.vctrl = s.vc.vctrl ∧
    (vcRelease s).vc.bandLow = s.vc.bandLow ∧ (vcRelease s).vc.bandHigh = s.vc.bandHigh ∧
    (vcRelease s).vc.lowAcc = s.vc.lowAcc ∧ (vcRelease s).vc.highAcc = s.vc.highAcc ∧
    (vcRelease s).vc.lowReached = s.vc.lowReached ∧ (vcRelease s).vc.highReached = s.vc.highReached ∧
    (vcRelease s).vc.fastAcc = s.vc.fastAcc ∧ (vcRelease s).vc.fastCondition = s.vc.fastCondition ∧
    (vcRelease s).vc.fastDue = s.vc.fastDue ∧ (vcRelease s).vc.deadAcc = s.vc.deadAcc ∧
    (vcRelease s).vc.deadOpened = s.vc.deadOpened ∧ (vcRelease s).vc.noCandidate = s.vc.noCandidate ∧
    (vcRelease s).hs = s.hs ∧ (vcRelease s).ub = s.ub ∧ (vcRelease s).oe = s.oe ∧ (vcRelease s).io = s.io ∧
    (vcRelease s).link = s.link ∧ (vcRelease s).cfg = s.cfg ∧ (vcRelease s).freeDraws = s.freeDraws ∧
    (vcRelease s).extraBits = s.extraBits ∧ (vcRelease s).pending = s.pending := by
  simp [vcRelease]

/-- What `vcOperating` leaves as it is. -/
@[simp] theorem vcOperating_frame (s : State) :
    (vcOperating s).resetHeld = s.resetHeld ∧ (vcOperating s).clock = s.clock ∧ (vcOperating s).rx = s.rx ∧
    (vcOperating s).mu = s.mu ∧ (vcOperating s).tbl = s.tbl ∧ (vcOperating s).dt = s.dt ∧ (vcOperating s).seq = s.seq ∧
    (vcOperating s).arb = s.arb ∧ (vcOperating s).vc.auto = s.vc.auto ∧ (vcOperating s).vc.vctrl = s.vc.vctrl ∧
    (vcOperating s).vc.bandLow = s.vc.bandLow ∧ (vcOperating s).vc.bandHigh = s.vc.bandHigh ∧
    (vcOperating s).vc.lowAcc = s.vc.lowAcc ∧ (vcOperating s).vc.highAcc = s.vc.highAcc ∧
    (vcOperating s).vc.lowReached = s.vc.lowReached ∧ (vcOperating s).vc.highReached = s.vc.highReached ∧
    (vcOperating s).vc.fastAcc = s.vc.fastAcc ∧ (vcOperating s).vc.fastCondition = s.vc.fastCondition ∧
    (vcOperating s).vc.fastDue = s.vc.fastDue ∧ (vcOperating s).vc.deadAcc = s.vc.deadAcc ∧
    (vcOperating s).vc.deadOpened = s.vc.deadOpened ∧ (vcOperating s).vc.noCandidate = s.vc.noCandidate ∧
    (vcOperating s).hs = s.hs ∧ (vcOperating s).ub = s.ub ∧ (vcOperating s).oe = s.oe ∧ (vcOperating s).io = s.io ∧
    (vcOperating s).link = s.link ∧ (vcOperating s).cfg = s.cfg ∧ (vcOperating s).freeDraws = s.freeDraws ∧
    (vcOperating s).extraBits = s.extraBits ∧ (vcOperating s).pending = s.pending := by
  simp [vcOperating]

/-- What `noteSelection` leaves as it is. -/
@[simp] theorem noteSelection_frame (c : Option StepId) (s : State) :
    (noteSelection c s).resetHeld = s.resetHeld ∧ (noteSelection c s).clock = s.clock ∧ (noteSelection c s).rx = s.rx ∧
    (noteSelection c s).mu = s.mu ∧ (noteSelection c s).tbl = s.tbl ∧ (noteSelection c s).dt = s.dt ∧
    (noteSelection c s).seq = s.seq ∧ (noteSelection c s).arb = s.arb ∧ (noteSelection c s).vc.auto = s.vc.auto ∧
    (noteSelection c s).vc.vctrl = s.vc.vctrl ∧ (noteSelection c s).vc.bandLow = s.vc.bandLow ∧
    (noteSelection c s).vc.bandHigh = s.vc.bandHigh ∧ (noteSelection c s).vc.lowAcc = s.vc.lowAcc ∧
    (noteSelection c s).vc.highAcc = s.vc.highAcc ∧ (noteSelection c s).vc.lowReached = s.vc.lowReached ∧
    (noteSelection c s).vc.highReached = s.vc.highReached ∧ (noteSelection c s).vc.fastAcc = s.vc.fastAcc ∧
    (noteSelection c s).vc.fastCondition = s.vc.fastCondition ∧ (noteSelection c s).vc.fastDue = s.vc.fastDue ∧
    (noteSelection c s).vc.deadAcc = s.vc.deadAcc ∧ (noteSelection c s).vc.deadOpened = s.vc.deadOpened ∧
    (noteSelection c s).vc.request = s.vc.request ∧ (noteSelection c s).hs = s.hs ∧ (noteSelection c s).ub = s.ub ∧
    (noteSelection c s).oe = s.oe ∧ (noteSelection c s).io = s.io ∧ (noteSelection c s).link = s.link ∧
    (noteSelection c s).cfg = s.cfg ∧ (noteSelection c s).freeDraws = s.freeDraws ∧
    (noteSelection c s).extraBits = s.extraBits ∧ (noteSelection c s).pending = s.pending := by
  simp [noteSelection]

/-- What `vcGranted` leaves as it is. -/
@[simp] theorem vcGranted_frame (s : State) :
    (vcGranted s).resetHeld = s.resetHeld ∧ (vcGranted s).clock = s.clock ∧ (vcGranted s).rx = s.rx ∧
    (vcGranted s).mu = s.mu ∧ (vcGranted s).seq.yardTrip = s.seq.yardTrip ∧ (vcGranted s).arb.holder = s.arb.holder ∧
    (vcGranted s).arb.vcRequest = s.arb.vcRequest ∧ (vcGranted s).arb.oeRequest = s.arb.oeRequest ∧
    (vcGranted s).vc.auto = s.vc.auto ∧ (vcGranted s).vc.vctrl = s.vc.vctrl ∧ (vcGranted s).vc.bandLow = s.vc.bandLow ∧
    (vcGranted s).vc.bandHigh = s.vc.bandHigh ∧ (vcGranted s).vc.fastAcc = s.vc.fastAcc ∧
    (vcGranted s).vc.fastCondition = s.vc.fastCondition ∧ (vcGranted s).vc.deadAcc = s.vc.deadAcc ∧
    (vcGranted s).vc.deadOpened = s.vc.deadOpened ∧ (vcGranted s).hs.dv = s.hs.dv ∧ (vcGranted s).hs.di = s.hs.di ∧
    (vcGranted s).hs.vCount = s.hs.vCount ∧ (vcGranted s).hs.iCount = s.hs.iCount ∧
    (vcGranted s).hs.vActive = s.hs.vActive ∧ (vcGranted s).hs.iActive = s.hs.iActive ∧
    (vcGranted s).hs.tripCount = s.hs.tripCount ∧ (vcGranted s).hs.shedding = s.hs.shedding ∧
    (vcGranted s).hs.watch = s.hs.watch ∧ (vcGranted s).oe.freeQueue = s.oe.freeQueue ∧
    (vcGranted s).oe.posted = s.oe.posted ∧ (vcGranted s).io = s.io ∧ (vcGranted s).link.rxBytes = s.link.rxBytes ∧
    (vcGranted s).link.rxBits = s.link.rxBits ∧ (vcGranted s).link.tx = s.link.tx ∧
    (vcGranted s).link.composed = s.link.composed ∧ (vcGranted s).link.ready = s.link.ready ∧
    (vcGranted s).link.overrun = s.link.overrun ∧ (vcGranted s).link.pubCount = s.link.pubCount ∧
    (vcGranted s).link.dataOut = s.link.dataOut ∧
    (vcGranted s).link.ignoring = s.link.ignoring ∧ (vcGranted s).cfg = s.cfg ∧ (vcGranted s).freeDraws = s.freeDraws ∧
    (vcGranted s).extraBits = s.extraBits ∧ (vcGranted s).pending = s.pending := by
  unfold vcGranted; dsimp only; (repeat' split) <;> simp

/-- What `leavePosted` leaves as it is. -/
@[simp] theorem leavePosted_frame (i : SlotId) (s : State) :
    (leavePosted i s).resetHeld = s.resetHeld ∧ (leavePosted i s).clock = s.clock ∧ (leavePosted i s).rx = s.rx ∧
    (leavePosted i s).mu = s.mu ∧ (leavePosted i s).tbl = s.tbl ∧ (leavePosted i s).dt = s.dt ∧
    (leavePosted i s).seq = s.seq ∧ (leavePosted i s).arb = s.arb ∧ (leavePosted i s).vc = s.vc ∧
    (leavePosted i s).hs = s.hs ∧ (leavePosted i s).ub = s.ub ∧ (leavePosted i s).oe.freeQueue = s.oe.freeQueue ∧
    (leavePosted i s).oe.executing = s.oe.executing ∧ (leavePosted i s).io = s.io ∧ (leavePosted i s).link = s.link ∧
    (leavePosted i s).cfg = s.cfg ∧ (leavePosted i s).freeDraws = s.freeDraws ∧
    (leavePosted i s).extraBits = s.extraBits ∧ (leavePosted i s).pending = s.pending := by
  simp [leavePosted]

/-- What `beginExecuting` leaves as it is. -/
@[simp] theorem beginExecuting_frame (i : SlotId) (s : State) :
    (beginExecuting i s).resetHeld = s.resetHeld ∧ (beginExecuting i s).clock = s.clock ∧
    (beginExecuting i s).rx = s.rx ∧ (beginExecuting i s).mu = s.mu ∧ (beginExecuting i s).tbl = s.tbl ∧
    (beginExecuting i s).dt = s.dt ∧ (beginExecuting i s).seq = s.seq ∧ (beginExecuting i s).arb = s.arb ∧
    (beginExecuting i s).vc = s.vc ∧ (beginExecuting i s).hs = s.hs ∧ (beginExecuting i s).ub = s.ub ∧
    (beginExecuting i s).oe.freeQueue = s.oe.freeQueue ∧ (beginExecuting i s).oe.posted = s.oe.posted ∧
    (beginExecuting i s).io = s.io ∧ (beginExecuting i s).link = s.link ∧ (beginExecuting i s).cfg = s.cfg ∧
    (beginExecuting i s).freeDraws = s.freeDraws ∧ (beginExecuting i s).extraBits = s.extraBits ∧
    (beginExecuting i s).pending = s.pending := by
  simp [beginExecuting]

/-- What `runHold` leaves as it is. -/
@[simp] theorem runHold_frame (st : StepId) (s : State) :
    (runHold st s).resetHeld = s.resetHeld ∧ (runHold st s).clock = s.clock ∧ (runHold st s).rx = s.rx ∧
    (runHold st s).mu = s.mu ∧ (runHold st s).tbl.closedOrder = s.tbl.closedOrder ∧ (runHold st s).dt = s.dt ∧
    (runHold st s).seq = s.seq ∧ (runHold st s).arb = s.arb ∧ (runHold st s).vc = s.vc ∧ (runHold st s).hs = s.hs ∧
    (runHold st s).ub = s.ub ∧ (runHold st s).oe = s.oe ∧ (runHold st s).io = s.io ∧ (runHold st s).link = s.link ∧
    (runHold st s).cfg = s.cfg ∧ (runHold st s).freeDraws = s.freeDraws ∧ (runHold st s).extraBits = s.extraBits ∧
    (runHold st s).pending = s.pending := by
  simp [runHold]

/-- What `runRelease` leaves as it is. -/
@[simp] theorem runRelease_frame (st : StepId) (s : State) :
    (runRelease st s).resetHeld = s.resetHeld ∧ (runRelease st s).clock = s.clock ∧ (runRelease st s).rx = s.rx ∧
    (runRelease st s).mu = s.mu ∧ (runRelease st s).tbl.closedOrder = s.tbl.closedOrder ∧ (runRelease st s).dt = s.dt ∧
    (runRelease st s).seq = s.seq ∧ (runRelease st s).arb = s.arb ∧ (runRelease st s).vc = s.vc ∧
    (runRelease st s).hs = s.hs ∧ (runRelease st s).ub = s.ub ∧ (runRelease st s).oe = s.oe ∧
    (runRelease st s).io = s.io ∧ (runRelease st s).link = s.link ∧ (runRelease st s).cfg = s.cfg ∧
    (runRelease st s).freeDraws = s.freeDraws ∧ (runRelease st s).extraBits = s.extraBits ∧
    (runRelease st s).pending = s.pending := by
  simp [runRelease]

/-- What `runResetLockout` leaves as it is. -/
@[simp] theorem runResetLockout_frame (st : StepId) (s : State) :
    (runResetLockout st s).resetHeld = s.resetHeld ∧ (runResetLockout st s).clock = s.clock ∧
    (runResetLockout st s).rx = s.rx ∧ (runResetLockout st s).mu = s.mu ∧
    (runResetLockout st s).tbl.closedOrder = s.tbl.closedOrder ∧ (runResetLockout st s).dt = s.dt ∧
    (runResetLockout st s).seq = s.seq ∧ (runResetLockout st s).arb = s.arb ∧ (runResetLockout st s).vc = s.vc ∧
    (runResetLockout st s).hs = s.hs ∧ (runResetLockout st s).oe.freeQueue = s.oe.freeQueue ∧
    (runResetLockout st s).oe.posted = s.oe.posted ∧ (runResetLockout st s).io = s.io ∧
    (runResetLockout st s).link.rxBytes = s.link.rxBytes ∧ (runResetLockout st s).link.rxBits = s.link.rxBits ∧
    (runResetLockout st s).link.tx = s.link.tx ∧ (runResetLockout st s).link.composed = s.link.composed ∧
    (runResetLockout st s).link.ready = s.link.ready ∧ (runResetLockout st s).link.overrun = s.link.overrun ∧
    (runResetLockout st s).link.pubCount = s.link.pubCount ∧ (runResetLockout st s).link.dataOut = s.link.dataOut ∧
    (runResetLockout st s).link.ignoring = s.link.ignoring ∧
    (runResetLockout st s).cfg = s.cfg ∧ (runResetLockout st s).freeDraws = s.freeDraws ∧
    (runResetLockout st s).extraBits = s.extraBits ∧ (runResetLockout st s).pending = s.pending := by
  unfold runResetLockout; dsimp only; (repeat' split) <;> simp

/-- What `runRetire` leaves as it is. -/
@[simp] theorem runRetire_frame (st : StepId) (s : State) :
    (runRetire st s).resetHeld = s.resetHeld ∧ (runRetire st s).clock = s.clock ∧ (runRetire st s).rx = s.rx ∧
    (runRetire st s).mu = s.mu ∧ (runRetire st s).tbl.closedOrder = s.tbl.closedOrder ∧ (runRetire st s).dt = s.dt ∧
    (runRetire st s).seq.yardTrip = s.seq.yardTrip ∧ (runRetire st s).arb.holder = s.arb.holder ∧
    (runRetire st s).arb.vcRequest = s.arb.vcRequest ∧ (runRetire st s).arb.oeRequest = s.arb.oeRequest ∧
    (runRetire st s).vc.auto = s.vc.auto ∧ (runRetire st s).vc.vctrl = s.vc.vctrl ∧
    (runRetire st s).vc.bandLow = s.vc.bandLow ∧ (runRetire st s).vc.bandHigh = s.vc.bandHigh ∧
    (runRetire st s).vc.fastAcc = s.vc.fastAcc ∧ (runRetire st s).vc.fastCondition = s.vc.fastCondition ∧
    (runRetire st s).vc.fastDue = s.vc.fastDue ∧ (runRetire st s).vc.deadAcc = s.vc.deadAcc ∧
    (runRetire st s).vc.deadOpened = s.vc.deadOpened ∧ (runRetire st s).vc.noCandidate = s.vc.noCandidate ∧
    (runRetire st s).hs = s.hs ∧ (runRetire st s).ub = s.ub ∧ (runRetire st s).oe.freeQueue = s.oe.freeQueue ∧
    (runRetire st s).oe.posted = s.oe.posted ∧ (runRetire st s).io = s.io ∧ (runRetire st s).link = s.link ∧
    (runRetire st s).cfg = s.cfg ∧ (runRetire st s).freeDraws = s.freeDraws ∧
    (runRetire st s).extraBits = s.extraBits ∧ (runRetire st s).pending = s.pending := by
  simp [runRetire]

/-- What `runReinstate` leaves as it is. -/
@[simp] theorem runReinstate_frame (st : StepId) (s : State) :
    (runReinstate st s).resetHeld = s.resetHeld ∧ (runReinstate st s).clock = s.clock ∧ (runReinstate st s).rx = s.rx ∧
    (runReinstate st s).mu = s.mu ∧ (runReinstate st s).tbl.closedOrder = s.tbl.closedOrder ∧
    (runReinstate st s).seq.yardTrip = s.seq.yardTrip ∧ (runReinstate st s).arb.holder = s.arb.holder ∧
    (runReinstate st s).arb.vcRequest = s.arb.vcRequest ∧ (runReinstate st s).arb.oeRequest = s.arb.oeRequest ∧
    (runReinstate st s).vc.auto = s.vc.auto ∧ (runReinstate st s).vc.vctrl = s.vc.vctrl ∧
    (runReinstate st s).vc.bandLow = s.vc.bandLow ∧ (runReinstate st s).vc.bandHigh = s.vc.bandHigh ∧
    (runReinstate st s).vc.fastAcc = s.vc.fastAcc ∧ (runReinstate st s).vc.fastCondition = s.vc.fastCondition ∧
    (runReinstate st s).vc.fastDue = s.vc.fastDue ∧ (runReinstate st s).vc.deadAcc = s.vc.deadAcc ∧
    (runReinstate st s).vc.deadOpened = s.vc.deadOpened ∧ (runReinstate st s).vc.noCandidate = s.vc.noCandidate ∧
    (runReinstate st s).hs = s.hs ∧ (runReinstate st s).ub = s.ub ∧ (runReinstate st s).oe.freeQueue = s.oe.freeQueue ∧
    (runReinstate st s).oe.posted = s.oe.posted ∧ (runReinstate st s).io = s.io ∧ (runReinstate st s).link = s.link ∧
    (runReinstate st s).cfg = s.cfg ∧ (runReinstate st s).freeDraws = s.freeDraws ∧
    (runReinstate st s).extraBits = s.extraBits ∧ (runReinstate st s).pending = s.pending := by
  simp [runReinstate]

/-- What `runLearn` leaves as it is. -/
@[simp] theorem runLearn_frame (st : StepId) (s : State) :
    (runLearn st s).resetHeld = s.resetHeld ∧ (runLearn st s).clock = s.clock ∧ (runLearn st s).rx = s.rx ∧
    (runLearn st s).mu = s.mu ∧ (runLearn st s).tbl = s.tbl ∧ (runLearn st s).dt = s.dt ∧ (runLearn st s).seq = s.seq ∧
    (runLearn st s).arb = s.arb ∧ (runLearn st s).vc = s.vc ∧ (runLearn st s).hs = s.hs ∧ (runLearn st s).oe = s.oe ∧
    (runLearn st s).io = s.io ∧ (runLearn st s).link = s.link ∧ (runLearn st s).cfg = s.cfg ∧
    (runLearn st s).freeDraws = s.freeDraws ∧ (runLearn st s).extraBits = s.extraBits ∧
    (runLearn st s).pending = s.pending := by
  simp [runLearn]

/-- What `runRightFree` leaves as it is. -/
@[simp] theorem runRightFree_frame (x : StartItem) (s : State) :
    (runRightFree x s).resetHeld = s.resetHeld ∧ (runRightFree x s).clock = s.clock ∧ (runRightFree x s).rx = s.rx ∧
    (runRightFree x s).mu = s.mu ∧ (runRightFree x s).tbl.closedOrder = s.tbl.closedOrder ∧
    (runRightFree x s).seq.yardTrip = s.seq.yardTrip ∧ (runRightFree x s).arb.holder = s.arb.holder ∧
    (runRightFree x s).arb.vcRequest = s.arb.vcRequest ∧ (runRightFree x s).arb.oeRequest = s.arb.oeRequest ∧
    (runRightFree x s).vc.auto = s.vc.auto ∧ (runRightFree x s).vc.vctrl = s.vc.vctrl ∧
    (runRightFree x s).vc.bandLow = s.vc.bandLow ∧ (runRightFree x s).vc.bandHigh = s.vc.bandHigh ∧
    (runRightFree x s).vc.fastAcc = s.vc.fastAcc ∧ (runRightFree x s).vc.fastCondition = s.vc.fastCondition ∧
    (runRightFree x s).vc.fastDue = s.vc.fastDue ∧ (runRightFree x s).vc.deadAcc = s.vc.deadAcc ∧
    (runRightFree x s).vc.deadOpened = s.vc.deadOpened ∧ (runRightFree x s).vc.noCandidate = s.vc.noCandidate ∧
    (runRightFree x s).hs = s.hs ∧ (runRightFree x s).oe.freeQueue = s.oe.freeQueue ∧
    (runRightFree x s).oe.posted = s.oe.posted ∧ (runRightFree x s).io = s.io ∧
    (runRightFree x s).link.rxBytes = s.link.rxBytes ∧ (runRightFree x s).link.rxBits = s.link.rxBits ∧
    (runRightFree x s).link.tx = s.link.tx ∧ (runRightFree x s).link.composed = s.link.composed ∧
    (runRightFree x s).link.ready = s.link.ready ∧ (runRightFree x s).link.overrun = s.link.overrun ∧
    (runRightFree x s).link.pubCount = s.link.pubCount ∧ (runRightFree x s).link.dataOut = s.link.dataOut ∧
    (runRightFree x s).link.ignoring = s.link.ignoring ∧
    (runRightFree x s).cfg = s.cfg ∧ (runRightFree x s).freeDraws = s.freeDraws ∧
    (runRightFree x s).extraBits = s.extraBits ∧ (runRightFree x s).pending = s.pending := by
  unfold runRightFree; (repeat' split) <;> simp

/-- What `startRightFree` leaves as it is. -/
@[simp] theorem startRightFree_frame (x : StartItem) (s : State) :
    (startRightFree x s).resetHeld = s.resetHeld ∧ (startRightFree x s).clock = s.clock ∧
    (startRightFree x s).rx = s.rx ∧ (startRightFree x s).mu = s.mu ∧
    (startRightFree x s).tbl.closedOrder = s.tbl.closedOrder ∧ (startRightFree x s).seq.yardTrip = s.seq.yardTrip ∧
    (startRightFree x s).arb.holder = s.arb.holder ∧ (startRightFree x s).arb.vcRequest = s.arb.vcRequest ∧
    (startRightFree x s).arb.oeRequest = s.arb.oeRequest ∧ (startRightFree x s).vc.auto = s.vc.auto ∧
    (startRightFree x s).vc.vctrl = s.vc.vctrl ∧ (startRightFree x s).vc.bandLow = s.vc.bandLow ∧
    (startRightFree x s).vc.bandHigh = s.vc.bandHigh ∧ (startRightFree x s).vc.fastAcc = s.vc.fastAcc ∧
    (startRightFree x s).vc.fastCondition = s.vc.fastCondition ∧ (startRightFree x s).vc.fastDue = s.vc.fastDue ∧
    (startRightFree x s).vc.deadAcc = s.vc.deadAcc ∧ (startRightFree x s).vc.deadOpened = s.vc.deadOpened ∧
    (startRightFree x s).vc.noCandidate = s.vc.noCandidate ∧ (startRightFree x s).hs = s.hs ∧
    (startRightFree x s).oe.freeQueue = s.oe.freeQueue ∧ (startRightFree x s).io = s.io ∧
    (startRightFree x s).link.rxBytes = s.link.rxBytes ∧ (startRightFree x s).link.rxBits = s.link.rxBits ∧
    (startRightFree x s).link.tx = s.link.tx ∧ (startRightFree x s).link.composed = s.link.composed ∧
    (startRightFree x s).link.ready = s.link.ready ∧ (startRightFree x s).link.overrun = s.link.overrun ∧
    (startRightFree x s).link.pubCount = s.link.pubCount ∧ (startRightFree x s).link.dataOut = s.link.dataOut ∧
    (startRightFree x s).link.ignoring = s.link.ignoring ∧
    (startRightFree x s).cfg = s.cfg ∧ (startRightFree x s).freeDraws = s.freeDraws ∧
    (startRightFree x s).extraBits = s.extraBits ∧ (startRightFree x s).pending = s.pending := by
  unfold startRightFree; dsimp only; (repeat' split) <;> simp

/-- What `handOver` leaves as it is. -/
@[simp] theorem handOver_frame (x : StartItem) (s : State) :
    (handOver x s).resetHeld = s.resetHeld ∧ (handOver x s).clock = s.clock ∧ (handOver x s).rx = s.rx ∧
    (handOver x s).mu = s.mu ∧ (handOver x s).seq.yardTrip = s.seq.yardTrip ∧
    (handOver x s).arb.holder = s.arb.holder ∧ (handOver x s).arb.vcRequest = s.arb.vcRequest ∧
    (handOver x s).arb.oeRequest = s.arb.oeRequest ∧ (handOver x s).vc.auto = s.vc.auto ∧
    (handOver x s).vc.vctrl = s.vc.vctrl ∧ (handOver x s).vc.bandLow = s.vc.bandLow ∧
    (handOver x s).vc.bandHigh = s.vc.bandHigh ∧ (handOver x s).vc.fastAcc = s.vc.fastAcc ∧
    (handOver x s).vc.fastCondition = s.vc.fastCondition ∧ (handOver x s).vc.fastDue = s.vc.fastDue ∧
    (handOver x s).vc.deadAcc = s.vc.deadAcc ∧ (handOver x s).vc.deadOpened = s.vc.deadOpened ∧
    (handOver x s).vc.noCandidate = s.vc.noCandidate ∧ (handOver x s).hs.dv = s.hs.dv ∧
    (handOver x s).hs.di = s.hs.di ∧ (handOver x s).hs.vCount = s.hs.vCount ∧ (handOver x s).hs.iCount = s.hs.iCount ∧
    (handOver x s).hs.vActive = s.hs.vActive ∧ (handOver x s).hs.iActive = s.hs.iActive ∧
    (handOver x s).hs.tripCount = s.hs.tripCount ∧ (handOver x s).hs.shedding = s.hs.shedding ∧
    (handOver x s).hs.watch = s.hs.watch ∧ (handOver x s).oe.freeQueue = s.oe.freeQueue ∧
    (handOver x s).oe.posted = s.oe.posted ∧ (handOver x s).io = s.io ∧ (handOver x s).link.rxBytes = s.link.rxBytes ∧
    (handOver x s).link.rxBits = s.link.rxBits ∧ (handOver x s).link.tx = s.link.tx ∧
    (handOver x s).link.composed = s.link.composed ∧ (handOver x s).link.ready = s.link.ready ∧
    (handOver x s).link.overrun = s.link.overrun ∧ (handOver x s).link.pubCount = s.link.pubCount ∧
    (handOver x s).link.dataOut = s.link.dataOut ∧
    (handOver x s).link.ignoring = s.link.ignoring ∧ (handOver x s).cfg = s.cfg ∧
    (handOver x s).freeDraws = s.freeDraws ∧ (handOver x s).extraBits = s.extraBits ∧
    (handOver x s).pending = s.pending := by
  unfold handOver; (repeat' split) <;> simp

/-- What `placeOrdinary` leaves as it is. -/
@[simp] theorem placeOrdinary_frame (s : State) :
    (placeOrdinary s).resetHeld = s.resetHeld ∧ (placeOrdinary s).clock = s.clock ∧ (placeOrdinary s).rx = s.rx ∧
    (placeOrdinary s).mu = s.mu ∧ (placeOrdinary s).tbl = s.tbl ∧ (placeOrdinary s).dt = s.dt ∧
    (placeOrdinary s).seq = s.seq ∧ (placeOrdinary s).arb.holder = s.arb.holder ∧
    (placeOrdinary s).arb.busy = s.arb.busy ∧ (placeOrdinary s).arb.oeRequest = s.arb.oeRequest ∧
    (placeOrdinary s).vc = s.vc ∧ (placeOrdinary s).hs = s.hs ∧ (placeOrdinary s).ub = s.ub ∧
    (placeOrdinary s).oe = s.oe ∧ (placeOrdinary s).io = s.io ∧ (placeOrdinary s).link = s.link ∧
    (placeOrdinary s).cfg = s.cfg ∧ (placeOrdinary s).freeDraws = s.freeDraws ∧
    (placeOrdinary s).extraBits = s.extraBits ∧ (placeOrdinary s).pending = s.pending := by
  simp [placeOrdinary]

/-- What `placeUrgent` leaves as it is. -/
@[simp] theorem placeUrgent_frame (s : State) :
    (placeUrgent s).resetHeld = s.resetHeld ∧ (placeUrgent s).clock = s.clock ∧ (placeUrgent s).rx = s.rx ∧
    (placeUrgent s).mu = s.mu ∧ (placeUrgent s).tbl = s.tbl ∧ (placeUrgent s).dt = s.dt ∧ (placeUrgent s).seq = s.seq ∧
    (placeUrgent s).arb.holder = s.arb.holder ∧ (placeUrgent s).arb.oeRequest = s.arb.oeRequest ∧
    (placeUrgent s).vc = s.vc ∧ (placeUrgent s).hs = s.hs ∧ (placeUrgent s).ub = s.ub ∧ (placeUrgent s).oe = s.oe ∧
    (placeUrgent s).io = s.io ∧ (placeUrgent s).link = s.link ∧ (placeUrgent s).cfg = s.cfg ∧
    (placeUrgent s).freeDraws = s.freeDraws ∧ (placeUrgent s).extraBits = s.extraBits ∧
    (placeUrgent s).pending = s.pending := by
  simp [placeUrgent]

/-- What `withdrawVc` leaves as it is. -/
@[simp] theorem withdrawVc_frame (s : State) :
    (withdrawVc s).resetHeld = s.resetHeld ∧ (withdrawVc s).clock = s.clock ∧ (withdrawVc s).rx = s.rx ∧
    (withdrawVc s).mu = s.mu ∧ (withdrawVc s).tbl = s.tbl ∧ (withdrawVc s).dt = s.dt ∧ (withdrawVc s).seq = s.seq ∧
    (withdrawVc s).arb.holder = s.arb.holder ∧ (withdrawVc s).arb.busy = s.arb.busy ∧
    (withdrawVc s).arb.oeRequest = s.arb.oeRequest ∧ (withdrawVc s).vc = s.vc ∧ (withdrawVc s).hs = s.hs ∧
    (withdrawVc s).ub = s.ub ∧ (withdrawVc s).oe = s.oe ∧ (withdrawVc s).io = s.io ∧ (withdrawVc s).link = s.link ∧
    (withdrawVc s).cfg = s.cfg ∧ (withdrawVc s).freeDraws = s.freeDraws ∧ (withdrawVc s).extraBits = s.extraBits ∧
    (withdrawVc s).pending = s.pending := by
  simp [withdrawVc]

end Sys2Proof.Laws
end

