-- ==== Sys2Proof/Laws/Settle.lean ====
section
/-! SUPPORT. What `settle`, the consequences of an event for orders and the switching right, leaves as it
is, and that it does nothing where no order waits and no request stands. -/

namespace Sys2Proof.Laws

open Sys2Proof.Machine

/-- The figures that no start of an order, no grant and no operation handed over ever changes. -/
def Untouched (s t : State) : Prop :=
  t.resetHeld = s.resetHeld ∧ t.clock = s.clock ∧ t.rx = s.rx ∧ t.mu = s.mu ∧ t.io = s.io ∧ t.cfg = s.cfg ∧
  t.freeDraws = s.freeDraws ∧
    t.extraBits = s.extraBits ∧ t.pending = s.pending ∧ t.seq.yardTrip = s.seq.yardTrip ∧
  t.oe.freeQueue = s.oe.freeQueue ∧ t.vc.auto = s.vc.auto ∧ t.vc.vctrl = s.vc.vctrl ∧
    t.vc.bandLow = s.vc.bandLow ∧ t.vc.bandHigh = s.vc.bandHigh ∧ t.vc.fastAcc = s.vc.fastAcc ∧
  t.vc.fastCondition = s.vc.fastCondition ∧ t.vc.deadAcc = s.vc.deadAcc ∧ t.vc.deadOpened = s.vc.deadOpened ∧
  t.hs.dv = s.hs.dv ∧ t.hs.di = s.hs.di ∧ t.hs.vCount = s.hs.vCount ∧ t.hs.iCount = s.hs.iCount ∧
  t.hs.vActive = s.hs.vActive ∧ t.hs.iActive = s.hs.iActive ∧ t.hs.tripCount = s.hs.tripCount ∧
  t.hs.shedding = s.hs.shedding ∧ t.hs.watch = s.hs.watch ∧
  t.link.rxBytes = s.link.rxBytes ∧ t.link.rxBits = s.link.rxBits ∧ t.link.tx = s.link.tx ∧
  t.link.composed = s.link.composed ∧ t.link.ready = s.link.ready ∧ t.link.overrun = s.link.overrun ∧
  t.link.pubCount = s.link.pubCount ∧ t.link.dataOut = s.link.dataOut ∧
    t.link.ignoring = s.link.ignoring

theorem Untouched.refl (s : State) : Untouched s s := by simp [Untouched]

theorem Untouched.trans {s t u : State} (a : Untouched s t) (b : Untouched t u) : Untouched s u := by
  simp only [Untouched] at *
  simp_all

theorem startRightFree_untouched (x : StartItem) (s : State) : Untouched s (startRightFree x s) := by
  simp [Untouched]

theorem startFree_untouched (n : Nat) (s : State) : Untouched s (startFree n s) := by
  induction n generalizing s with
  | zero => exact .refl s
  | succ n ih =>
    simp only [startFree]
    split
    · exact .refl s
    · split
      · exact .refl s
      · exact (startRightFree_untouched _ s).trans (ih _)

theorem reexamine_untouched (s : State) : Untouched s (reexamine s) :=
  (startFree_untouched s.oe.posted.length s).trans (by simp [reexamine, Untouched])

theorem oeGranted_untouched (n : Nat) (s : State) : Untouched s (oeGranted n s) := by
  induction n generalizing s with
  | zero => exact .refl s
  | succ n ih =>
    simp only [oeGranted]
    split
    · exact .refl s
    · split
      · exact .refl s
      · split
        · exact Untouched.trans (by simp [Untouched]) (ih _)
        · simp [Untouched]

theorem grant_untouched (w : Winner) (s : State) : Untouched s (grant w s) := by
  cases w with
  | vc => simp [grant, Untouched]
  | oe => exact Untouched.trans (by simp [Untouched]) (oeGranted_untouched _ _)

theorem settleLoop_untouched (n : Nat) (s : State) : Untouched s (settleLoop n s) := by
  induction n generalizing s with
  | zero => exact .refl s
  | succ n ih =>
    simp only [settleLoop]
    split
    · exact reexamine_untouched s
    · exact (reexamine_untouched s).trans ((grant_untouched _ _).trans (ih _))

/-- The consequences of an event for orders and the right leave these figures. -/
theorem settle_untouched (s : State) : Untouched s (settle s) := settleLoop_untouched _ s

/-- The same, field by field, for the simplifier. -/
@[simp] theorem settle_frame (s : State) :
    (settle s).resetHeld = s.resetHeld ∧ (settle s).clock = s.clock ∧ (settle s).rx = s.rx ∧ (settle s).mu = s.mu ∧
    (settle s).io = s.io ∧ (settle s).cfg = s.cfg ∧ (settle s).freeDraws = s.freeDraws ∧
    (settle s).extraBits = s.extraBits ∧
    (settle s).pending = s.pending ∧ (settle s).seq.yardTrip = s.seq.yardTrip ∧
    (settle s).oe.freeQueue = s.oe.freeQueue ∧ (settle s).vc.auto = s.vc.auto ∧ (settle s).vc.vctrl = s.vc.vctrl ∧
    (settle s).vc.bandLow = s.vc.bandLow ∧ (settle s).vc.bandHigh = s.vc.bandHigh ∧
    (settle s).vc.fastAcc = s.vc.fastAcc ∧ (settle s).vc.fastCondition = s.vc.fastCondition ∧
    (settle s).vc.deadAcc = s.vc.deadAcc ∧ (settle s).vc.deadOpened = s.vc.deadOpened ∧
    (settle s).hs.dv = s.hs.dv ∧ (settle s).hs.di = s.hs.di ∧ (settle s).hs.vCount = s.hs.vCount ∧
    (settle s).hs.iCount = s.hs.iCount ∧ (settle s).hs.vActive = s.hs.vActive ∧
    (settle s).hs.iActive = s.hs.iActive ∧ (settle s).hs.tripCount = s.hs.tripCount ∧
    (settle s).hs.shedding = s.hs.shedding ∧ (settle s).hs.watch = s.hs.watch ∧
    (settle s).link.rxBytes = s.link.rxBytes ∧ (settle s).link.rxBits = s.link.rxBits ∧
    (settle s).link.tx = s.link.tx ∧ (settle s).link.composed = s.link.composed ∧
    (settle s).link.ready = s.link.ready ∧ (settle s).link.overrun = s.link.overrun ∧
    (settle s).link.pubCount = s.link.pubCount ∧ (settle s).link.dataOut = s.link.dataOut ∧
    (settle s).link.ignoring = s.link.ignoring := settle_untouched s

/-- Where no order is posted, no request stands and the engine has none to place, nothing follows. -/
theorem settle_of_quiet (s : State) (h1 : s.oe.posted = []) (h2 : s.arb.vcRequest = .absent)
    (h3 : s.arb.oeRequest = false) : settle s = s := by
  have hw : wantsRight s = false := by simp [wantsRight, h1, oldestStartable]
  have hr : reexamine s = s := by
    cases s with | mk a b c d e f g arb i j k l m n o p q r =>
    cases arb
    simp_all [reexamine, startFree]
  have hn : winner s.arb = none := by simp [winner, h2, h3]
  simp [settle, settleLoop, hr, hn]

end Sys2Proof.Laws
end

