-- ==== Sys2Proof/Laws/Link.lean ====
section
/-! SUPPORT. What the taking of a request does around the request's own work. -/

namespace Sys2Proof.Laws

open Sys2Proof.Machine

/-- Outside reset a command has its effect. -/
@[simp] theorem live_running (s : State) (f : State → State) (h : s.resetHeld = false) : live s f = .next (f s) := by
  simp [live, h]

/-- While RESET is held a command has none. -/
@[simp] theorem live_held (s : State) (f : State → State) (h : s.resetHeld = true) : live s f = .next s := by
  simp [live, h]

/-- A request taken while READY is high: its work is done on the state that consumed the loaded response. -/
theorem takeRequest_ready (code tag : Byte) (h : Handler) (s : State) (g : s.link.ignoring = false)
    (r : s.link.ready = true) : takeRequest code tag h s = compose code tag (h (consume s)) := by
  simp [takeRequest, g, r]

/-- A frame while READY is low. -/
theorem takeRequest_busy (code tag : Byte) (h : Handler) (s : State) (g : s.link.ignoring = false)
    (r : s.link.ready = false) : takeRequest code tag h s = filler s := by
  simp [takeRequest, g, r]

/-- A frame begun before the release of RESET. -/
theorem takeRequest_ignoring (code tag : Byte) (h : Handler) (s : State) (g : s.link.ignoring = true) :
    takeRequest code tag h s = ignoreComplete s := by
  simp [takeRequest, g]

/-- What the consumption of the loaded response leaves as it is. -/
@[simp] theorem consume_frame (s : State) :
    (consume s).resetHeld = s.resetHeld ∧ (consume s).clock = s.clock ∧ (consume s).rx = s.rx ∧ (consume s).mu = s.mu ∧
    (consume s).tbl = s.tbl ∧ (consume s).dt = s.dt ∧ (consume s).seq = s.seq ∧ (consume s).arb = s.arb ∧
    (consume s).vc = s.vc ∧ (consume s).hs = s.hs ∧ (consume s).ub = s.ub ∧ (consume s).oe = s.oe ∧
    (consume s).io = s.io ∧ (consume s).link.tx = s.link.tx ∧ (consume s).link.composed = s.link.composed ∧
    (consume s).link.pubCount = s.link.pubCount ∧ (consume s).link.alarms = s.link.alarms ∧
    (consume s).link.ignoring = s.link.ignoring ∧ (consume s).cfg = s.cfg ∧
    (consume s).freeDraws = s.freeDraws ∧ (consume s).extraBits = s.extraBits.tail ∧
    (consume s).pending = s.pending := by
  simp [consume, endComplete, endFrame]

/-- What the composition of an answer changes: the composed response alone. -/
@[simp] theorem compose_frame (code tag : Byte) (r : State × Answer) :
    (compose code tag r).resetHeld = r.1.resetHeld ∧ (compose code tag r).clock = r.1.clock ∧
    (compose code tag r).rx = r.1.rx ∧ (compose code tag r).mu = r.1.mu ∧ (compose code tag r).tbl = r.1.tbl ∧
    (compose code tag r).dt = r.1.dt ∧ (compose code tag r).seq = r.1.seq ∧ (compose code tag r).arb = r.1.arb ∧
    (compose code tag r).vc = r.1.vc ∧ (compose code tag r).hs = r.1.hs ∧ (compose code tag r).ub = r.1.ub ∧
    (compose code tag r).oe = r.1.oe ∧ (compose code tag r).io = r.1.io ∧
    (compose code tag r).link.rxBytes = r.1.link.rxBytes ∧ (compose code tag r).link.rxBits = r.1.link.rxBits ∧
    (compose code tag r).link.tx = r.1.link.tx ∧ (compose code tag r).link.ready = r.1.link.ready ∧
    (compose code tag r).link.overrun = r.1.link.overrun ∧ (compose code tag r).link.pubCount = r.1.link.pubCount ∧
    (compose code tag r).link.alarms = r.1.link.alarms ∧ (compose code tag r).link.dataOut = r.1.link.dataOut ∧
    (compose code tag r).link.ignoring = r.1.link.ignoring ∧
    (compose code tag r).cfg = r.1.cfg ∧ (compose code tag r).freeDraws = r.1.freeDraws ∧
    (compose code tag r).extraBits = r.1.extraBits ∧ (compose code tag r).pending = r.1.pending := by
  simp [compose]

/-- The response that is composed. -/
@[simp] theorem compose_composed (code tag : Byte) (r : State × Answer) :
    (compose code tag r).link.composed = some ⟨code, tag, r.2.status, false, pad13 r.2.data⟩ := rfl

/-- Every response has 13 data bytes. -/
@[simp] theorem pad13_length (d : List Byte) : (pad13 d).length = 13 := by simp [pad13]

/-- A response frame has 16 bytes. -/
@[simp] theorem responseBytes_length (r : Response) : (responseBytes r).length = 16 := by simp [responseBytes]

/-! ### The bits of a frame -/

@[simp] theorem byteBits_length (b : Byte) : (byteBits b).length = 8 := rfl

@[simp] theorem frameBits_length (bs : List Byte) : (frameBits bs).length = 8 * bs.length := by
  induction bs with
  | nil => rfl
  | cons b bs ih => simp_all [frameBits]; omega

/-- A byte is read back from its bits. -/
@[simp] theorem byteOfBits_byteBits (b : Byte) : byteOfBits (byteBits b) = b := by
  revert b; decide +kernel

/-- The bytes of a frame are read back from its bits, whatever follows them. -/
theorem bytesOfBits_frameBits (bs : List Byte) (more : List Bool) :
    bytesOfBits bs.length (frameBits bs ++ more) = bs := by
  induction bs with
  | nil => rfl
  | cons b bs ih =>
    have h : frameBits (b :: bs) ++ more = byteBits b ++ (frameBits bs ++ more) := by simp [frameBits]
    rw [h]
    simp only [List.length_cons, bytesOfBits, List.take_left' (byteBits_length b), List.drop_left' (byteBits_length b),
      byteOfBits_byteBits, ih]

end Sys2Proof.Laws
end

