-- ==== Sys2Proof/Laws/Moves.lean ====
section
/-! SUPPORT. What a change of a step's state does to the step records and to the closed-order list: the
other operations around it never change a step's state, its fitting or its service. -/

namespace Sys2Proof.Laws

open Sys2Proof.Machine

/-- What the neighbours never touch of a step record: state, fitting, service, indicated position,
operation count. -/
def core (r : StepRec) : StepState × Bool × Bool × Option Position × Nat :=
  (r.state, r.fitted, r.retired, r.indicated, r.opCount)

/-- An update of a record that keeps its core keeps every core. -/
theorem modStep_core (i j : StepId) (f : StepRec → StepRec) (s : State) (h : ∀ r, core (f r) = core r) :
    core ((s.modStep i f).stepRec j) = core (s.stepRec j) := by
  rw [State.modStep_stepRec]
  split
  · rename_i e; subst e; exact h _
  · rfl

/-- Operations that leave the records leave the cores. -/
theorem core_of_recs {s t : State} (h : t.tbl.recs = s.tbl.recs) (j : StepId) :
    core (t.stepRec j) = core (s.stepRec j) := by
  simp [State.stepRec, h]

@[simp] theorem watchClose_core (i j : StepId) (s : State) :
    core ((watchClose i s).stepRec j) = core (s.stepRec j) := core_of_recs (by simp) j

@[simp] theorem addLockout_core (i j : StepId) (r : LockoutReason) (s : State) :
    core ((addLockout i r s).stepRec j) = core (s.stepRec j) := by
  simp only [addLockout, watchClose_core]
  exact modStep_core _ _ _ _ fun _ => rfl

@[simp] theorem startCooldown_core (i j : StepId) (s : State) :
    core ((startCooldown i s).stepRec j) = core (s.stepRec j) := by
  simp only [startCooldown, watchClose_core]
  refine (modStep_core _ _ _ _ ?_).trans ?_
  · exact fun _ => rfl
  · exact core_of_recs (by simp) j

@[simp] theorem stopCooldown_core (i j : StepId) (s : State) :
    core ((stopCooldown i s).stepRec j) = core (s.stepRec j) := by
  simp only [stopCooldown]
  refine (modStep_core _ _ _ _ ?_).trans ?_
  · exact fun _ => rfl
  · exact core_of_recs (by simp) j

@[simp] theorem startHoldoff_core (i j : StepId) (s : State) :
    core ((startHoldoff i s).stepRec j) = core (s.stepRec j) := by
  simp only [startHoldoff]
  split
  · simp only [watchClose_core]
    refine (modStep_core _ _ _ _ ?_).trans ?_
    · exact fun _ => rfl
    · exact core_of_recs (by simp) j
  · exact core_of_recs (by simp) j

@[simp] theorem clearSuspect_core (i j : StepId) (s : State) :
    core ((clearSuspect i s).stepRec j) = core (s.stepRec j) := by
  simp only [clearSuspect]
  split
  · exact (core_of_recs (congrArg StepTable.recs (endCause_frame _ _ _).2.2.2.2.1) j).trans
      (modStep_core _ _ _ _ fun _ => rfl)
  · rfl

@[simp] theorem enterOpened_core (i j : StepId) (s : State) :
    core ((enterOpened i s).stepRec j) = core (s.stepRec j) := by
  simp only [enterOpened]
  split <;> simp

@[simp] theorem enterFaulted_core (i j : StepId) (c : FaultCause) (s : State) :
    core ((enterFaulted i c s).stepRec j) = core (s.stepRec j) := by
  have h : ∀ t : State, core ((if (t.stepRec i).suspect = true then t.modTimers i fun x => { x with arming := true }
      else t).stepRec j) = core (t.stepRec j) := fun t => by split <;> exact core_of_recs (by simp) j
  simp only [enterFaulted]
  split
  · refine (core_of_recs (congrArg StepTable.recs (raise_frame _ _ _).2.2.2.2.1) j).trans ?_
    simp [h]
  · simp [h]

@[simp] theorem leaveState_core (i j : StepId) (old : StepState) (s : State) :
    core ((leaveState i old s).stepRec j) = core (s.stepRec j) := by
  unfold leaveState
  split <;> first | simp | exact core_of_recs (by simp) j

@[simp] theorem enterState_core (i j : StepId) (new : StepState) (s : State) :
    core ((enterState i new s).stepRec j) = core (s.stepRec j) := by
  unfold enterState
  split <;> first | simp | exact core_of_recs (by simp) j

/-- A step state change sets that step's state and no other's, and leaves fitting, service, indicated
position and operation count. -/
theorem moveStep_core (i j : StepId) (new : StepState) (s : State) :
    core ((moveStep i new s).stepRec j) =
      if j = i then core { s.stepRec i with state := new } else core (s.stepRec j) := by
  simp only [moveStep, watchClose_core, enterState_core, leaveState_core]
  refine (core_of_recs (relist_frame i _).2.2.2.2.1 j).trans ?_
  rw [State.modStep_stepRec]
  split <;> rfl

/-- The state of every step after a step state change. -/
theorem moveStep_state (i j : StepId) (new : StepState) (s : State) :
    ((moveStep i new s).stepRec j).state = if j = i then new else (s.stepRec j).state := by
  have h := moveStep_core i j new s
  split at h <;> simp_all [core]

/-- The closed-order list after a step state change (R59): appended, kept or removed. -/
theorem moveStep_closedOrder (i : StepId) (new : StepState) (s : State) :
    (moveStep i new s).tbl.closedOrder =
      if (s.stepRec i).retired = false ∧ (new = .closed ∨ new = .opening) then
        if i ∈ s.tbl.closedOrder then s.tbl.closedOrder else s.tbl.closedOrder ++ [i]
      else s.tbl.closedOrder.filter (· ≠ i) := by
  have h : ∀ t : State, (watchClose i (enterState i new (leaveState i (s.stepRec i).state t))).tbl.closedOrder =
      t.tbl.closedOrder := fun t => by simp
  simp only [moveStep, h]
  by_cases a : (s.stepRec i).retired <;> by_cases b : new = .closed ∨ new = .opening <;>
    by_cases c : i ∈ s.tbl.closedOrder <;> simp_all [relist, StepRec.listed]

/-! ### Departures from CLOSED (R138, R150) -/

/-- The unit has a published good window end before it exactly when one is due for it. -/
theorem dueFor_ub_good (s : State) : dueFor InHand.ub s = some true ↔ Safety.WindowAtUnit s := by
  unfold dueFor Safety.WindowAtUnit
  rcases s.rx.inHand with _ | ⟨g, v, h, u⟩ <;> cases hc : s.mu.computing <;> try simp
  cases u <;> cases g <;> simp

/-- Leaving CLOSED notes the departure behind a window end at the unit, and disarms the step otherwise. -/
theorem leaveClosed_cases (i : StepId) (s : State) :
    (Safety.WindowAtUnit s ∧ leaveClosed i s = s.modUnb i fun u => { u with departed := true }) ∨
    (¬Safety.WindowAtUnit s ∧ leaveClosed i s = disarm i s) := by
  unfold leaveClosed
  split
  · exact .inl ⟨(dueFor_ub_good s).mp ‹_›, rfl⟩
  · exact .inr ⟨fun h => ‹¬_› ((dueFor_ub_good s).mpr h), rfl⟩

/-- The unit's record of a step whose learning is interrupted. -/
theorem interruptLearning_unb (i : StepId) (s : State) :
    (interruptLearning i s).unb i = { s.unb i with learning := none } := by
  unfold interruptLearning finishExecuting
  split
  · next h => rw [← h]
  · simp only [State.modUnb]
    split <;> simp [State.unb, finishSlot, State.modSlot]

/-- The unit's record of a disarmed step. -/
theorem disarm_unb (i : StepId) (s : State) :
    (disarm i s).unb i = { s.unb i with armed := false, armCount := 0, alarmCount := 0, alarmActive := false,
                                        tripTiming := false, tripCount := 0, learning := none } := by
  unfold disarm clearStages
  rw [interruptLearning_unb]
  simp only [State.modUnb_unb_self]
  split <;> simp [endCause, State.modAlarms, State.unb]

end Sys2Proof.Laws
end

