-- ==== Sys2Proof/Laws/PerInstr.lean ====
section
/-! SUPPORT. The per-command family of LAWS.json: a command that travels in a complete station link frame
travels in one of exactly 16 bytes (R189, section 11.9.2). -/

namespace Sys2Proof.Laws

/-- A request frame has 16 bytes. -/
theorem requestFrame_length (code tag : Byte) (args : List Byte) : (requestFrame code tag args).length = 16 := by
  simp [requestFrame]

/-- The frame of a command, if it has one, is 16 bytes long. -/
def FrameLength.Statement (i : Instr) : Prop := ∀ b, encodeFrame i = some b → b.length = 16

theorem FrameLength.resetAssert : FrameLength.Statement .resetAssert := by
  intro b h
  cases h

theorem FrameLength.resetRelease : ∀ pins, FrameLength.Statement (.resetRelease pins) := by
  intro pins b h
  cases h

theorem FrameLength.frameEnd : ∀ frame, FrameLength.Statement (.frameEnd frame) := by
  intro frame b h
  cases h

theorem FrameLength.scheduledClosePulse : FrameLength.Statement .scheduledClosePulse := by
  intro b h
  cases h

theorem FrameLength.windowTimerExpiry : FrameLength.Statement .windowTimerExpiry := by
  intro b h
  cases h

theorem FrameLength.feedTimerExpiry : FrameLength.Statement .feedTimerExpiry := by
  intro b h
  cases h

theorem FrameLength.windowEnd : FrameLength.Statement .windowEnd := by
  intro b h
  cases h

theorem FrameLength.publication : FrameLength.Statement .publication := by
  intro b h
  cases h

theorem FrameLength.vcEvaluation : FrameLength.Statement .vcEvaluation := by
  intro b h
  cases h

theorem FrameLength.harmonicEvaluation : FrameLength.Statement .harmonicEvaluation := by
  intro b h
  cases h

theorem FrameLength.unbalanceEvaluation : FrameLength.Statement .unbalanceEvaluation := by
  intro b h
  cases h

theorem FrameLength.cooldownExpiry : ∀ step, FrameLength.Statement (.cooldownExpiry step) := by
  intro step b h
  cases h

theorem FrameLength.holdoffExpiry : ∀ step, FrameLength.Statement (.holdoffExpiry step) := by
  intro step b h
  cases h

theorem FrameLength.closePulseEnd : ∀ step, FrameLength.Statement (.closePulseEnd step) := by
  intro step b h
  cases h

theorem FrameLength.tripPulseEnd : ∀ step, FrameLength.Statement (.tripPulseEnd step) := by
  intro step b h
  cases h

theorem FrameLength.closeConfirmExpiry : ∀ step, FrameLength.Statement (.closeConfirmExpiry step) := by
  intro step b h
  cases h

theorem FrameLength.openConfirmExpiry : ∀ step, FrameLength.Statement (.openConfirmExpiry step) := by
  intro step b h
  cases h

theorem FrameLength.yardTripEnd : FrameLength.Statement .yardTripEnd := by
  intro b h
  cases h

theorem FrameLength.syncWaitExpiry : FrameLength.Statement .syncWaitExpiry := by
  intro b h
  cases h

theorem FrameLength.settleExpiry : FrameLength.Statement .settleExpiry := by
  intro b h
  cases h

theorem FrameLength.resonanceWatchExpiry : FrameLength.Statement .resonanceWatchExpiry := by
  intro b h
  cases h

theorem FrameLength.notBeforeElapsed : ∀ slot, FrameLength.Statement (.notBeforeElapsed slot) := by
  intro slot b h
  cases h

theorem FrameLength.deadlineExpiry : ∀ slot, FrameLength.Statement (.deadlineExpiry slot) := by
  intro slot b h
  cases h

theorem FrameLength.inputLevelChange : ∀ line level, FrameLength.Statement (.inputLevelChange line level) := by
  intro line level b h
  cases h

theorem FrameLength.frameAbort : ∀ bits, FrameLength.Statement (.frameAbort bits) := by
  intro bits b h
  cases h

theorem FrameLength.fillerFrame : FrameLength.Statement .fillerFrame := by
  intro b h
  cases h

theorem FrameLength.responseLoad : FrameLength.Statement .responseLoad := by
  intro b h
  cases h

theorem FrameLength.badCode : ∀ code tag, FrameLength.Statement (.badCode code tag) := by
  intro code tag b h
  cases h; exact requestFrame_length _ _ _

theorem FrameLength.poll : ∀ tag, FrameLength.Statement (.poll tag) := by
  intro tag b h
  cases h; exact requestFrame_length _ _ _

theorem FrameLength.readIdent : ∀ tag, FrameLength.Statement (.readIdent tag) := by
  intro tag b h
  cases h; exact requestFrame_length _ _ _

theorem FrameLength.readStep : ∀ tag step page, FrameLength.Statement (.readStep tag step page) := by
  intro tag step page b h
  cases h; exact requestFrame_length _ _ _

theorem FrameLength.readChannel : ∀ tag channel page, FrameLength.Statement (.readChannel tag channel page) := by
  intro tag channel page b h
  cases h; exact requestFrame_length _ _ _

theorem FrameLength.readYard : ∀ tag page, FrameLength.Statement (.readYard tag page) := by
  intro tag page b h
  cases h; exact requestFrame_length _ _ _

theorem FrameLength.readSetting : ∀ tag ident, FrameLength.Statement (.readSetting tag ident) := by
  intro tag ident b h
  cases h; exact requestFrame_length _ _ _

theorem FrameLength.writeSetting : ∀ tag ident value, FrameLength.Statement (.writeSetting tag ident value) := by
  intro tag ident value b h
  cases h; exact requestFrame_length _ _ _

theorem FrameLength.readStepSetting : ∀ tag step ident, FrameLength.Statement (.readStepSetting tag step ident) := by
  intro tag step ident b h
  cases h; exact requestFrame_length _ _ _

theorem FrameLength.writeStepSetting : ∀ tag step ident value, FrameLength.Statement (.writeStepSetting tag step ident value) := by
  intro tag step ident value b h
  cases h; exact requestFrame_length _ _ _

theorem FrameLength.defaultSettings : ∀ tag, FrameLength.Statement (.defaultSettings tag) := by
  intro tag b h
  cases h; exact requestFrame_length _ _ _

theorem FrameLength.setMode : ∀ tag mode, FrameLength.Statement (.setMode tag mode) := by
  intro tag mode b h
  cases h; exact requestFrame_length _ _ _

theorem FrameLength.readAlarm : ∀ tag index, FrameLength.Statement (.readAlarm tag index) := by
  intro tag index b h
  cases h; exact requestFrame_length _ _ _

theorem FrameLength.ackAlarm : ∀ tag kind subject, FrameLength.Statement (.ackAlarm tag kind subject) := by
  intro tag kind subject b h
  cases h; exact requestFrame_length _ _ _

theorem FrameLength.ackAll : ∀ tag, FrameLength.Statement (.ackAll tag) := by
  intro tag b h
  cases h; exact requestFrame_length _ _ _

theorem FrameLength.takeSlot : ∀ tag, FrameLength.Statement (.takeSlot tag) := by
  intro tag b h
  cases h; exact requestFrame_length _ _ _

theorem FrameLength.fillOrder : ∀ tag slot generation kind step timing notBefore deadline, FrameLength.Statement (.fillOrder tag slot generation kind step timing notBefore deadline) := by
  intro tag slot generation kind step timing notBefore deadline b h
  cases h; exact requestFrame_length _ _ _

theorem FrameLength.postOrder : ∀ tag slot generation, FrameLength.Statement (.postOrder tag slot generation) := by
  intro tag slot generation b h
  cases h; exact requestFrame_length _ _ _

theorem FrameLength.withdrawOrder : ∀ tag slot generation, FrameLength.Statement (.withdrawOrder tag slot generation) := by
  intro tag slot generation b h
  cases h; exact requestFrame_length _ _ _

theorem FrameLength.retireOrder : ∀ tag slot generation, FrameLength.Statement (.retireOrder tag slot generation) := by
  intro tag slot generation b h
  cases h; exact requestFrame_length _ _ _

theorem FrameLength.readOrder : ∀ tag mode slot generation page, FrameLength.Statement (.readOrder tag mode slot generation page) := by
  intro tag mode slot generation page b h
  cases h; exact requestFrame_length _ _ _

theorem FrameLength.stageLines : ∀ tag step close trip, FrameLength.Statement (.stageLines tag step close trip) := by
  intro tag step close trip b h
  cases h; exact requestFrame_length _ _ _

theorem FrameLength.handover : ∀ tag step, FrameLength.Statement (.handover tag step) := by
  intro tag step b h
  cases h; exact requestFrame_length _ _ _

theorem FrameLength.driveLines : ∀ tag step close trip, FrameLength.Statement (.driveLines tag step close trip) := by
  intro tag step close trip b h
  cases h; exact requestFrame_length _ _ _

theorem FrameLength.returnLines : ∀ tag step, FrameLength.Statement (.returnLines tag step) := by
  intro tag step b h
  cases h; exact requestFrame_length _ _ _

theorem FrameLength.readLines : ∀ tag, FrameLength.Statement (.readLines tag) := by
  intro tag b h
  cases h; exact requestFrame_length _ _ _

theorem FrameLength.firstFrameSync : FrameLength.Statement .firstFrameSync := by
  intro b h
  cases h

end Sys2Proof.Laws
end

