-- ==== Sys2Proof/Laws/Watch.lean ====
section
/-! SUPPORT. The watch over a close that has not started its pulse (R77): what `closeBar`, `abandonClose` and
`watchClose` can do; and what a notice to the alarm set does to the entries of one kind (R199). -/

namespace Sys2Proof.Laws

open Sys2Proof.Machine Sys2Proof.Safety

/-- A row of R77's table that holds is the answer of `closeBar`. -/
theorem closeBar_of_barred {i : StepId} {why : Option Reason} {s : State} (h : CloseBarred i why s) :
    closeBar s i = some why := by
  unfold CloseBarred at h
  unfold closeBar closeInhibit
  cases hs : (s.stepRec i).state <;> cases hl : (s.stepRec i).lockout <;>
    simp only [hs, hl, StepState.isFaulted] at h ⊢ <;> (repeat' split at h) <;> simp_all

/-- A close abandoned with PREEMPTED has ended as R77 says. -/
theorem abandonClose_ended {i : StepId} {o : Operation} {s : State} (why : Option Reason)
    (h : (s.lane i).op = some o) : CloseEnded i o.source why s (abandonClose i .preempted why s) := by
  obtain ⟨kind, src, phase, under⟩ := o
  unfold CloseEnded abandonClose
  rw [h]
  cases src <;> cases he : s.oe.executing <;>
    simp [endReport, vcEndReport, finishExecuting, finishSlot, clearBand, freeRight, he, State.modLane, State.lane,
      State.modSlot, State.slot] <;>
    congr

/-- `watchClose` ends a close that waits while a condition of R76 fails. -/
theorem watchClose_ended {i : StepId} {o : Operation} {why : Option Reason} {s : State}
    (h : (s.lane i).op = some o) (hu : o.unpulsed = true) (hb : CloseBarred i why s) :
    CloseEnded i o.source why s (watchClose i s) := by
  have : watchClose i s = abandonClose i .preempted why s := by simp [watchClose, h, hu, closeBar_of_barred hb]
  exact this ▸ abandonClose_ended why h

/-- A cause-end notice of a latching kind ends the cause of its own entry. -/
theorem endCause_over {k : AlarmKind} (hk : k.latching = true) (sub : Subject) (s : State) :
    CauseOver k sub true s (endCause k sub s) := by
  simp only [CauseOver, endCause, State.modAlarms, endCauseIn, hk, if_true]
  induction s.link.alarms with
  | nil => rfl
  | cons e as ih =>
    by_cases h : e.kind = k <;> by_cases hs : e.subject = sub <;> simp_all [AlarmEntry.isFor]

end Sys2Proof.Laws
end

