-- ==== Sys2Proof/Tests/Slice0.lean ====
section
/-! SUPPORT. Small tests, each on one command and a small state, with the manual's section each expected
value is taken from; then one witness for each statement that has hypotheses. -/

namespace Sys2Proof.Tests

open Sys2Proof Sys2Proof.Machine Sys2Proof.Safety

/-! ### Small states -/

/-- What a command's next state shows. -/
def ran {α : Type} (c : Instr) (s : State) (f : State → α) : Option α :=
  match exec c s with
  | .next t => some (f t)
  | .fault _ => none
  | .refused _ => none

/-- Eight fitted steps, every input inactive. -/
def yard : State :=
  { State.released ⟨true, true, true, false⟩ with io := { Inputs.released ⟨false, false, false, false⟩ with strap := 7 } }

/-- Step `i` in a state. -/
def inState (i : StepId) (st : StepState) (s : State) : State := s.modStep i fun r => { r with state := st }

/-- Step 0 CLOSED and listed. -/
def closedYard : State := { inState 0 .closed yard with tbl.closedOrder := [0] }

/-- Step 0 OPEN. -/
def openYard : State := inState 0 .opened yard

/-- An operation of an order under the right in flight on step 0. -/
def flying (k : OpKind) (ph : Phase) (s : State) : State :=
  { s.modLane 0 fun l => { l with op := some ⟨k, .oe, ph, true⟩, confirm := some 1 } with
    arb.busy := .inOperation, arb.holder := .oe }

/-- A close in motion on step 0. -/
def closingYard : State := flying (.close .immediate) .inMotion (inState 0 .closing yard)

/-- An open in motion on step 0. -/
def openingYard : State :=
  { flying .trip .inMotion (inState 0 .opening yard) with tbl.closedOrder := [0] }

/-- A scheduled close of step 0 at its pulse frame. -/
def dueYard : State :=
  { flying (.close .synchronized) .scheduled openYard with seq.schedule := some ⟨0, 0⟩, rx.meas := .valid }

/-- A window end in hand. -/
def inHand (good : Bool) (s : State) : State := { s with rx.inHand := some ⟨good, true, true, true⟩ }

/-- A channel entry with given P and D. -/
def entryWith (p : Nat) (d : Option Nat) : ChanEntry := { ChanEntry.released with p := p, d := d }

/-- The three bus voltage channels at a P and a D. -/
def busAt (p : Nat) (d : Option Nat) (s : State) : State :=
  { s with mu.entries := put (put (put s.mu.entries 0 (entryWith p d)) 1 (entryWith p d)) 2 (entryWith p d) }

/-- Slot 0 in a state, naming step 0 with a kind. -/
def slotIn (st : SlotState) (kind : Byte) (s : State) : State :=
  s.modSlot 0 fun o => { o with state := st, kind := kind }

/-- Slot 0 EXECUTING. -/
def executing (s : State) : State := { slotIn .executing 1 s with oe.executing := some 0 }

/-- Slot 0 POSTED with a kind. -/
def postedYard (kind : Byte) (s : State) : State := { slotIn .posted kind s with oe.posted := [0] }

/-- An alarm entry on a yard alarm. -/
def withAlarm (e : AlarmEntry) (s : State) : State := { s with link.alarms := [e] }

/-- A sample frame of 256 bits with every sample 0 and a status word. -/
def frameWith (status : Half) : SampleFrame := ⟨256, put (Vector.replicate 16 0) 15 status⟩

/-- A receiver that has had its first sync and waits for the end of the second frame. -/
def synced : State := { yard with rx.assembly := some ⟨0, false⟩ }

/-! ### Well-formedness -/

theorem test_wellFormed_refuses_a_known_code : (Instr.badCode 0x01 0).wellFormed = false := by decide
theorem test_wellFormed_takes_an_unknown_code : (Instr.badCode 0x0F 0).wellFormed = true := by decide
theorem test_wellFormed_refuses_a_whole_frame : (Instr.frameAbort 128).wellFormed = false := by decide
theorem test_wellFormed_takes_a_cut_frame : (Instr.frameAbort 127).wellFormed = true := by decide

/-! ### Frames written out from section 11.9.2 -/

/-- R189: the bits of POLL with tag 0x2A as they travel, most significant first: 00000001, 00101010, then zeros; an
unfinished seventeenth byte is ignored. -/
theorem test_frame_bits : decodeFrame
    ([false, false, false, false, false, false, false, true, false, false, true, false, true, false, true, false] ++
     List.replicate 112 false ++ [true, true, true]) = .poll 0x2A := by decide +kernel

theorem test_frame_poll : decodeFrame (frameBits ([0x01, 0x2A] ++ List.replicate 14 0)) = .poll 0x2A := by decide +kernel
theorem test_frame_read_step :
    decodeFrame (frameBits ([0x03, 2, 7, 1] ++ List.replicate 12 0)) = .readStep 2 7 1 := by decide +kernel
theorem test_frame_write_setting :
    decodeFrame (frameBits ([0x07, 5, 0x11, 0x00, 0x00, 0x03, 0xD4] ++ List.replicate 9 0)) = .writeSetting 5 0x11 980 := by decide +kernel
theorem test_frame_write_step_setting :
    decodeFrame (frameBits ([0x09, 5, 3, 0x09, 0xFF, 0xFF, 0xFF, 0xFE] ++ List.replicate 8 0)) =
      .writeStepSetting 5 3 0x09 0xFFFFFFFE := by decide +kernel
theorem test_frame_fill_order :
    decodeFrame (frameBits [0x11, 9, 4, 1, 2, 3, 1, 0x01, 0x02, 0x0E, 0x10, 0, 0, 0, 0, 0]) =
      .fillOrder 9 4 1 2 3 1 0x0102 3600 := by decide +kernel
theorem test_frame_drive_lines :
    decodeFrame (frameBits ([0x22, 1, 6, 0, 1] ++ List.replicate 11 0)) = .driveLines 1 6 0 1 := by decide +kernel
theorem test_frame_ack_alarm :
    decodeFrame (frameBits ([0x0D, 1, 0x0A, 0xFF] ++ List.replicate 12 0)) = .ackAlarm 1 0x0A 0xFF := by decide +kernel
theorem test_frame_unknown_code : decodeFrame (frameBits ([0x0F, 3] ++ List.replicate 14 0)) = .badCode 0x0F 3 := by decide +kernel
theorem test_frame_short : decodeFrame (frameBits (List.replicate 9 1)) = .frameAbort 72 := by decide +kernel
theorem test_no_word_spells_a_command : decodeTableWord 16 0x0103 = none := by decide

/-! ### Cycle arithmetic (R25, section 2.8) -/

theorem test_case_1_distorted_voltage :
    formEntry .voltage 10240 8000 ⟨3145728000, -2359296000, 3663680000, 16850⟩ =
      ⟨12000, -9000, 15000, 10700, 10606, 1415, some 133, 1035, 16850, false, 0⟩ := by decide
theorem test_case_2_constant_input :
    formEntry .yardCurrent 10240 8000 (formSums (List.replicate 32 1000)) =
      ⟨0, 0, 0, 1000, 0, 1000, none, 0, 1000, false, 0⟩ := by decide +kernel
theorem test_case_3_square_wave :
    formEntry .voltage 10240 8000 (formSums (List.replicate 16 32767 ++ List.replicate 16 (-32767))) =
      ⟨4096, -32767, 32767, 32767, 23169, 23170, some 1000, 2262, 32767, true, 0⟩ := by decide +kernel
theorem test_rounding_of_a_tie : (roundDiv 131071 262144, roundDiv 131072 262144, roundDiv (-131072) 262144) =
    (0, 1, -1) := by decide

/-! ### Close schedules (section 5.2.3) -/

theorem test_schedule_case_a : (mechFrames 40 50, pulseDelay 10 (mechFrames 40 50)) = (64, 6) := by decide
theorem test_schedule_case_b : (mechFrames 40 60, pulseDelay 5 (mechFrames 40 60)) = (77, 14) := by decide
theorem test_schedule_case_c : (mechFrames 0 50, pulseDelay 16 (mechFrames 0 50)) = (0, 0) := by decide

/-! ### Unbalance (section 8.3.1) -/

theorem test_worked_u :
    formU { ChanEntry.released with re := 420, im := 310 }
      { StepSettings.default with baselineRe := 300, baselineIm := 150 } = 70 ∧
    formU { ChanEntry.released with re := 420, im := 310 } StepSettings.default = 184 := by decide
theorem test_drop_outs : (dropOut 50, dropOut 120) = (47, 114) := by decide

/-! ### Candidate selection (section 6.5.1) -/

/-- One record of the worked selection. -/
def rec (i : StepId) (st : StepState) (n rating : Nat) (cooling hold retired : Bool) (s : State) : State :=
  { s.modStep i fun r => { r with state := st, opCount := n, cooling := cooling, hold := hold, retired := retired } with
    cfg.perStep := put s.cfg.perStep i { look s.cfg.perStep i with rating := rating } }

/-- The records of the worked selection, with V_CTRL. -/
def selection (v : Nat) : State :=
  let s := rec 0 .closed 41 250 false false false yard
  let s := rec 1 .opened 9 100 true false false s
  let s := rec 2 .opened 40 250 false false false s
  let s := rec 3 .opened 5 100 false true false s
  let s := rec 4 .opened 2 100 false false true s
  let s := rec 5 .opened 12 100 false false false s
  let s := rec 6 .opened 12 250 false false false s
  let s := rec 7 .absent 0 100 false false false s
  { s with vc.vctrl := v, tbl.closedOrder := [0] }

theorem test_worked_add : addCandidate (selection 962) = some 5 := by decide
theorem test_worked_add_near_the_limit : addCandidate (selection 1012) = some 5 := by decide
theorem test_worked_removal : removeCandidate (selection 1048) = some 0 := by decide
/-- R116: a stored BAND_HIGH waits for the next good window, also for a selection at a grant. -/
theorem test_band_waits_for_a_good_window :
    (let s : State := { selection 962 with cfg.yard.bandHigh := 960 }
     addCandidate s = some 5 ∧ addCandidate { s with vc.bandHigh := 960 } = none) := by decide

/-! ### The commands -/

/-- R203. -/
theorem test_reset_assert : ran .resetAssert yard (fun t => (t.resetHeld, t.link.ready, attn t)) =
    some (true, false, false) := by decide
/-- R178, R38: a strap code of 4 fits steps 0 to 4 (section 3.10.1). -/
theorem test_reset_release : ran (.resetRelease ⟨false, false, true, false⟩) yard
    (fun t => ((t.stepRec 4).state, (t.stepRec 5).state, t.io.strap)) = some (.unknown, .absent, 4) := by decide
/-- R4: the frame number counts from the first frame end; a mark begins a window (R5). -/
theorem test_frame_end_begins_a_window : ran (.frameEnd (frameWith 3)) synced
    (fun t => (t.rx.frameNumber, t.rx.window.map List.length, t.rx.feedLive)) = some (1, some 1, true) := by decide
/-- R1, R6: a frame of 255 bits ends the window by a frame error. -/
theorem test_frame_error_ends_the_window : ran (.frameEnd ⟨255, Vector.replicate 16 0⟩)
    { synced with rx.window := some [Vector.replicate 14 0] } (fun t => (t.rx.window, t.rx.ends)) =
    some (none, [.failed .frameError]) := by decide
/-- R1. -/
theorem test_first_sync : ran .firstFrameSync yard (fun t => t.rx.assembly) = some (some ⟨0, false⟩) := by decide
/-- R79, R81. -/
theorem test_scheduled_pulse : ran .scheduledClosePulse dueYard
    (fun t => ((t.stepRec 0).state, (t.lane 0).closePulse, t.seq.schedule)) = some (.closing, 100, none) := by decide
/-- R8: the timer restarts at 40 ticks. -/
theorem test_window_timer : ran .windowTimerExpiry yard (fun t => (t.rx.ends, t.rx.windowTimer)) =
    some ([.failed .timeout], 40) := by decide
/-- R15. -/
theorem test_feed_timer : ran .feedTimerExpiry { yard with rx.feedLive := true, rx.feedTimer := some 0 }
    (fun t => t.rx.feedLive) = some false := by decide
/-- R9, section 1.4.1: the fourth failed window makes STALE and raises MEAS_LOST. -/
theorem test_window_end_stale : ran .windowEnd
    { yard with rx.meas := .holding, rx.failedCount := 3, rx.ends := [.failed .timeout] }
    (fun t => (t.rx.meas, t.rx.failedCount, t.link.alarms.map AlarmEntry.kind)) = some (.stale, 4, [.measLost]) := by
  decide
/-- R9. -/
theorem test_window_end_good : ran .windowEnd { yard with rx.meas := .holding, rx.failedCount := 1, rx.ends := [.good [] 1 1] }
    (fun t => (t.rx.meas, t.rx.failedCount, t.mu.computing.isSome)) = some (.valid, 0, true) := by decide
/-- R21, case 2 of section 2.8.2. -/
theorem test_publication : ran .publication
    { yard with mu.computing := some ⟨List.replicate 32 (Vector.replicate 14 1000), 10240, 8000⟩ }
    (fun t => ((look t.mu.entries 3).r, (look t.mu.entries 3).d, t.link.pubCount)) = some (1000, none, 1) := by decide +kernel
/-- R99, R101: below the band LOW_ACC rises. -/
theorem test_vc_low : ran .vcEvaluation (inHand true (busAt 960 none { yard with vc.auto := true }))
    (fun t => (t.vc.vctrl, t.vc.lowAcc, t.vc.highAcc)) = some (960, 1, 0) := by decide
/-- R111, R112: the dead condition's last window opens a CLOSED step. -/
theorem test_vc_dead : ran .vcEvaluation (inHand true (busAt 299 none { closedYard with vc.deadAcc := 49 }))
    (fun t => ((t.stepRec 0).state, t.vc.deadOpened)) = some (.opening, true) := by decide
/-- R121: the drop-out of DV_ALARM 50 is 47. -/
theorem test_hs_drop_out : ran .harmonicEvaluation (inHand true (busAt 1000 (some 47) { yard with hs.vCount := 9 }))
    (fun t => (t.hs.dv, t.hs.vCount)) = some (some 47, 9) := by decide
/-- R124, R125. -/
theorem test_hs_shed : ran .harmonicEvaluation (inHand true (busAt 1000 (some 100) { closedYard with hs.tripCount := 99 }))
    (fun t => ((t.stepRec 0).state, t.hs.shedding, t.hs.tripCount)) = some (.opening, true, 0) := by decide
/-- R137: the tenth window arms. -/
theorem test_ub_arms : ran .unbalanceEvaluation (inHand true (closedYard.modUnb 0 fun u => { u with armCount := 9 }))
    (fun t => (t.unb 0).armed) = some true := by decide +kernel
/-- R129: a rise over DV_BEFORE marks the watched step. -/
theorem test_hs_watch_marks : ran .harmonicEvaluation
    (inHand true (busAt 1000 (some 60) { closedYard with hs.watch := some ⟨0, 45, 9000⟩ }))
    (fun t => (t.hs.watch, (t.stepRec 0).suspect, t.link.alarms.map AlarmEntry.kind)) =
    some (none, true, [.resonance]) := by decide
/-- R142, R143: u of 9999 for a clipped channel trips when the counter reaches UNB_TRIP_DELAY. -/
theorem test_ub_trips : ran .unbalanceEvaluation (inHand true
      { closedYard.modUnb 0 fun u => { u with armed := true, tripCount := 24 } with
        mu.entries := put yard.mu.entries 6 { ChanEntry.released with clipped := true } })
    (fun t => ((t.unb 0).tripped, (t.stepRec 0).lockout, (t.stepRec 0).state)) =
    some (true, some .unbalance, .opening) := by decide +kernel
/-- R65. -/
theorem test_cooldown : ran (.cooldownExpiry 0)
    ((openYard.modTimers 0 fun d => { d with cooldown := 1 }).modStep 0 fun r => { r with cooling := true })
    (fun t => ((t.stepRec 0).cooling, (t.timers 0).cooldown)) = some (false, 0) := by decide
/-- R72. -/
theorem test_holdoff : ran (.holdoffExpiry 0)
    ((openYard.modTimers 0 fun d => { d with holdoffMs := 1 }).modStep 0 fun r => { r with holdoff := true })
    (fun t => ((t.stepRec 0).holdoff, (t.timers 0).holdoffMs)) = some (false, 0) := by decide
/-- R81, R86, R88. -/
theorem test_pulse_ends :
    ran (.closePulseEnd 0) (yard.modLane 0 fun l => { l with closePulse := 1 }) (fun t => closeLine t 0) = some false ∧
    ran (.tripPulseEnd 0) (yard.modLane 0 fun l => { l with tripPulse := 1 }) (fun t => tripLine t 0) = some false ∧
    ran .yardTripEnd { yard with seq.yardTrip := 1 } yardTripLine = some false := by decide
/-- R84: the follow-on trip. -/
theorem test_close_confirm_live : ran (.closeConfirmExpiry 0) (executing { closingYard with rx.feedLive := true })
    (fun t => ((t.stepRec 0).state, (t.stepRec 0).lockout, (t.slot 0).reason, t.arb.busy)) =
    some (.opening, some .closeFailure, some .position, .inOperation) := by decide
/-- R83. -/
theorem test_close_confirm_lost : ran (.closeConfirmExpiry 0) (executing closingYard)
    (fun t => ((t.stepRec 0).state, (t.slot 0).reason)) = some (.faulted .noIndication, some .noIndication) := by decide
/-- R87, R88. -/
theorem test_open_confirm : ran (.openConfirmExpiry 0) { openingYard with rx.feedLive := true }
    (fun t => ((t.stepRec 0).state, yardTripLine t, t.tbl.closedOrder)) =
    some (.faulted .switchFailure, true, []) := by decide
/-- R80. -/
theorem test_sync_wait : ran .syncWaitExpiry
    { executing (flying (.close .synchronized) .awaitingValid openYard) with seq.syncWait := some 1 }
    (fun t => ((t.slot 0).reason, t.arb.busy)) = some (some .noSync, .notBusy) := by decide
/-- R92. -/
theorem test_settle : ran .settleExpiry { yard with arb.busy := .settling 1 } (fun t => t.arb.busy) =
    some .notBusy := by decide
/-- R130. -/
theorem test_watch : ran .resonanceWatchExpiry { yard with hs.watch := some ⟨0, 10, 1⟩ } (fun t => t.hs.watch) =
    some none := by decide
/-- R164: the elapsing of a not-before lets an order start. -/
theorem test_not_before : ran (.notBeforeElapsed 0)
    ((postedYard 3 yard).modSlot 0 fun o => { o with notBeforeTimer := some 1 })
    (fun t => ((t.slot 0).outcome, (t.stepRec 0).hold)) = some (some .done, true) := by decide
/-- R164. -/
theorem test_deadline : ran (.deadlineExpiry 0) ((postedYard 1 yard).modSlot 0 fun o => { o with deadlineTimer := some 1 })
    (fun t => ((t.slot 0).outcome, t.oe.posted)) = some (some .expired, []) := by decide
/-- R181. -/
theorem test_emergency : ran (.inputLevelChange .inp1 true) closedYard
    (fun t => ((t.stepRec 0).state, tripLine t 0, t.link.alarms.map AlarmEntry.kind)) =
    some (.opening, true, [.emergencyOpen]) := by decide
/-- R182. -/
theorem test_permit_loss : ran (.inputLevelChange .inp2 false)
    { yard.modLines 0 fun _ => ⟨true, false, true, false, true⟩ with io.inp2.level := true }
    (fun t => ((t.lines 0).direct, tripLine t 0, t.link.alarms.map AlarmEntry.kind)) =
    some (false, false, [.permitLost]) := by decide
/-- R189, frame 4 of section 11.8.1: nine bytes are shifted out and nothing is consumed. -/
theorem test_frame_abort : ran (.frameAbort 72) yard (fun t => (t.link.dataOut.length, t.link.ready)) =
    some (72, true) := by decide
/-- R203: a frame whose select is asserted at the release is ignored whole; the next one is taken. -/
theorem test_frame_across_the_release : ran (.poll 1)
    ((ran (.resetRelease ⟨false, false, false, true⟩) yard id).getD yard)
    (fun t => (t.link.ready, t.link.composed, t.link.ignoring)) = some (true, none, false) := by decide
/-- R189: the bits after the sixteenth byte are shifted out as 0. -/
theorem test_bits_after_the_sixteenth_byte : ran (.poll 1) { yard with extraBits := [3, 5] }
    (fun t => (t.link.dataOut.length, t.link.dataOut.drop 128, t.extraBits)) =
    some (131, [false, false, false], [5]) := by decide +kernel
/-- R191, frame 3 of section 11.8.1. -/
theorem test_filler : ran .fillerFrame { yard with link.ready := false } (fun t => (bytesOfBits 16 t.link.dataOut, t.link.overrun)) =
    some ([0, 0, 10, 0, 0, 0, 0, 0, 0, 0, 0, 0, 0, 0, 0, 0], true) := by decide +kernel
/-- R190, frame 3 of section 11.8.1: the response is loaded with its overrun bit set. -/
theorem test_response_load : ran .responseLoad
    { yard with link.composed := some Response.idle, link.overrun := true, link.ready := false }
    (fun t => (t.link.tx.overrun, t.link.ready)) = some (true, true) := by decide

/-- What a request answers: status and data. -/
def answer (c : Instr) (s : State) : Option (Option (Status × List Byte)) :=
  ran c s fun t => t.link.composed.map fun r => (r.status, r.data)

/-- R192. -/
theorem test_bad_code : answer (.badCode 0x0F 1) yard = some (some (.badCode, List.replicate 13 0)) := by decide
/-- Section 11.9.3. -/
theorem test_poll : answer (.poll 1) { yard with clock := ⟨0x01020304, 0⟩ } =
    some (some (.ok, [0, 0, 0, 1, 2, 3, 4, 0, 0, 0, 32, 0, 0])) := by decide
theorem test_read_ident : answer (.readIdent 1) yard =
    some (some (.ok, [0x45, 0x08, 0x01, 0, 0, 0, 0, 0, 0, 0, 0, 0, 0])) := by decide
/-- Section 11.9.4: COOLING is bit 3, the cooldown is given in seconds rounded up. -/
theorem test_read_step : answer (.readStep 1 0 0)
    ((openYard.modTimers 0 fun d => { d with cooldown := 299001 }).modStep 0 fun r => { r with cooling := true }) =
    some (some (.ok, [0, 2, 0, 0, 9, 0, 1, 44, 0, 0, 0, 0, 0])) := by decide
/-- Section 11.9.5: D is UNDEFINED, P 1000 and the age 255 after reset. -/
theorem test_read_channel : answer (.readChannel 1 2 1) (busAt 1000 none yard) =
    some (some (.ok, [2, 0, 0, 0, 0, 0, 0, 0xFF, 0xFF, 0x03, 0xE8, 255, 0])) := by decide
/-- Section 11.9.7: the closed-order list. -/
theorem test_read_yard : answer (.readYard 1 2) closedYard =
    some (some (.ok, [1, 0, 255, 255, 255, 255, 255, 255, 255, 255, 255, 255, 255])) := by decide
/-- R196. -/
theorem test_read_setting : answer (.readSetting 1 0x11) yard =
    some (some (.ok, [0x11, 0, 0, 0x03, 0xCF, 0, 0, 0, 0, 0, 0, 0, 0])) := by decide
/-- Frame 5 of section 11.8.1. -/
theorem test_write_setting : answer (.writeSetting 5 0x11 980) yard =
    some (some (.ok, [0x11, 0, 0, 0x03, 0xD4, 0, 0, 0, 0, 0, 0, 0, 0])) := by decide
/-- R115: BAND_HIGH less BAND_LOW must be at least 20. -/
theorem test_write_setting_inconsistent : answer (.writeSetting 5 0x11 1016) yard =
    some (some (.inconsistent, [0x11, 0, 0, 0x03, 0xCF, 0, 0, 0, 0, 0, 0, 0, 0])) := by decide
/-- Section 11.4.1. -/
theorem test_read_step_setting : answer (.readStepSetting 1 3 0x00) yard =
    some (some (.ok, [3, 0x00, 0, 0, 0, 100, 0, 0, 0, 0, 0, 0, 0])) := by decide
/-- R196: a value below the range is brought to its lower end, a negative one too. -/
theorem test_write_step_setting : answer (.writeStepSetting 1 3 0x01 0xFFFFFFFF) yard =
    some (some (.clamped, [3, 0x01, 0, 0, 0, 30, 0, 0, 0, 0, 0, 0, 0])) := by decide
/-- R197. -/
theorem test_default_settings : ran (.defaultSettings 1) { yard with cfg.yard.bandLow := 900, vc.lowAcc := 1501 }
    (fun t => (t.cfg.yard.bandLow, t.vc.lowAcc)) = some (975, 1500) := by decide
/-- R98, R198. -/
theorem test_set_mode : ran (.setMode 1 0) { yard with vc.auto := true, vc.lowAcc := 3 }
    (fun t => (t.vc.auto, t.vc.lowAcc)) = some (false, 0) := by decide
/-- R200. -/
theorem test_read_alarm : answer (.readAlarm 1 0) (withAlarm ⟨.measLost, .yard, 0x0102, false, true, false⟩ yard) =
    some (some (.ok, [10, 255, 0, 0, 1, 2, 2, 0, 1, 1, 0, 0, 0])) := by decide
/-- R201, section 11.8.2: an entry whose cause persists is marked and stays. -/
theorem test_ack_alarm : ran (.ackAlarm 1 0x0F 0xFF) (withAlarm ⟨.fastOv, .yard, 100, false, true, false⟩ yard)
    (fun t => (t.link.alarms, attn t)) = some ([⟨.fastOv, .yard, 100, true, true, false⟩], false) := by decide
/-- R201, section 11.8.2: a latching entry whose cause has ended leaves. -/
theorem test_ack_all : ran (.ackAll 1) (withAlarm ⟨.closeFail, .step 4, 103, false, false, false⟩ yard)
    (fun t => t.link.alarms) = some [] := by decide
/-- R157. -/
theorem test_take_slot : ran (.takeSlot 1) yard (fun t => ((t.slot 0).state, t.oe.freeQueue.length)) =
    some (.draft, 31) := by decide
/-- R158. -/
theorem test_fill_order : ran (.fillOrder 1 0 0 1 2 1 601 3600) (slotIn .draft 0 yard)
    (fun t => ((t.slot 0).step, (t.slot 0).notBefore, (t.slot 0).deadline,
      t.link.composed.map Response.status)) = some (2, 600, 3600, some .clamped) := by decide
/-- R159, R167, R170: an OPEN order for a CLOSED step starts at its posting. -/
theorem test_post_order : ran (.postOrder 1 0 0) (slotIn .draft 2 closedYard)
    (fun t => ((t.slot 0).state, (t.stepRec 0).state, t.arb.holder)) = some (.executing, .opening, .oe) := by decide
/-- R160. -/
theorem test_withdraw_order : ran (.withdrawOrder 1 0 0) (postedYard 1 yard) (fun t => (t.slot 0).outcome) =
    some (some .withdrawn) := by decide
/-- R161, R156. -/
theorem test_retire_order : ran (.retireOrder 1 0 0) { slotIn .finished 1 yard with oe.freeQueue := [3] }
    (fun t => ((t.slot 0).state, (t.slot 0).generation, t.oe.freeQueue)) = some (.free, 1, [3, 0]) := by decide
/-- Section 11.9.8. -/
theorem test_read_order : answer (.readOrder 1 1 0 9 0) ((slotIn .draft 4 yard).modSlot 0 fun o => { o with deadline := 258 }) =
    some (some (.ok, [0, 0, 1, 4, 0, 0, 0, 0, 1, 2, 0, 0, 0])) := by decide
/-- R184. -/
theorem test_stage_lines : ran (.stageLines 1 2 0 1) yard (fun t => ((t.lines 2).stagedTrip, tripLine t 2)) =
    some (true, false) := by decide
/-- R185. -/
theorem test_handover : ran (.handover 1 2)
    (({ yard with io.inp2.level := true }.modLines 2 fun l => { l with stagedTrip := true }).modStep 2
      fun r => { r with retired := true })
    (fun t => ((t.lines 2).direct, tripLine t 2, closeLine t 2)) = some (true, true, false) := by decide
/-- R186. -/
theorem test_drive_lines : ran (.driveLines 1 2 1 0) (yard.modLines 2 fun l => { l with direct := true })
    (fun t => (closeLine t 2, tripLine t 2, (t.stepRec 2).lastSource)) = some (true, false, .direct) := by decide
/-- R187. -/
theorem test_return_lines : ran (.returnLines 1 2) (yard.modLines 2 fun _ => ⟨true, true, false, true, false⟩)
    (fun t => (t.lines 2, closeLine t 2)) = some (⟨false, false, false, false, false⟩, false) := by decide
/-- Section 11.9.9. -/
theorem test_read_lines : answer (.readLines 1) (yard.modLines 2 fun _ => ⟨true, false, true, false, true⟩) =
    some (some (.ok, [0, 0, 21, 0, 0, 0, 0, 0, 0, 7, 0, 0, 0])) := by decide

/-- R193, R8: an idle tick. -/
theorem test_tick : (match step { yard with clock := ⟨6, 999⟩ } with
    | .next t => some (t.clock, t.rx.windowTimer)
    | .fault _ => none
    | .refused _ => none) = some (⟨7, 0⟩, 39) := by decide +kernel

/-! ### Witnesses: states that meet the hypotheses of each statement, clause by clause -/

/-- A command at the front of the queue. -/
def asked (c : Instr) (s : State) : State := { s with pending := [c] }

theorem witness_EmptyQueueRunsThePart :
    ({ yard with resetHeld := true } : State).pending = [] ∧ pulseReady dueYard = true ∧ pulseReady yard = false ∧
    windowEndReady { yard with rx.ends := [.failed .short] } = true ∧ windowEndReady yard = false ∧
    ({ yard with mu.computing := some ⟨[], 10240, 8000⟩ } : State).mu.computing ≠ none ∧
    (inHand true yard).rx.inHand = some ⟨true, true, true, true⟩ ∧ yard.rx.inHand = none ∧
    ({ yard with link.composed := some Response.idle } : State).link.composed ≠ none ∧ yard.link.composed = none := by
  decide

/-- Step 0 in the last millisecond of its cooldown. -/
def coolingYard : State := openYard.modTimers 0 fun d => { d with cooldown := 1 }

theorem witness_EmptyQueueRunsThePart_tick :
    (∀ c, remaining yard c ≠ 1) ∧ remaining coolingYard (.cooldownExpiry 0) = 1 ∧
    (∀ d, d ≠ Instr.cooldownExpiry 0 → remaining coolingYard d ≠ 1) ∧
    (openingYard.lane 0).op = some ⟨.trip, .oe, .inMotion, true⟩ ∧
    ({ yard with arb.busy := .settling 2 } : State).arb.busy = .settling 2 ∧
    ({ yard with hs.watch := some ⟨0, 10, 7⟩ } : State).hs.watch = some ⟨0, 10, 7⟩ := by
  refine ⟨?_, by decide, ?_, by decide, by decide, by decide⟩
  · intro c
    cases c <;> first | exact Nat.zero_ne_one | decide | (rename_i i; revert i; decide)
  · intro d hd
    cases d <;> first | exact Nat.zero_ne_one | decide | (rename_i i; revert i; decide)

theorem witness_ResetHoldsThePart :
    ({ yard with resetHeld := true } : State).resetHeld = true ∧ Instr.poll 1 ≠ .resetAssert := by decide

theorem witness_RequestFramesReadBack :
    (Instr.badCode 0xFF 1).wellFormed = true ∧ (encodeFrame (.badCode 0xFF 1)).isSome = true ∧
    (Instr.fillOrder 1 31 255 8 7 1 65535 65535).wellFormed = true ∧
    (encodeFrame (.fillOrder 1 31 255 8 7 1 65535 65535)).isSome = true ∧
    (frameBits [0x01, 0x2A]).length < 128 ∧ (1 : Nat) < [(0x01 : Byte), 0x2A].length := by decide

theorem witness_AlarmSetKeepsOneEntryEach :
    let s := asked (.ackAll 1) (withAlarm ⟨.fastOv, .yard, 100, false, true, false⟩ yard)
    AlarmsOk s ∧ ∃ t, step s = .next t := ⟨by unfold AlarmsOk; decide, _, rfl⟩

theorem witness_TimedBlocksFollowTheirTimers :
    let s := asked (.cooldownExpiry 0)
      ((openYard.modTimers 0 fun d => { d with cooldown := 1 }).modStep 0 fun r => { r with cooling := true })
    TimedBlocksOk s ∧ ∃ t, step s = .next t := ⟨by unfold TimedBlocksOk; decide, _, rfl⟩

theorem witness_ClosedOrderListHoldsServingSteps :
    let s := asked (.inputLevelChange .inp1 true) closedYard
    ClosedOrderOk s ∧ ∃ t, step s = .next t := ⟨by unfold ClosedOrderOk; decide, _, rfl⟩

/-- One POSTED order, waiting for its not-before; the other slots FREE. -/
def poolYard : State :=
  { (postedYard 1 openYard).modSlot 0 fun o => { o with notBeforeTimer := some 5 } with
    oe.freeQueue := (List.finRange 31).map Fin.succ }

theorem witness_OrderPoolStaysPartitioned :
    let s := asked (.withdrawOrder 1 0 0) poolYard
    PoolOk s ∧ ∃ t, step s = .next t := ⟨by unfold PoolOk; decide +kernel, _, rfl⟩

/-- A learning on step 0 with its order EXECUTING; the other slots FREE. -/
def learningYard : State :=
  { slotIn .executing 6 (closedYard.modUnb 0 fun u => { u with armed := true, learning := some ⟨3, 0, 0⟩ }) with
    oe.executing := some 0, oe.freeQueue := (List.finRange 31).map Fin.succ }

theorem witness_OrderPoolStaysPartitioned_learning :
    let s := asked (.inputLevelChange .inp1 true) learningYard
    PoolOk s ∧ EngineOk s ∧ ∃ t, step s = .next t := by
  refine ⟨by unfold PoolOk; decide +kernel, ⟨?_, ?_⟩, _, rfl⟩
  · intro i l h
    have hi : i = 0 := by
      by_contra hi
      have hn : ∀ i : StepId, i ≠ 0 →
          ((asked (.inputLevelChange .inp1 true) learningYard).unb i).learning = none := by decide
      rw [hn i hi] at h
      cases h
    subst hi
    exact ⟨0, by decide⟩
  · intro i o h
    have hn : ∀ i : StepId, ((asked (.inputLevelChange .inp1 true) learningYard).lane i).op = none := by decide
    rw [hn i] at h
    cases h

theorem witness_NothingThatCouldStartIsLeft :
    let s := asked (.notBeforeElapsed 0) poolYard
    PoolOk s ∧ Settled s ∧ ∃ t, step s = .next t :=
  ⟨by unfold PoolOk; decide +kernel, by unfold Settled; decide, _, rfl⟩

theorem witness_OwnershipAndArmingStand :
    (let s := asked (.returnLines 1 2)
       (({ yard with io.inp2.level := true }.modLines 2 fun _ => ⟨true, false, true, false, true⟩).modStep 2
         fun r => { r with retired := true })
     DirectOk s ∧ ∃ t, step s = .next t) ∧
    (let s := asked (.inputLevelChange .inp1 true) (closedYard.modUnb 0 fun u => { u with armed := true })
     ArmedOk s ∧ ∃ t, step s = .next t) ∧
    (let s := asked .unbalanceEvaluation
       (inHand true (openYard.modUnb 0 fun u => { u with armed := true, departed := true }))
     ArmedOk s ∧ ∃ t, step s = .next t) :=
  ⟨⟨by unfold DirectOk; decide, _, rfl⟩, ⟨by unfold ArmedOk WindowAtUnit; decide, _, rfl⟩,
    by unfold ArmedOk WindowAtUnit; decide, _, rfl⟩

theorem witness_FiguresStayInRange :
    let s := asked .unbalanceEvaluation
      (inHand true (closedYard.modUnb 0 fun u => { u with learning := some ⟨15, 32767, -32767⟩ }))
    FiguresOk s ∧ ∃ t, step s = .next t := by
  refine ⟨⟨⟨?_, by decide, by decide, by decide, by decide, ?_⟩, ?_, ?_⟩, _, rfl⟩
  · intro y; cases y <;> decide
  · intro i
    refine ⟨?_, ?_⟩
    · intro p hp; cases p <;> first | exact absurd rfl hp | (revert i; decide)
    · revert i; decide
  · unfold EntryOk
    intro c
    have h : look (asked .unbalanceEvaluation (inHand true (closedYard.modUnb 0 fun u =>
        { u with learning := some ⟨15, 32767, -32767⟩ }))).mu.entries c = ChanEntry.released := by
      revert c; decide
    rw [h]
    simp [ChanEntry.released]
  · unfold LearningOk
    intro i l h
    have : i = 0 := by
      by_contra hi
      have : ∀ i : StepId, i ≠ 0 → ((asked .unbalanceEvaluation (inHand true (closedYard.modUnb 0 fun u =>
        { u with learning := some ⟨15, 32767, -32767⟩ }))).unb i).learning = none := by decide
      rw [this i hi] at h
      cases h
    subst this
    have h' : some (⟨15, 32767, -32767⟩ : Learning) = some l := h
    cases h'
    decide

theorem witness_CountersStayWithinTheirDelays :
    let s := asked .vcEvaluation (inHand true { yard with vc.auto := true, vc.lowAcc := 1500, vc.deadAcc := 50 })
    CountersOk s ∧ ∃ t, step s = .next t := ⟨by unfold CountersOk; decide, _, rfl⟩

theorem witness_FrameEndAdvancesTheReceiver :
    synced.resetHeld = false ∧ synced.rx.assembly = some ⟨0, false⟩ ∧
    (look (frameWith 3).slots 15).getLsbD 0 = true ∧ (frameWith 3).bitCount = 256 ∧ synced.rx.feedLive = false ∧
    (look (frameWith 0).slots 15).getLsbD 0 = false := by decide

/-- R13, R14, R40: the fourth word that shows step 0 CLOSED delivers it; R47: the feed's return resolves step 1. -/
theorem test_frame_end_delivers : ran (.frameEnd ⟨256, put (put (Vector.replicate 16 0) 15 1) 14 2⟩)
    { (inState 1 (.faulted .noIndication) synced).modStep 1 fun r => { r with indicated := some .opened } with
      rx.debounce := put synced.rx.debounce 0 ⟨none, some .closed, 3⟩ }
    (fun t => ((t.stepRec 0).state, (t.stepRec 1).state, t.tbl.closedOrder)) = some (.closed, .opened, [0]) := by
  decide +kernel

theorem witness_ReceiverSyncAndTimers :
    yard.resetHeld = false ∧ yard.rx.assembly = none ∧
    ({ yard with rx.feedLive := true, rx.feedTimer := some 0 } : State).rx.feedTimer = some 0 ∧
    ({ yard with rx.feedLive := true, rx.feedTimer := some 0 } : State).rx.feedLive = true ∧
    YardSettings.default.nominalFrequency = 50 ∧
    { YardSettings.default with nominalFrequency := 60 }.nominalFrequency = 60 := by decide

/-- INP0 at a pin level other than its level, with its candidate counted. -/
def filtering (n : Nat) : State := { yard with io.inp0 := ⟨true, false, some true, n⟩ }

theorem witness_FiltersSettleOnTheFourthSample :
    ((⟨none, none, 0⟩ : Debounce).delivered ≠ some .closed ∧ (⟨none, none, 0⟩ : Debounce).candidate ≠ some .closed) ∧
    (⟨some .closed, none, 0⟩ : Debounce).delivered = some .closed ∧
    (⟨true, true, none, 0⟩ : InputFilter).pin = (⟨true, true, none, 0⟩ : InputFilter).level ∧
    (⟨true, false, none, 0⟩ : InputFilter).pin ≠ (⟨true, false, none, 0⟩ : InputFilter).level ∧
    (⟨true, false, none, 0⟩ : InputFilter).candidate ≠ some true ∧
    (⟨true, false, some true, 2⟩ : InputFilter).candidate = some true ∧
    (filtering 3).resetHeld = false ∧ ((filtering 3).input .inp0).pin ≠ ((filtering 3).input .inp0).level ∧
    ((filtering 3).input .inp0).candidate = some ((filtering 3).input .inp0).pin ∧
    ((filtering 3).input .inp0).count = 3 ∧ ((filtering 2).input .inp0).count < 3 := by decide

theorem witness_DeliveryActsOnTheStepState :
    ((inState 0 .absent yard).stepRec 0).state = .absent ∧ (yard.stepRec 0).state = .unknown ∧
    (openYard.stepRec 0).state = .opened ∧ (closedYard.stepRec 0).state = .closed ∧
    (closedYard.lines 0).direct = false ∧ (openYard.lines 0).direct = false ∧
    ((inState 0 (.faulted .noIndication) yard).stepRec 0).state = .faulted .noIndication ∧
    ((closingYard.stepRec 0).state = .closing ∧
      (closingYard.lane 0).op = some ⟨.close .immediate, .oe, .inMotion, true⟩ ∧
      (closingYard.lane 0).confirm = some 1) ∧
    (openingYard.stepRec 0).state = .opening ∧ (openingYard.lane 0).op = some ⟨.trip, .oe, .inMotion, true⟩ ∧
    (openingYard.lane 0).confirm = some 1 ∧
    (let s := (openingYard.modTimers 0 fun d => { d with arming := true }).modStep 0 fun r => { r with suspect := true }
     (s.timers 0).arming = true ∧ (s.stepRec 0).suspect = true ∧ (s.stepRec 0).state = .opening ∧
     0 < s.cfg.yard.harmHoldoff) ∧
    (openingYard.timers 0).arming = false ∧ (openingYard.stepRec 0).suspect = false ∧
    (executing closingYard).oe.executing = some 0 ∧ closingYard.oe.executing = none ∧
    ({ closingYard with arb.vcRequest := .urgent } : State).arb.vcRequest = .urgent ∧
    closingYard.cfg.yard.settleClose ≠ 0 := by decide

/-- A state with one POSITION_INVALID entry, of step 0, acknowledged. -/
def invalidShown (s : State) : State :=
  { s with link.alarms := [⟨.positionInvalid, .step 0, 0, true, true, false⟩] }

theorem witness_DeliveryActsOnTheStepState_invalid :
    AlarmAbsent .positionInvalid (.step 0) (inState 0 (.faulted .noIndication) yard) ∧
    ¬AlarmAbsent .positionInvalid (.step 0) (invalidShown (inState 0 (.faulted .positionInvalid) yard)) ∧
    ((invalidShown (inState 0 (.faulted .positionInvalid) yard)).stepRec 0).state = .faulted .positionInvalid ∧
    (openYard.stepRec 0).retired = false ∧ 0 ∉ openYard.tbl.closedOrder ∧
    ((closedYard.modUnb 0 fun u => { u with alarmActive := true }).unb 0).alarmActive = true ∧
    WindowAtUnit (inHand true closedYard) ∧ ¬WindowAtUnit closedYard ∧
    ((closingYard.modUnb 0 fun u => { u with departed := true }).unb 0).departed = true := by
  unfold AlarmAbsent WindowAtUnit; decide

/-- R45, R62: an INVALID for a FAULTED step leaves a POSITION_INVALID entry as it stands, acknowledged or not; an
OPEN takes it away. -/
theorem test_invalid_again_keeps_entry :
    (applyDelivery (0, .invalid) (invalidShown (inState 0 (.faulted .positionInvalid) yard))).link.alarms =
      [⟨.positionInvalid, .step 0, 0, true, true, false⟩] ∧
    (applyDelivery (0, .opened) (invalidShown (inState 0 (.faulted .positionInvalid) yard))).link.alarms = [] := by
  decide

theorem witness_WindowEndSetsTheMeasurementState :
    (let s : State := { yard with rx.ends := [.good [] 1 1] }
     s.resetHeld = false ∧ s.rx.inHand = none ∧ s.mu.computing = none ∧ s.rx.ends = .good [] 1 1 :: []) ∧
    (let s : State := { yard with rx.ends := [.failed .short], rx.meas := .holding, rx.failedCount := 3 }
     s.resetHeld = false ∧ s.rx.inHand = none ∧ s.mu.computing = none ∧ s.rx.ends = .failed .short :: [] ∧
     s.rx.meas = .holding ∧ s.rx.failedCount = 3) := by decide

/-- A SYNCHRONIZED close of step 0 alone in flight, for a window end. -/
def waitingYard (src : Requester) (ph : Phase) : State :=
  openYard.modLane 0 fun l => { l with op := some ⟨.close .synchronized, src, ph, true⟩ }

/-- A delivery to the step of a close that waits, and to a suspect step with its RESONANCE entry. -/
theorem witness_DeliveryActsOnTheStepState_held :
    (let s := waitingYard .vc .scheduled
     (s.stepRec 0).state = .opened ∧ s.io.inp0.level = false ∧
     (s.lane 0).op = some ⟨.close .synchronized, .vc, .scheduled, true⟩ ∧ Phase.scheduled ≠ .inMotion) ∧
    (executing (waitingYard .oe .awaitingValid)).oe.executing = some 0 ∧
    (waitingYard .oe .awaitingValid).oe.executing = none ∧
    (let s := closedYard.modStep 0 fun r => { r with suspect := true }
     (s.stepRec 0).suspect = true ∧ (s.stepRec 0).state = .closed ∧ (s.timers 0).arming = false) := by decide

/-- R77: a step shown closed ends the order's close that waits on it, PREEMPTED with NOT_OPEN. -/
theorem test_uncommanded_close_ends_held_close :
    (let t := applyDelivery (0, .closed) (executing (waitingYard .oe .awaitingValid))
     ((t.lane 0).op, (t.slot 0).outcome, (t.slot 0).reason)) = (none, some .preempted, some .notOpen) := by decide

/-- R52, R71, R130: an invalid position of a suspect CLOSED step arms its holdoff and ends the cause of RESONANCE. -/
theorem test_invalid_clears_suspect :
    (let t := applyDelivery (0, .invalid)
       (withAlarm ⟨.resonance, .step 0, 0, false, true, false⟩ (closedYard.modStep 0 fun r => { r with suspect := true }))
     ((t.stepRec 0).suspect, (t.timers 0).arming, t.link.alarms.map fun e => (alarmCode e.kind, e.cause))) =
    (false, true, [(1, false), (6, true)]) := by decide

/-- A close that waits on step 0 stands alone beside a protective trip in flight on step 1. -/
theorem witness_WindowEndSetsTheMeasurementState_beside :
    (let s := (waitingYard .oe .awaitingValid).modLane 1 fun l => { l with op := some ⟨.trip, .protection, .inMotion, false⟩ }
     NoOtherHeldClose 0 s ∧ (s.lane 0).op = some ⟨.close .synchronized, .oe, .awaitingValid, true⟩) ∧
    NoOtherHeldClose 0 (waitingYard .vc .scheduled) ∧ NoOtherHeldClose 0 (waitingYard .oe .scheduled) := by
  unfold NoOtherHeldClose; decide

theorem witness_WindowEndSetsTheMeasurementState_close :
    ((waitingYard .oe .awaitingValid).lane 0).op = some ⟨.close .synchronized, .oe, .awaitingValid, true⟩ ∧
    ((waitingYard .vc .scheduled).lane 0).op = some ⟨.close .synchronized, .vc, .scheduled, true⟩ ∧
    pulseDelay (1 : BitVec 5).toNat (mechFrames (yard.stepCfg 0).mechTime yard.cfg.yard.nominalFrequency) = 15 ∧
    pulseDelay (0 : BitVec 5).toNat (mechFrames (yard.stepCfg 0).mechTime yard.cfg.yard.nominalFrequency) = 0 ∧
    (openYard.stepRec 0).state = .opened ∧ openYard.io.inp0.level = false ∧ (openYard.stepRec 0).cooling = false ∧
    (openYard.stepRec 0).holdoff = false ∧ (openYard.stepRec 0).lockout = none ∧
    (openYard.stepRec 0).retired = false ∧ (openYard.lines 0).direct = false ∧
    (waitingYard .oe .scheduled).seq.syncWait ≠ some 0 ∧
    ({ waitingYard .oe .scheduled with seq.syncWait := some 0 } : State).seq.syncWait = some 0 ∧
    (executing (waitingYard .oe .scheduled)).oe.executing = some 0 := by decide

/-- R79, R80: the good window's frame 9 at wave position 1 schedules the pulse for frame 24. -/
theorem test_window_end_schedules : ran .windowEnd
    { waitingYard .oe .awaitingValid with rx.ends := [.good [] 9 1] }
    (fun t => (t.seq.schedule, (t.lane 0).op.map Operation.phase)) = some (some ⟨24, 0⟩, some .scheduled) := by decide

theorem witness_ScheduledPulseStartsTheClose :
    dueYard.resetHeld = false ∧ dueYard.seq.schedule = some ⟨0, 0⟩ ∧
    (dueYard.rx.frameNumber - (⟨0, 0⟩ : Schedule).pulseFrame).toNat < 2147483648 ∧
    (dueYard.lane 0).op = some ⟨.close .synchronized, .oe, .scheduled, true⟩ ∧ dueYard.rx.meas = .valid ∧
    dueYard.io.inp0.level = false ∧ (dueYard.stepRec 0).state = .opened ∧ (dueYard.stepRec 0).lockout = none ∧
    (dueYard.stepRec 0).cooling = false ∧ (dueYard.stepRec 0).holdoff = false ∧
    (dueYard.stepRec 0).retired = false ∧ (dueYard.lines 0).direct = false ∧
    ({ openYard with io.inp0.level := true } : State).io.inp0.level = true ∧ openYard.rx.meas ≠ .valid ∧
    ({ openYard with rx.meas := .valid, rx.wave := 1 } : State).rx.meas = .valid ∧
    pulseDelay (1 : BitVec 5).toNat (mechFrames (yard.stepCfg 0).mechTime yard.cfg.yard.nominalFrequency) ≠ 0 ∧
    pulseDelay dueYard.rx.wave.toNat (mechFrames (yard.stepCfg 0).mechTime yard.cfg.yard.nominalFrequency) = 0 := by
  decide

/-- Every row of R77 holds somewhere, and a state where none does. -/
theorem witness_ScheduledPulseStartsTheClose_bars :
    CloseBarred 0 (some .inhibit) { dueYard with io.inp0.level := true } ∧
    CloseBarred 0 (some .notOpen) (inState 0 .closed dueYard) ∧
    CloseBarred 0 (some .faulted) (inState 0 (.faulted .positionInvalid) dueYard) ∧
    CloseBarred 0 (some .lockout) (dueYard.modStep 0 fun r => { r with lockout := some .unbalance }) ∧
    CloseBarred 0 none (dueYard.modStep 0 fun r => { r with cooling := true }) ∧
    CloseBarred 0 none (dueYard.modStep 0 fun r => { r with holdoff := true }) ∧
    CloseBarred 0 (some .retired) (dueYard.modStep 0 fun r => { r with retired := true }) ∧
    0 < dueYard.cfg.yard.harmHoldoff ∧
    closeBar dueYard 0 = none := by
  refine ⟨?_, ?_, ?_, ?_, ?_, ?_, ?_, by decide, by decide⟩ <;> (simp only [CloseBarred]; decide)

theorem witness_PhasorPartsAreRounded :
    (2 * (262144 * ((131072 : Int).sign * ((Int.natAbs 131072 + 131072) / 262144 : Nat)) - 131072)).natAbs = 262144 := by
  decide

theorem witness_MagnitudeAndTrueRms :
    ((formEntry .voltage 10240 8000 ⟨262144 * 32767, 262144 * 32767, 0, 0⟩).m = 32767) ∧
    (List.replicate 32 (-32768 : Int)).length = 32 ∧
    (∀ x ∈ List.replicate 32 (-32768 : Int), -32768 ≤ x ∧ x ≤ 32767) ∧
    32767 < isqrt ((formSums (List.replicate 32 (-32768))).ssq / 32) := by decide +kernel

theorem witness_FundamentalResidualAndLevels :
    (let e := formEntry .voltage 10240 8000 ⟨3145728000, -2359296000, 3663680000, 16850⟩
     e.f * e.f < e.r * e.r ∧ 328 ≤ e.f) ∧
    (let e := formEntry .voltage 10240 8000 ⟨0, 0, 0, 0⟩
     e.r * e.r ≤ e.f * e.f ∧ e.f < 328) ∧
    (formEntry .voltage 10240 8000 ⟨121634816, 0, 0, 0⟩).f = 328 ∧
    (formEntry .voltage 10240 8000 ⟨121372672, 0, 0, 0⟩).f = 327 := by decide

/-- A window of zeros under computation, channel 0 clipped in the table. -/
def publishing : State :=
  { yard with mu.computing := some ⟨List.replicate 32 (Vector.replicate 14 0), 10240, 8000⟩,
              mu.entries := put yard.mu.entries 0 { ChanEntry.released with clipped := true } }

/-- A window with channel 13 at its limit under computation. -/
def publishingClipped : State :=
  { yard with mu.computing := some ⟨List.replicate 32 (put (Vector.replicate 14 0) 13 32767), 10240, 8000⟩ }

theorem witness_PublicationReplacesTheTable :
    publishing.resetHeld = false ∧
    publishing.mu.computing = some ⟨List.replicate 32 (Vector.replicate 14 0), 10240, 8000⟩ ∧
    (look publishing.mu.entries 0).clipped = true ∧
    (ran .publication publishing fun t => (look t.mu.entries 0).clipped) = some false ∧
    (look publishingClipped.mu.entries 13).clipped = false ∧
    (ran .publication publishingClipped fun t => (look t.mu.entries 13).clipped) = some true ∧
    (publishingClipped.stepRec 7).fitted = true ∧
    (look publishing.mu.entries 1).clipped = false ∧
    (ran .publication publishing fun t => (look t.mu.entries 1).clipped) = some false ∧
    (let s := publishingClipped.modStep 7 fun r => { r with fitted := false }
     (s.stepRec 7).fitted = false ∧ (ran .publication s fun t => (look t.mu.entries 13).clipped) = some true) := by
  decide +kernel

/-- R35: the neutral channel of a step that is not fitted raises nothing, that of a fitted step does. -/
theorem test_clipped_of_unfitted_raises_nothing :
    (ran .publication (publishingClipped.modStep 7 fun r => { r with fitted := false }) fun t => t.link.alarms.length) =
      some 0 ∧
    (ran .publication publishingClipped fun t => t.link.alarms.length) = some 1 := by decide +kernel

theorem witness_VoltageControlEvaluatesAGoodWindow :
    (let s := inHand true (busAt 299 none { closedYard with vc.deadAcc := 49 })
     s.resetHeld = false ∧ s.rx.inHand = some ⟨true, true, true, true⟩ ∧ s.mu.computing = none ∧
     (look s.mu.entries 0).p < s.cfg.yard.deadLevel ∧ s.vc.deadAcc + 1 = s.cfg.yard.deadDelay ∧
     s.vc.deadOpened = false ∧ (s.stepRec 0).state = .closed ∧ (s.lines 0).direct = false) ∧
    (let s := inHand true (busAt 1080 none { yard with vc.auto := true, vc.fastAcc := 24 })
     s.resetHeld = false ∧ s.rx.inHand = some ⟨true, true, true, true⟩ ∧ s.mu.computing = none ∧ s.vc.auto = true ∧
     s.cfg.yard.fastLevel ≤ (look s.mu.entries 0).p ∧ s.cfg.yard.fastDelay ≤ s.vc.fastAcc + 1) := by decide

theorem witness_VoltageControlEvaluatesAGoodWindow_steps :
    (let s : State := { selection 1080 with vc.fastAcc := 24 }
     s.cfg.yard.fastLevel ≤ s.vc.vctrl ∧ s.cfg.yard.fastDelay ≤ s.vc.fastAcc + 1 ∧
     yard.vc.fastAcc + 1 < s.cfg.yard.fastDelay ∧ yard.vc.vctrl < s.cfg.yard.fastLevel) ∧
    (let s : State := { selection 962 with vc.lowReached := true }
     s.vc.request = .idle ∧ s.vc.lowReached = true ∧ s.hs.vActive = false ∧ s.io.inp0.level = false ∧
     addCandidate s = some 5) ∧
    addCandidate yard = none ∧ ({ yard with hs.vActive := true } : State).hs.vActive = true ∧
    (let s : State := { selection 1048 with vc.highReached := true }
     s.vc.lowReached = false ∧ s.vc.highReached = true ∧ removeCandidate s = some 0) ∧
    removeCandidate yard = none ∧ yard.vc.deadAcc = 0 ∧ (∀ i, NoOtherHeldClose i yard) ∧
    (let s : State := { waitingYard .vc .scheduled with vc.deadAcc := 1 }
     (s.lane 0).op = some ⟨.close .synchronized, .vc, .scheduled, true⟩ ∧ 0 < s.vc.deadAcc ∧
     NoOtherHeldClose 0 s) ∧
    ((waitingYard .oe .scheduled).lane 0).op = some ⟨.close .synchronized, .oe, .scheduled, true⟩ := by
  unfold NoOtherHeldClose; decide +kernel

/-- The three yard current channels at a D. -/
def currentAt (d : Option Nat) (s : State) : State :=
  { s with mu.entries := put (put (put s.mu.entries 3 (entryWith 0 d)) 4 (entryWith 0 d)) 5 (entryWith 0 d) }

theorem witness_VoltageControlEvaluatesAGoodWindow_ends :
    (let s := inHand true (busAt 1000 none { yard with vc.auto := true, vc.deadOpened := true, vc.fastCondition := true })
     s.resetHeld = false ∧ s.rx.inHand = some ⟨true, true, true, true⟩ ∧ s.mu.computing = none ∧ s.vc.auto = true ∧
     s.cfg.yard.deadLevel ≤ (look s.mu.entries 2).p ∧ (look s.mu.entries 0).p < s.cfg.yard.fastLevel ∧
     s.vc.deadOpened = true ∧ s.vc.fastCondition = true) := by decide

theorem witness_HarmonicSupervisorEvaluatesAGoodWindow :
    (let s := inHand true (busAt 1000 (some 100) { closedYard with hs.tripCount := 99, hs.vCount := 249 })
     s.resetHeld = false ∧ s.rx.inHand = some ⟨true, true, true, true⟩ ∧ s.mu.computing = none ∧
     s.tbl.closedOrder ≠ [] ∧ (ran .harmonicEvaluation s fun t => (t.hs.vActive, t.hs.dv)) = some (true, some 100)) ∧
    (let s := inHand true (busAt 1000 (some 46) { yard with hs.vActive := true })
     s.resetHeld = false ∧ (ran .harmonicEvaluation s fun t => t.hs.vActive) = some false) ∧
    (let s := inHand true (busAt 1000 (some 60) { closedYard with hs.watch := some ⟨0, 45, 9000⟩ })
     s.resetHeld = false ∧ s.hs.watch = some ⟨0, 45, 9000⟩ ∧ (s.stepRec 0).retired = false ∧
     (s.stepRec 0).state = .closed ∧ 0 ∈ s.tbl.closedOrder ∧
     (ran .harmonicEvaluation s fun t => t.hs.dv) = some (some 60) ∧ 45 + s.cfg.yard.resonanceRise ≤ 60 ∧
     s.cfg.yard.dvAlarm ≤ 60) ∧
    (openYard.stepRec 0).state ≠ .closed ∧ ¬45 + yard.cfg.yard.resonanceRise ≤ 59 ∧
    (let s := inHand true (currentAt (some 150) { yard with hs.iCount := 249 })
     s.resetHeld = false ∧ (ran .harmonicEvaluation s fun t => t.hs.iActive) = some true) ∧
    (let s := inHand true (currentAt (some 141) { yard with hs.iActive := true })
     (ran .harmonicEvaluation s fun t => t.hs.iActive) = some false) ∧
    (let s := inHand true (busAt 1000 (some 99) { yard with hs.shedding := true })
     (ran .harmonicEvaluation s fun t => (t.hs.shedding, t.hs.dv)) = some (false, some 99)) ∧
    (ran .harmonicEvaluation (inHand true { yard with hs.shedding := true }) fun t => (t.hs.shedding, t.hs.dv)) =
      some (true, none) := by decide

theorem witness_ShedTakesHeadOrTail :
    closedYard.tbl.closedOrder = 0 :: [] ∧ (closedYard.stepRec 0).suspect = false ∧
    ((closedYard.modStep 0 fun r => { r with suspect := true }).stepRec 0).suspect = true ∧
    (closedYard.stepRec 0).state = .closed ∧ (closedYard.lines 0).direct = false ∧
    (openingYard.stepRec 0).state = .opening ∧
    (let s := inHand true (busAt 1000 (some 100) closedYard)
     s.resetHeld = false ∧ s.rx.inHand = some ⟨true, true, true, true⟩ ∧ s.mu.computing = none) ∧
    (let s : State := { closedYard with hs.dv := some 100, hs.tripCount := 99 }
     s.hs.dv = some 100 ∧ s.cfg.yard.dvTrip ≤ 100 ∧ s.cfg.yard.harmTripDelay ≤ s.hs.tripCount + 1 ∧
     s.hs.shedding = false ∧ shedChoice s = some 0 ∧ shedChoice yard = none ∧ 98 + 1 < s.cfg.yard.harmTripDelay) ∧
    (let s : State := { waitingYard .vc .scheduled with hs.dv := some 50, hs.vCount := 249 }
     (hsStageV s).hs.vActive = true ∧ s.hs.vActive = false ∧ NoOtherHeldClose 0 s ∧
     (s.lane 0).op = some ⟨.close .synchronized, .vc, .scheduled, true⟩) ∧
    (waitingYard .oe .scheduled).hs.vActive = false ∧ (hsStageV yard).hs.vActive = false ∧
    ∀ i, NoOtherHeldClose i yard := by
  unfold NoOtherHeldClose; decide

theorem witness_SuspectMarkMovesToTheHead :
    ((closedYard.stepRec 0).retired = false ∧ (closedYard.stepRec 0).state = .closed ∧ 0 ∈ closedYard.tbl.closedOrder) ∧
    ¬((openYard.stepRec 0).retired = false ∧ (openYard.stepRec 0).state = .closed ∧ 0 ∈ openYard.tbl.closedOrder) := by
  decide

theorem witness_FailedWindowHoldsOrClears :
    (let s := inHand false { yard with rx.meas := .holding }
     s.resetHeld = false ∧ s.rx.inHand = some ⟨false, true, true, true⟩ ∧ s.mu.computing = none ∧
     s.rx.meas = .holding) ∧
    (let s := inHand false { yard with rx.meas := .stale }
     s.rx.inHand = some ⟨false, true, true, true⟩ ∧ s.rx.meas ≠ .holding) ∧
    (learningYard.unb 0).learning ≠ none ∧ learningYard.oe.executing = some 0 ∧ (∀ i, (yard.unb i).learning = none) := by decide

theorem witness_UnbalanceFigureIsFormed :
    (-32767 ≤ { ChanEntry.released with re := 32767, im := -32767 }.re ∧
      { StepSettings.default with baselineRe := -32767 }.baselineRe = -32767) ∧
    { ChanEntry.released with clipped := true }.clipped = true ∧ ChanEntry.released.clipped = false ∧
    ((closedYard.modUnb 0 fun u => { u with armed := true }).unb 0).armed = true := by decide

/-- Step 0 armed, its neutral channel clipped, so that u is 9999. -/
def trippingYard (n : Nat) : State :=
  { closedYard.modUnb 0 fun u => { u with armed := true, tripCount := n } with
    mu.entries := put yard.mu.entries 6 { ChanEntry.released with clipped := true } }

theorem witness_UnbalanceTripLocksAndOpens :
    (let s := inHand true closedYard
     s.resetHeld = false ∧ s.rx.inHand = some ⟨true, true, true, true⟩ ∧ s.mu.computing = none) ∧
    ((openYard.unb 0).armed = false ∧ (openYard.stepRec 0).state ≠ .closed ∧ (openYard.unb 0).learning = none) ∧
    ((closedYard.unb 0).armed = false ∧ (closedYard.stepRec 0).state = .closed ∧ (closedYard.unb 0).armCount < 9) ∧
    (let s := closedYard.modUnb 0 fun u => { u with armCount := 9 }
     (s.unb 0).armed = false ∧ (s.stepRec 0).state = .closed ∧ (s.unb 0).armCount = 9 ∧
     formU (look s.mu.entries 6) (s.stepCfg 0) < (s.stepCfg 0).unbTrip) ∧
    (let s := trippingYard 24
     (s.unb 0).armed = true ∧ (s.unb 0).tripped = false ∧
     (s.stepCfg 0).unbTrip ≤ formU (look s.mu.entries 6) (s.stepCfg 0) ∧
     min ((s.unb 0).tripCount + 1) (s.stepCfg 0).unbTripDelay = (s.stepCfg 0).unbTripDelay ∧
     (s.stepRec 0).state = .closed ∧ (s.lines 0).direct = false) ∧
    (let s := trippingYard 23
     (s.unb 0).armed = true ∧
     min ((s.unb 0).tripCount + 1) (s.stepCfg 0).unbTripDelay ≠ (s.stepCfg 0).unbTripDelay) ∧
    (let s := (trippingYard 0).modUnb 0 fun u => { u with alarmCount := 249 }
     (s.unb 0).armed = true ∧ (s.unb 0).tripped = false ∧ (s.unb 0).learning = none ∧
     (s.stepCfg 0).unbAlarm ≤ formU (look s.mu.entries 6) (s.stepCfg 0) ∧
     min ((s.unb 0).alarmCount + 1) (s.stepCfg 0).unbAlarmDelay = (s.stepCfg 0).unbAlarmDelay) ∧
    (let s := closedYard.modUnb 0 fun u => { u with armed := true, alarmActive := true, alarmCount := 250 }
     (s.unb 0).alarmActive = true ∧ (s.unb 0).tripped = false ∧
     formU (look s.mu.entries 6) (s.stepCfg 0) < 95 * (s.stepCfg 0).unbAlarm / 100) ∧
    ∀ l, (learningYard.unb 0).learning = some l → l.count ≠ 15 := by
  refine ⟨by decide, by decide, by decide, by decide, by decide, by decide, by decide, by decide, ?_⟩
  intro l h
  have h : some (⟨3, 0, 0⟩ : Learning) = some l := h
  cases h
  decide

/-- Step 0 after an OPEN delivered behind a published good window end that the unbalance unit has to evaluate: its
trip is due at that window. -/
def leftYard : State := applyDelivery (0, .opened) (inHand true (trippingYard 24))

theorem witness_UnbalanceTripLocksAndOpens_departed :
    ((leftYard.unb 0).departed = true ∧ (leftYard.stepRec 0).state = .opened ∧ (leftYard.unb 0).armed = true ∧
     (leftYard.unb 0).tripped = false ∧
     (leftYard.stepCfg 0).unbTrip ≤ formU (look leftYard.mu.entries 6) (leftYard.stepCfg 0) ∧
     min ((leftYard.unb 0).tripCount + 1) (leftYard.stepCfg 0).unbTripDelay = (leftYard.stepCfg 0).unbTripDelay) ∧
    (let s := leftYard.modUnb 0 fun u => { u with armed := false, armCount := 9 }
     (s.unb 0).armed = false ∧ (s.unb 0).armCount = 9 ∧ (s.unb 0).departed = true) ∧
    (let s := leftYard.modUnb 0 fun u => { u with alarmActive := true }
     (s.unb 0).alarmActive = true ∧ (s.unb 0).departed = true) ∧
    ¬WindowAtUnit (trippingYard 24) ∧ WindowAtUnit (inHand true (trippingYard 24)) ∧
    ((trippingYard 24).unb 0).departed = false := by
  unfold WindowAtUnit; decide +kernel

/-- R138: a window end taken before the departure trips the step as an armed one; its open finds the step OPEN and
starts no pulse, LOCKOUT is added, and the step is disarmed. A departure taken first disarms it at once. -/
theorem test_ub_trip_after_departure :
    ran .unbalanceEvaluation leftYard (fun t =>
      ((t.unb 0).tripped, (t.stepRec 0).lockout, (t.stepRec 0).state, (t.lane 0).tripPulse, (t.unb 0).armed)) =
      some (true, some .unbalance, .opened, 0, false) ∧
    ((applyDelivery (0, .opened) (trippingYard 24)).unb 0).armed = false := by decide +kernel

theorem witness_LearningStoresTheRoundedMean_departed :
    (let s := executing (closedYard.modUnb 0 fun u => { u with learning := some ⟨15, 8, -8⟩, departed := true })
     (s.unb 0).departed = true ∧ (s.unb 0).learning = some ⟨15, 8, -8⟩ ∧ s.oe.executing = some 0 ∧
     (look s.mu.entries 6).clipped = false) ∧
    (let s := executing (closedYard.modUnb 0 fun u => { u with learning := some ⟨3, 0, 0⟩, departed := true })
     (s.unb 0).departed = true ∧ (s.unb 0).learning = some ⟨3, 0, 0⟩ ∧ s.oe.executing = some 0) ∧
    (closedYard.unb 0).departed = false := by decide

theorem witness_LearningStoresTheRoundedMean :
    (let s := executing (closedYard.modUnb 0 fun u => { u with learning := some ⟨15, 8, -8⟩ })
     (s.unb 0).learning = some ⟨15, 8, -8⟩ ∧ (look s.mu.entries 6).clipped = false ∧ s.oe.executing = some 0 ∧
     ((learnWindow 0 s).stepCfg 0).baselineRe = 1 ∧ ((learnWindow 0 s).stepCfg 0).baselineIm = -1) ∧
    (let s := (trippingYard 0).modUnb 0 fun u => { u with learning := some ⟨3, 0, 0⟩ }
     (s.unb 0).learning = some ⟨3, 0, 0⟩ ∧ (look s.mu.entries 6).clipped = true) := by decide

theorem witness_ExpiriesEndWhatRan :
    0 < ((yard.modTimers 0 fun d => { d with cooldown := 1 }).timers 0).cooldown ∧
    0 < ((yard.modTimers 0 fun d => { d with holdoffMs := 1 }).timers 0).holdoffMs ∧
    (poolYard.slot 0).notBeforeTimer = some 5 ∧
    (((postedYard 1 yard).modSlot 0 fun o => { o with deadlineTimer := some 1 }).slot 0).deadlineTimer = some 1 ∧
    yard.resetHeld = false := by decide

theorem witness_CloseConfirmExpiryFailsTheClose :
    (let s := executing { closingYard with rx.feedLive := true }
     s.resetHeld = false ∧ (s.stepRec 0).state = .closing ∧
     (s.lane 0).op = some ⟨.close .immediate, .oe, .inMotion, true⟩ ∧ (s.lane 0).confirm = some 1 ∧
     s.oe.executing = some 0 ∧ s.rx.feedLive = true) ∧
    (executing closingYard).rx.feedLive = false := by decide

theorem witness_OpenConfirmExpiryFaultsTheStep :
    (let s := executing { openingYard with rx.feedLive := true }
     s.resetHeld = false ∧ (s.stepRec 0).state = .opening ∧ (s.lane 0).op = some ⟨.trip, .oe, .inMotion, true⟩ ∧
     (s.lane 0).confirm = some 1 ∧ s.oe.executing = some 0 ∧ s.rx.feedLive = true) ∧
    (executing openingYard).rx.feedLive = false := by decide

theorem witness_SyncWaitSettleAndGrantRule :
    (let s : State := { executing (flying (.close .synchronized) .awaitingValid openYard) with seq.syncWait := some 1 }
     s.resetHeld = false ∧ s.seq.syncWait = some (0 + 1) ∧
     (s.lane 0).op = some ⟨.close .synchronized, .oe, .awaitingValid, true⟩ ∧ s.oe.executing = some 0 ∧
     NoOtherHeldClose 0 s) ∧
    (let s : State := { dueYard with seq.syncWait := some 1 }
     s.seq.syncWait = some (0 + 1) ∧ (s.lane 0).op = some ⟨.close .synchronized, .oe, .scheduled, true⟩ ∧
     NoOtherHeldClose 0 s) ∧
    ({ yard with arb.busy := .settling 1 } : State).arb.busy = .settling 1 ∧
    (⟨.vc, .notBusy, .ordinary, true⟩ : Arbiter).busy = .notBusy := by
  unfold NoOtherHeldClose; decide

theorem witness_EmergencyEdgeOpensEveryStep :
    closedYard.resetHeld = false ∧ closedYard.io.inp1.level = false ∧ (closedYard.stepRec 0).state = .closed ∧
    (closingYard.stepRec 0).state = .closing ∧ closingYard.io.inp1.level = false ∧
    (closedYard.lines 0).direct = false ∧
    ((closedYard.modLines 0 fun l => { l with direct := true }).lines 0).direct = true ∧
    ((executing closingYard).lane 0).op = some ⟨.close .immediate, .oe, .inMotion, true⟩ ∧
    (executing closingYard).oe.executing = some 0 ∧ (closingYard.stepRec 0).retired = false ∧
    0 ∉ closingYard.tbl.closedOrder ∧ (openYard.stepRec 0).state ≠ .closed ∧ (openYard.stepRec 0).state ≠ .closing := by decide

theorem witness_InputLevelsActAsTheirInput :
    yard.resetHeld = false ∧ yard.io.inp0.level = false ∧ yard.io.inp2.level = false ∧
    (let s : State := { yard with io := { Inputs.released ⟨true, true, true, false⟩ with
        lines := put yard.io.lines 2 ⟨true, false, true, false, true⟩ } }
     s.io.inp0.level = true ∧ s.io.inp1.level = true ∧ s.io.inp2.level = true ∧ (s.lines 2).direct = true) ∧
    ∀ i : StepId, (({ yard with io.inp2.level := true } : State).lines i).direct = false ∧
    ((∀ i, NoOtherHeldClose i yard) ∧ NoOtherHeldClose 0 (waitingYard .oe .scheduled) ∧
      NoOtherHeldClose 0 (waitingYard .vc .scheduled) ∧ (waitingYard .oe .scheduled).io.inp0.level = false ∧
      ((waitingYard .oe .scheduled).lane 0).op = some ⟨.close .synchronized, .oe, .scheduled, true⟩ ∧
      (executing (waitingYard .oe .scheduled)).oe.executing = some 0) := by
  unfold NoOtherHeldClose; decide

theorem witness_StationLinkFrames :
    Ready yard ∧ ({ yard with link.ready := false } : State).link.ready = false ∧
    ({ yard with link.composed := some Response.idle } : State).link.composed = some Response.idle ∧
    encodeFrame (.poll 1) = some ([0x01, 1] ++ List.replicate 14 0) ∧
    ({ yard with link.ignoring := true } : State).link.ignoring = true ∧ yard.link.ignoring = false ∧
    encodeFrame (.poll 1) ≠ none := by unfold Ready; decide

/-- R192, R204: a refused and overrun response, byte by byte, and numbers of two and four bytes. -/
theorem test_response_bytes :
    responseBytes ⟨0x10, 7, .badArg, true, 9 :: List.replicate 12 0⟩ = [0x10, 7, 0x84, 9] ++ List.replicate 12 0 ∧
    (9 :: List.replicate 12 (0 : Byte)).length = 13 ∧ be16 0x1234 = [0x12, 0x34] ∧
    be32 0x12345678 = [0x12, 0x34, 0x56, 0x78] ∧ sbe16 (-2) = [0xFF, 0xFE] ∧ sbe32 (-2) = [0xFF, 0xFF, 0xFF, 0xFE] := by
  decide

theorem witness_PollIdentAndBadCodeAnswer : Ready yard := by unfold Ready; decide

theorem witness_RecordReadsGiveTheRecord :
    Ready yard ∧ (7 : Byte).toNat = (7 : StepId).val ∧ (13 : Byte).toNat = (13 : ChanId).val ∧
    (2 : Byte).toNat ≤ 2 ∧ 8 ≤ (8 : Byte).toNat ∧ 14 ≤ (14 : Byte).toNat ∧ 3 ≤ (3 : Byte).toNat ∧
    2 ≤ (2 : Byte).toNat ∧
    (1 : Byte).toNat ≤ 1 := by unfold Ready; decide

theorem witness_YardSettingsReadAndWrite :
    Ready yard ∧ yardIdOf 0x11 = some .bandLow ∧ yardIdOf 0x01 = some .nominalFrequency ∧ yardIdOf 0x04 = none ∧
    yardConsistent yard.cfg.yard .bandLow 1015 = true ∧ yardConsistent yard.cfg.yard .bandLow 1016 = false := by
  unfold Ready; decide

theorem witness_StepSettingsReadAndWrite :
    Ready yard ∧ stepSettingIdOf 6 = some .unbTrip ∧ stepSettingIdOf 11 = none ∧ 8 ≤ (8 : Byte).toNat ∧
    (yard.stepCfg 0).unbAlarm = 50 := by unfold Ready; decide

theorem witness_DefaultSettingsRestoreAndCap : Ready { yard with vc.lowAcc := 3000 } := by unfold Ready; decide

theorem witness_SetModeActsAtOnce :
    Ready yard ∧ 1 < (2 : Byte).toNat ∧ yard.vc.auto = false ∧
    (let s : State := { (yard.modLane 0 fun l =>
        { l with op := some ⟨.close .synchronized, .vc, .scheduled, true⟩ }) with vc.auto := true }
     Ready s ∧ s.vc.auto = true ∧ (s.lane 0).op = some ⟨.close .synchronized, .vc, .scheduled, true⟩ ∧
     NoOtherHeldClose 0 s) ∧
    ∀ i, NoOtherHeldClose i yard := by unfold Ready NoOtherHeldClose; decide

theorem witness_AlarmNoticesAndAttn :
    AlarmAbsent .fastOv .yard yard ∧
    ¬AlarmAbsent .fastOv .yard (withAlarm ⟨.fastOv, .yard, 100, true, true, false⟩ yard) := by
  unfold AlarmAbsent; decide

theorem witness_ReadAlarmGivesTheEntry :
    (let s := withAlarm ⟨.fastOv, .yard, 100, true, true, false⟩ yard
     Ready s ∧ s.link.alarms[(0 : Byte).toNat]? = some ⟨.fastOv, .yard, 100, true, true, false⟩ ∧
     s.link.alarms.length ≤ (1 : Byte).toNat) := by unfold Ready; decide

theorem witness_AcknowledgementsFollowTheTable :
    Ready yard ∧ alarmKindOf 0x0F = some .fastOv ∧ subjectOf .fastOv 0xFF = some .yard ∧ subjectOf .fastOv 0 = none ∧
    alarmKindOf 0x00 = none ∧ AlarmAbsent .fastOv .yard yard ∧
    ¬AlarmAbsent .fastOv .yard (withAlarm ⟨.fastOv, .yard, 100, true, true, false⟩ yard) := by
  unfold Ready AlarmAbsent; decide

theorem witness_SlotsAreTakenAndReturned :
    Ready yard ∧ yard.oe.freeQueue = 0 :: (List.finRange 31).map Fin.succ ∧
    ({ yard with oe.freeQueue := [] } : State).oe.freeQueue = [] ∧ (31 : Byte).toNat = (31 : SlotId).val ∧
    (yard.slot 31).generation = 0 ∧ (yard.slot 31).state = .free ∧ ((slotIn .draft 0 yard).slot 0).state = .draft := by
  unfold Ready; decide

theorem witness_HandlesAreCheckedFirst :
    Ready yard ∧ 32 ≤ (32 : Byte).toNat ∧ (31 : Byte).toNat = (31 : SlotId).val ∧ (yard.slot 31).generation ≠ 1 := by
  unfold Ready; decide

theorem witness_FillOrderWritesTheFiveFields :
    Ready (slotIn .draft 0 yard) ∧ (0 : Byte).toNat = (0 : SlotId).val ∧
    ((slotIn .draft 0 yard).slot 0).generation = 0 ∧ ((slotIn .draft 0 yard).slot 0).state = .draft ∧
    (yard.slot 0).state ≠ .draft := by unfold Ready; decide

theorem witness_PostOrderChecksThenPosts :
    (let s := slotIn .draft 8 yard
     Ready s ∧ (s.slot 0).generation = 0 ∧ (s.slot 0).state = .draft ∧ 1 ≤ (s.slot 0).kind.toNat ∧
     (s.slot 0).kind.toNat ≤ 8 ∧ (s.slot 0).timing.toNat ≤ 1 ∧ (s.slot 0).step.toNat = (0 : StepId).val ∧
     (s.stepRec 0).state ≠ .absent ∧ (s.slot 0).deadline = 0) ∧
    ((slotIn .draft 9 yard).slot 0).kind.toNat = 9 ∧
    (let o := ((slotIn .draft 8 yard).modSlot 0 fun o => { o with notBefore := 5, deadline := 5 }).slot 0
     ¬(o.deadline = 0 ∨ o.notBefore < o.deadline)) ∧
    (yard.slot 0).state ≠ .draft := by unfold Ready; decide

theorem witness_WithdrawOrderByState :
    Ready (postedYard 1 yard) ∧ ((postedYard 1 yard).slot 0).state = .posted ∧
    ((executing yard).slot 0).state = .executing ∧ (yard.slot 0).state = .free ∧ (yard.slot 0).generation = 0 := by
  unfold Ready; decide

theorem witness_ReadOrderGivesTheRecord :
    Ready yard ∧ 32 ≤ (32 : Byte).toNat ∧ 1 < (2 : Byte).toNat ∧ (31 : Byte).toNat = (31 : SlotId).val ∧
    (1 : Byte).toNat ≤ 1 ∧ (yard.slot 31).generation ≠ 1 ∧ (yard.slot 31).generation = 0 := by unfold Ready; decide

/-- Slot 1 POSTED behind slot 0 for the same step. -/
def behindYard : State :=
  { (postedYard 1 openYard).modSlot 1 fun o => { o with state := .posted, kind := 1 } with oe.posted := [0, 1] }

theorem witness_ReadOrderGivesTheRecord_wait :
    (poolYard.slot 0).state = .posted ∧ (poolYard.slot 0).notBeforeTimer ≠ none ∧
    (poolYard.slot 0).step.toNat = (0 : StepId).val ∧
    (0 ∈ behindYard.oe.posted.takeWhile (· ≠ 1) ∧ (behindYard.slot 0).step.toNat = (0 : StepId).val ∧
      (behindYard.slot 1).state = .posted ∧ (behindYard.slot 1).notBeforeTimer = none) ∧
    ((postedYard 1 openYard).oe.posted.takeWhile (· ≠ 0) = [] ∧ (postedYard 1 openYard).oe.executing = none) ∧
    (closingYard.stepRec 0).state = .closing ∧
    ((openYard.modStep 0 fun r => { r with cooling := true }).stepRec 0).cooling = true ∧
    ((openYard.modStep 0 fun r => { r with holdoff := true }).stepRec 0).holdoff = true ∧
    ((postedYard 2 openYard).slot 0).kind ≠ 1 ∧
    (let s := executing (waitingYard .oe .scheduled)
     (s.slot 0).state = .executing ∧ (s.slot 0).kind = 1 ∧
     (s.lane 0).op = some ⟨.close .synchronized, .oe, .scheduled, true⟩) ∧
    (yard.slot 0).state = .free := by decide

/-- R165: the wait causes of an order behind another and of a close that waits for its pulse frame. -/
theorem test_wait_causes : waitCause behindYard 1 = some .earlierOrder ∧ waitCause behindYard 0 = some .right ∧
    waitCause (executing (waitingYard .oe .scheduled)) 0 = some .sync := by decide

/-- One POSTED order of a kind for step 0, free to start. -/
def loneOrder (kind : Byte) (s : State) : State := postedYard kind s

theorem witness_GrantedWorkReachesTheSequencer :
    (let s := loneOrder 2 closedYard
     s.oe.posted = [0] ∧ s.oe.executing = none ∧ (s.slot 0).step.toNat = (0 : StepId).val ∧
     (s.slot 0).notBeforeTimer = none ∧ s.arb.busy = .notBusy ∧ s.arb.vcRequest = .absent ∧ (s.slot 0).kind = 2 ∧
     (s.stepRec 0).state = .closed ∧ (s.stepRec 0).retired = false ∧ (s.lines 0).direct = false) ∧
    (let s := loneOrder 1 openYard
     s.oe.posted = [0] ∧ s.oe.executing = none ∧ (s.slot 0).step.toNat = (0 : StepId).val ∧
     (s.slot 0).notBeforeTimer = none ∧ s.arb.busy = .notBusy ∧ s.arb.vcRequest = .absent ∧ (s.slot 0).kind = 1 ∧
     (s.slot 0).timing = 0 ∧ (s.stepRec 0).cooling = false ∧ (s.stepRec 0).holdoff = false ∧
     s.io.inp0.level = false ∧ (s.stepRec 0).state = .opened ∧ (s.stepRec 0).lockout = none) ∧
    ((closedYard.modStep 0 fun r => { r with retired := true }).stepRec 0).retired = true ∧
    (yard.stepRec 0).state = .unknown ∧
    ((inState 0 (.faulted .noIndication) yard).stepRec 0).state = .faulted .noIndication ∧
    ((openYard.modLines 0 fun l => { l with direct := true }).lines 0).direct = true ∧
    ((openYard.modStep 0 fun r => { r with lockout := some .unbalance }).stepRec 0).lockout ≠ none ∧
    (let s : State := { closedYard with vc.fastDue := true }
     s.vc.fastDue = true ∧ s.tbl.closedOrder = 0 :: [] ∧ (s.stepRec 0).state = .closed) ∧
    (closedYard.unb 0).learning = none ∧ (openYard.unb 0).learning = none ∧ yard.tbl.closedOrder = [] ∧
    ((loneOrder 1 openYard).modSlot 0 fun o => { o with timing := 1 }).slot 0 =
      { (loneOrder 1 openYard).slot 0 with timing := 1 } ∧
    (let s : State := { selection 962 with vc.auto := true, vc.lowReached := true, rx.meas := .valid }
     s.vc.fastDue = false ∧ s.vc.lowReached = true ∧ s.vc.auto = true ∧ s.rx.meas = .valid ∧ s.hs.vActive = false ∧
     s.vc.deadAcc = 0 ∧ s.io.inp0.level = false ∧ addCandidate s = some 5) ∧
    (let s : State := { selection 1048 with vc.auto := true, vc.highReached := true, rx.meas := .valid }
     s.vc.fastDue = false ∧ s.vc.lowReached = false ∧ s.vc.highReached = true ∧ s.rx.meas = .valid ∧
     removeCandidate s = some 0) ∧
    addCandidate yard = none ∧ removeCandidate yard = none ∧ yard.vc.auto = false ∧
    ((learningYard.unb 0).learning ≠ none ∧ learningYard.oe.executing = some 0 ∧
      (learningYard.stepRec 0).state = .closed ∧ (learningYard.lines 0).direct = false) ∧
    yard.oe.posted = [] ∧ yard.arb.vcRequest = .absent ∧ yard.arb.oeRequest = false := by decide +kernel

theorem witness_GrantedWorkReachesTheSequencer_window :
    ¬WindowAtUnit learningYard ∧ (learningYard.stepRec 0).state = .closed ∧ (learningYard.lines 0).direct = false ∧
    WindowAtUnit (inHand true learningYard) ∧ ((inHand true learningYard).stepRec 0).state = .closed ∧
    ((inHand true learningYard).lines 0).direct = false := by unfold WindowAtUnit; decide

theorem witness_RightFreeOrdersDoTheirWork :
    (openYard.stepRec 0).state ≠ .absent ∧
    ((openYard.modStep 0 fun r => { r with lockout := some .closeFailure }).stepRec 0).lockout ≠ none ∧
    ((closedYard.modUnb 0 fun u => { u with armed := true }).unb 0).armed = true ∧
    ((openYard.modStep 0 fun r => { r with retired := true }).stepRec 0).retired = true ∧
    (openYard.stepRec 0).state = .opened ∧ (openYard.stepRec 0).retired = false ∧ (openYard.lines 0).direct = false ∧
    (∀ o, (openYard.lane 0).op = some o → o.source ≠ .oe) := by
  refine ⟨by decide, by decide, by decide, by decide, by decide, by decide, by decide, ?_⟩
  intro o h
  exact absurd h (by simp [show (openYard.lane 0).op = none by decide])

theorem witness_RightFreeOrdersDoTheirWork_held :
    (let s := waitingYard .vc .scheduled
     (s.stepRec 0).state = .opened ∧ (s.stepRec 0).retired = false ∧ s.io.inp0.level = false ∧
     (s.stepRec 0).lockout = none ∧ (s.stepRec 0).cooling = false ∧ (s.stepRec 0).holdoff = false ∧
     (s.lane 0).op = some ⟨.close .synchronized, .vc, .scheduled, true⟩) ∧
    ((openYard.modUnb 0 fun u => { u with tripped := true }).unb 0).tripped = true ∧
    ((openYard.modUnb 0 fun u => { u with departed := true }).unb 0).departed = true := by decide

theorem witness_StageLinesStoresTheLevels :
    Ready yard ∧ (7 : Byte).toNat = (7 : StepId).val ∧ (1 : Byte).toNat ≤ 1 ∧ ¬((1 : Byte) = 1 ∧ (0 : Byte) = 1) ∧
    8 ≤ (8 : Byte).toNat ∧ 1 < (2 : Byte).toNat := by unfold Ready; decide

theorem witness_DirectDriveOfTheLines :
    (let s := ({ yard with io.inp2.level := true }.modLines 2 fun l => { l with stagedTrip := true }).modStep 2
       fun r => { r with retired := true }
     Ready s ∧ (2 : Byte).toNat = (2 : StepId).val ∧ s.io.inp2.level = true ∧ (s.stepRec 2).retired = true ∧
     (s.stepRec 2).state ≠ .closing ∧ (s.stepRec 2).state ≠ .opening ∧ (s.lines 2).direct = false) ∧
    ¬(yard.io.inp2.level = true) ∧ ((yard.modLines 2 fun l => { l with direct := true }).lines 2).direct = true ∧
    8 ≤ (8 : Byte).toNat ∧ 1 < (2 : Byte).toNat := by unfold Ready; decide

end Sys2Proof.Tests
end

namespace Sys2Proof.Proofs

open Sys2Proof.Machine Sys2Proof.Safety Sys2Proof.Laws

/-! ### Commands and RESET -/

/-- Every command but the two of RESET has its effect only outside reset (log 21). -/
theorem exec_eq_live (c : Instr) (ha : c ≠ .resetAssert) (hr : ∀ p, c ≠ .resetRelease p) :
    ∃ f, ∀ s, exec c s = live s f := by
  cases c with
  | resetAssert => exact absurd rfl ha
  | resetRelease p => exact absurd rfl (hr p)
  | _ => exact ⟨_, fun _ => rfl⟩

/-- Every command goes on: none stops the part. -/
theorem exec_next (c : Instr) (s : State) : ∃ t, exec c s = .next t := by
  by_cases ha : c = .resetAssert
  · exact ⟨_, by rw [ha]; rfl⟩
  · by_cases hr : ∃ p, c = .resetRelease p
    · obtain ⟨p, rfl⟩ := hr
      exact ⟨_, rfl⟩
    · obtain ⟨f, hf⟩ := exec_eq_live c ha fun p e => hr ⟨p, e⟩
      exact ⟨_, hf s⟩

/-- A table of equal entries. -/
@[simp] theorem look_replicate {α : Type} {n : Nat} (a : α) (i : Fin n) : look (Vector.replicate n a) i = a := by
  simp [look]

/-- Settles O3: the assertion is one state, and a command other than the two of RESET is `live`. -/
theorem resetHoldsThePart : Obligations.ResetHoldsThePart := by
  unfold Obligations.ResetHoldsThePart
  refine ⟨fun s => ⟨assertReset s, rfl, rfl, fun i => ?_, ?_, ?_, rfl⟩, fun c s held ha hr => ?_⟩
  · simp [assertReset, closeLine, tripLine]
  · simp [assertReset, yardTripLine]
  · simp [assertReset, attn]
  · obtain ⟨f, hf⟩ := exec_eq_live c ha hr
    rw [hf, live_held s f held]

/-! ### The state after a release of RESET -/

/-- What a release of RESET sets: the reset state with any queue, draw count and extra bits (log 21). -/
def releasedWith (pins : Pins) (pending : List Instr) (draws : Nat) (extra : List Nat) : State :=
  { State.released pins with pending := pending, freeDraws := draws, extraBits := extra }

/-- A release of RESET sets that state, with the model's own fields kept (log 21). -/
theorem exec_resetRelease (pins : Pins) (s : State) :
    exec (.resetRelease pins) s = .next (releasedWith pins s.pending s.freeDraws s.extraBits) := rfl

section
variable (pins : Pins) (q : List Instr) (n : Nat) (x : List Nat)

theorem released_stepRec (i : StepId) :
    (releasedWith pins q n x).stepRec i = StepRec.released (Pins.strap pins) i := by
  simp [releasedWith, State.released, State.stepRec]

theorem released_timers (i : StepId) : (releasedWith pins q n x).timers i = ⟨0, 0, false⟩ := look_replicate _ i

theorem released_lane (i : StepId) : (releasedWith pins q n x).lane i = ⟨none, 0, 0, none⟩ := look_replicate _ i

theorem released_unb (i : StepId) : (releasedWith pins q n x).unb i = Unbalance.released := look_replicate _ i

theorem released_slot (j : SlotId) : (releasedWith pins q n x).slot j = Slot.cleared 0 := look_replicate _ j

theorem released_lines (i : StepId) : (releasedWith pins q n x).lines i = ⟨false, false, false, false, false⟩ :=
  look_replicate _ i

theorem released_stepCfg (i : StepId) : (releasedWith pins q n x).stepCfg i = StepSettings.default := look_replicate _ i

end

/-- The strap code is the number the three pins spell (R178). -/
theorem strap_toNat (p : Pins) : (Pins.strap p).toNat = p.inp0.toNat + 2 * p.inp1.toNat + 4 * p.inp2.toNat := by
  have h0 := p.inp0.toNat_le
  have h1 := p.inp1.toNat_le
  have h2 := p.inp2.toNat_le
  simp only [Pins.strap, BitVec.toNat_ofNat]
  omega

/-- Settles O4, register by register from the reset values of each block. -/
theorem resetReleaseSetsEveryRegister : Obligations.ResetReleaseSetsEveryRegister := by
  unfold Obligations.ResetReleaseSetsEveryRegister
  intro pins s
  refine ⟨_, exec_resetRelease pins s, rfl, rfl, ?rx, ?mu, ?tbl, ?dt, ?seq, rfl, rfl, rfl, ?ub, ?oe, ?io, rfl, rfl, rfl,
    rfl, rfl⟩
  case rx => exact ⟨rfl, rfl, rfl, rfl, rfl, rfl, rfl, rfl, rfl, rfl, rfl, fun i => look_replicate _ i⟩
  case mu => exact ⟨rfl, fun c => look_replicate _ c⟩
  case tbl => exact ⟨rfl, fun i => by rw [released_stepRec, StepRec.released, strap_toNat]⟩
  case dt => exact released_timers pins _ _ _
  case seq => exact ⟨rfl, rfl, rfl, released_lane pins _ _ _⟩
  case ub => exact released_unb pins _ _ _
  case oe => exact ⟨rfl, rfl, rfl, released_slot pins _ _ _⟩
  case io => exact ⟨strap_toNat pins, rfl, rfl, rfl, released_lines pins _ _ _⟩

/-! ### The promises at reset -/

section
variable (pins : Pins) (q : List Instr) (n : Nat) (x : List Nat)

theorem released_alarmsOk : AlarmsOk (releasedWith pins q n x) :=
  ⟨List.nodup_nil, fun _ he => absurd he List.not_mem_nil⟩

theorem released_timedBlocksOk : TimedBlocksOk (releasedWith pins q n x) := fun i => by
  rw [released_stepRec, released_timers, released_stepCfg]
  simp [StepRec.released, StepSettings.default]

theorem released_closedOrderOk : ClosedOrderOk (releasedWith pins q n x) := by
  refine ⟨List.nodup_nil, fun i => ?_⟩
  rw [released_stepRec]
  have hs : (StepRec.released (Pins.strap pins) i).state = .unknown ∨
      (StepRec.released (Pins.strap pins) i).state = .absent := by
    simp only [StepRec.released]
    split
    · exact .inl rfl
    · exact .inr rfl
  have hl : (releasedWith pins q n x).tbl.closedOrder = [] := rfl
  rcases hs with hs | hs <;> simp [hl, hs]

theorem released_poolOk : PoolOk (releasedWith pins q n x) := by
  refine ⟨List.nodup_finRange 32, List.nodup_nil, fun i => ?_⟩
  rw [released_slot]
  refine ⟨⟨fun _ => rfl, fun _ => List.mem_finRange i⟩, ?_, ?_, fun _ => ⟨rfl, rfl⟩⟩ <;>
    simp [releasedWith, State.released, OrderEngine.released, Slot.cleared]

theorem released_engineOk : EngineOk (releasedWith pins q n x) := by
  refine ⟨fun i l h => ?_, fun i o h => ?_⟩
  · rw [released_unb] at h
    cases h
  · rw [released_lane] at h
    cases h

theorem released_settled : Settled (releasedWith pins q n x) := ⟨fun _ => rfl, rfl, rfl⟩

theorem released_directOk : DirectOk (releasedWith pins q n x) := fun i h => by
  rw [released_lines] at h
  cases h

theorem released_armedOk : ArmedOk (releasedWith pins q n x) := fun i => by
  rw [released_unb]
  exact ⟨nofun, nofun⟩

/-- The defaults of the two tables lie in their ranges and agree (section 11.4.1). -/
theorem default_settingsOk : SettingsOk Settings.default := by
  refine ⟨fun y => ?_, .inl rfl, by decide, by decide, by decide, fun i => ?_⟩
  · cases y <;> decide
  · have h : look Settings.default.perStep i = StepSettings.default := look_replicate _ i
    rw [h]
    refine ⟨fun p _ => ?_, by decide⟩
    cases p <;> decide

theorem released_figuresOk : FiguresOk (releasedWith pins q n x) := by
  refine ⟨default_settingsOk, fun c => ?_, fun i l h => ?_⟩
  · have h : look (releasedWith pins q n x).mu.entries c = ChanEntry.released := look_replicate _ c
    rw [h]
    simp [EntryOk, ChanEntry.released]
  · rw [released_unb] at h
    cases h

theorem released_countersOk : CountersOk (releasedWith pins q n x) := by
  refine ⟨.inl rfl, Nat.zero_le _, Nat.zero_le _, Nat.zero_le _, Nat.zero_le _,
    fun _ => ⟨rfl, rfl, rfl, rfl, rfl, rfl, rfl⟩, Nat.zero_le _, Nat.zero_le _, Nat.zero_le _, fun i => ?_⟩
  rw [released_unb, released_stepRec]
  exact ⟨Nat.zero_le _, Nat.zero_le _, Nat.zero_le _, Nat.zero_le _⟩

/-- A release of RESET meets every kept promise. -/
theorem released_promises :
    (let t := releasedWith pins q n x
     AlarmsOk t ∧ TimedBlocksOk t ∧ ClosedOrderOk t ∧ PoolOk t ∧ EngineOk t ∧ Settled t ∧ DirectOk t ∧ ArmedOk t ∧
       FiguresOk t ∧ CountersOk t) :=
  ⟨released_alarmsOk pins q n x, released_timedBlocksOk pins q n x, released_closedOrderOk pins q n x,
    released_poolOk pins q n x, released_engineOk pins q n x, released_settled pins q n x, released_directOk pins q n x,
    released_armedOk pins q n x, released_figuresOk pins q n x, released_countersOk pins q n x⟩

end

/-- Settles O14: the reset state is a release with its own queue, draws and extra bits. -/
theorem resetMeetsEveryPromise : Obligations.ResetMeetsEveryPromise := by
  unfold Obligations.ResetMeetsEveryPromise
  intro pins s
  refine ⟨_, exec_resetRelease pins s, ?_⟩
  have reset : State.reset = releasedWith ⟨false, false, false, false⟩ [] 0 [] := rfl
  rw [reset]
  simpa only [and_assoc] using And.intro (released_promises pins s.pending s.freeDraws s.extraBits)
    (released_promises ⟨false, false, false, false⟩ [] 0 [])

/-! ### Receiver sync, timers and filters -/

/-- The samples of a frame are its slots 0 to 13 (R2). -/
theorem look_frameSamples (f : SampleFrame) (c : ChanId) :
    look (frameSamples f) c = look f.slots ⟨c.val, by omega⟩ := by
  simp only [look, frameSamples]
  exact Vector.getElem_take ..

/-- Two nominal cycle periods, rounded up to a tick (R8). -/
theorem windowPeriod_nominal (y : YardSettings) :
    (y.nominalFrequency = 50 → windowPeriod y = 40) ∧ (y.nominalFrequency = 60 → windowPeriod y = 34) :=
  ⟨fun h => by simp [windowPeriod, h], fun h => by simp [windowPeriod, h]⟩

/-- Settles O16: each command is `live` of its receiver operation. -/
theorem receiverSyncAndTimers : Obligations.ReceiverSyncAndTimers := by
  unfold Obligations.ReceiverSyncAndTimers
  refine ⟨⟨fun s hr ha => ?sync, fun s hr => ?window, fun n s hr ht hl => ?feed⟩, look_frameSamples, windowPeriod_nominal⟩
  case sync => simp [exec, execFirstFrameSync, hr, firstSync, ha]
  case window => simp [exec, execWindowTimerExpiry, hr, endWindow]
  case feed => simp [exec, execFeedTimerExpiry, hr, feedExpiry, ht, hl]

/-- A word that shows a new position begins a run (R13). -/
theorem debounce_new (q : Position) (d : Debounce) (hd : d.delivered ≠ some q) (hc : d.candidate ≠ some q) :
    debounce q d = ⟨d.delivered, some q, 1⟩ := by
  simp [debounce, hd, hc]

/-- A run of fewer than three words grows by one (R13). -/
theorem debounce_run (q : Position) (p : Option Position) (n : Nat) (hd : p ≠ some q) (hn : n < 3) :
    debounce q ⟨p, some q, n⟩ = ⟨p, some q, n + 1⟩ := by
  have : n ≠ 3 := by omega
  simp [debounce, hd, this]

/-- The fourth word of a run delivers (R13). -/
theorem debounce_fourth (q : Position) (p : Option Position) (hd : p ≠ some q) :
    debounce q ⟨p, some q, 3⟩ = ⟨some q, none, 0⟩ := by
  simp [debounce, hd]

/-- The filter after a sample that is not the level: a run begins or grows (R179). -/
theorem sampleFilter_off (f : InputFilter) (h : f.pin ≠ f.level) :
    sampleFilter f = if f.candidate = some f.pin then { f with count := f.count + 1 }
      else { f with candidate := some f.pin, count := 1 } := by
  simp [sampleFilter, h]

/-- The filter just set is read back. -/
@[simp] theorem input_setInput (n : InputLine) (f : InputFilter) (s : State) : (s.setInput n f).input n = f := by
  cases n <;> rfl

/-- Settles O17, by the equations of `debounce` and `sampleFilter`. -/
theorem filtersSettleOnTheFourthSample : Obligations.FiltersSettleOnTheFourthSample := by
  unfold Obligations.FiltersSettleOnTheFourthSample
  refine ⟨⟨fun q d hd hc => ?run, fun q d hd => ?back⟩, fun f h => ?level, fun f h => ⟨fun hc => ?fresh, fun hc => ?grow⟩,
    fun n s hr hp hc => ⟨fun h3 => ?fourth, fun h3 => ?short⟩⟩
  case run =>
    simp only [debounce_new q d hd hc, debounce_run q d.delivered 1 hd (by omega),
      debounce_run q d.delivered 2 hd (by omega), debounce_fourth q d.delivered hd]
    simp [deliversNow, hd, hc]
  case back => simp [debounce, deliversNow, hd]
  case level => simp [sampleFilter, h]
  case fresh => simp [sampleFilter_off f h, hc]
  case grow => simp [sampleFilter_off f h, hc]
  case fourth => simp [sampleInput, sampleFilter_off _ hp, hc, h3]
  case short =>
    have h4 : ¬4 ≤ (s.input n).count + 1 := by omega
    have next : sampleInput n s = .next (s.setInput n { s.input n with count := (s.input n).count + 1 }) := by
      simp [sampleInput, sampleFilter_off _ hp, hc, h4]
    exact ⟨_, next, by simp, by simp⟩

end Sys2Proof.Proofs

namespace Sys2Proof.Proofs

open Sys2Proof.Machine Sys2Proof.Safety Sys2Proof.Laws

/-! ### The event that is due -/

/-- A window end is due for a consumer exactly when it has still to evaluate it and its figures are published. -/
theorem dueFor_isSome (which : InHand → Bool) (s : State) :
    (dueFor which s).isSome = (s.rx.inHand.any which && s.mu.computing.isNone) := by
  unfold dueFor
  cases s.rx.inHand with
  | none => rfl
  | some h => cases hw : which h <;> cases s.mu.computing <;> simp [hw]

/-- Of the part's own events the first that is due, in the order of log 2. -/
theorem dueEvent_eq (s : State) : dueEvent s =
    if pulseReady s then some .scheduledClosePulse
    else if windowEndReady s then some .windowEnd
    else if s.mu.computing.isSome then some .publication
    else if (dueFor InHand.vc s).isSome then some .vcEvaluation
    else if (dueFor InHand.hs s).isSome then some .harmonicEvaluation
    else if (dueFor InHand.ub s).isSome then some .unbalanceEvaluation
    else if s.link.composed.isSome then some .responseLoad
    else none := by
  simp only [dueEvent, ownEvents, List.find?]
  (repeat' split) <;> simp_all

/-- Past the pulse frame, the window end and the publication, with no consumer left to evaluate, only a composed
response can be due. -/
theorem dueEvent_response {s : State} (h1 : pulseReady s = false) (h2 : windowEndReady s = false)
    (h3 : s.mu.computing = none)
    (hn : ∀ h, s.rx.inHand = some h → h.vc = false ∧ h.hs = false ∧ h.ub = false) :
    dueEvent s = if s.link.composed.isSome then some .responseLoad else none := by
  cases hh : s.rx.inHand with
  | none => simp [dueEvent_eq, dueFor_isSome, h1, h2, h3, hh]
  | some h =>
    obtain ⟨hv, hs, hu⟩ := hn h hh
    simp [dueEvent_eq, dueFor_isSome, h1, h2, h3, hh, hv, hs, hu]

/-- The step of an empty queue outside reset takes the event that is due. -/
theorem step_due {s : State} {c : Instr} (hp : s.pending = []) (hr : s.resetHeld = false) (hd : dueEvent s = some c) :
    step s = exec c s := by
  simp [step, idle, hp, hr, hd]

/-- The step of an empty queue outside reset is a tick when no event is due. -/
theorem step_tick {s : State} (hp : s.pending = []) (hr : s.resetHeld = false) (hd : dueEvent s = none) :
    step s = tick s := by
  simp [step, idle, hp, hr, hd]

/-! ### The tick goes on -/

@[simp] theorem andThen_next_left (s : State) (f : State → Host.Outcome State Fault Refusal) :
    andThen (.next s) f = f s := rfl

@[simp] theorem andThen_next_right (r : Host.Outcome State Fault Refusal) : andThen r .next = r := by
  cases r <;> rfl

/-- Work that goes on, followed by work that goes on, goes on. -/
theorem andThen_goes {r : Host.Outcome State Fault Refusal} {f : State → Host.Outcome State Fault Refusal}
    (hr : ∃ t, r = .next t) (hf : ∀ s, ∃ t, f s = .next t) : ∃ t, andThen r f = .next t := by
  obtain ⟨s, rfl⟩ := hr
  exact hf s

/-- The taking of an expiry goes on. -/
theorem takeExpiry_goes (c : Instr) (s : State) : ∃ t, takeExpiry c s = .next t := by
  unfold takeExpiry
  split
  · exact exec_next c s
  · exact ⟨s, rfl⟩

/-- Commands taken in turn go on when each does. -/
theorem inTurn_goes {f : Instr → State → Host.Outcome State Fault Refusal} (hf : ∀ c s, ∃ t, f c s = .next t)
    (cs : List Instr) (s : State) : ∃ t, inTurn f cs s = .next t := by
  induction cs generalizing s with
  | nil => exact ⟨s, rfl⟩
  | cons c cs ih => exact andThen_goes (hf c s) ih

/-- The sampling of an input goes on. -/
theorem sampleInput_goes (n : InputLine) (s : State) : ∃ t, sampleInput n s = .next t := by
  unfold sampleInput
  dsimp only
  split
  · exact exec_next _ _
  · exact ⟨_, rfl⟩

/-- A tick goes on. -/
theorem tick_goes (s : State) : ∃ t, tick s = .next t :=
  andThen_goes (inTurn_goes takeExpiry_goes _ _) fun s =>
    andThen_goes (sampleInput_goes _ s) fun s => andThen_goes (sampleInput_goes _ s) (sampleInput_goes _)

/-! ### The expiries of a tick -/

/-- No expiry stands twice in the order of log 4. -/
theorem expiries_nodup : expiries.Nodup := by decide +kernel

/-- A time that runs is the time of one of the listed expiries. -/
theorem mem_expiries_of_remaining {s : State} {c : Instr} (h : remaining s c ≠ 0) : c ∈ expiries := by
  have step_mem (i : StepId) : i ∈ allSteps := by revert i; decide
  have slot_mem (j : SlotId) : j ∈ allSlots := List.mem_finRange j
  cases c <;> simp_all [expiries, remaining]

/-- The expiries of a tick are those of the times that stand at their last millisecond. -/
theorem mem_expiring (s : State) (c : Instr) : c ∈ expiring s ↔ remaining s c = 1 := by
  simp only [expiring, List.mem_filter, decide_eq_true_eq, and_iff_right_iff_imp]
  exact fun h => mem_expiries_of_remaining (s := s) (by omega)

/-- No expiry is taken twice in one tick. -/
theorem expiring_nodup (s : State) : (expiring s).Nodup := expiries_nodup.filter _

/-- A tick at which no time stands at its last millisecond takes no expiry. -/
theorem expiring_eq_nil {s : State} (h : ∀ c, remaining s c ≠ 1) : expiring s = [] :=
  List.eq_nil_iff_forall_not_mem.mpr fun c hc => h c ((mem_expiring s c).mp hc)

/-- A tick at which one time stands at its last millisecond takes its expiry. -/
theorem expiring_eq_singleton {s : State} {c : Instr} (h : remaining s c = 1) (hd : ∀ d, d ≠ c → remaining s d ≠ 1) :
    expiring s = [c] := by
  refine List.perm_singleton.mp ((List.perm_ext_iff_of_nodup (expiring_nodup s) (List.nodup_singleton c)).mpr fun d => ?_)
  rw [mem_expiring, List.mem_singleton]
  exact ⟨fun hr => Decidable.byContradiction fun ne => hd d ne hr, fun e => e ▸ h⟩

/-! ### What counts down -/

theorem countDown_timers (s : State) (i : StepId) : (countDown s).timers i = (s.timers i).down := look_map _ _ i

theorem countDown_lane (s : State) (i : StepId) : (countDown s).lane i = (s.lane i).down := look_map _ _ i

theorem countDown_slot (s : State) (j : SlotId) : (countDown s).slot j = (s.slot j).down := look_map _ _ j

@[simp] theorem down_zero : down 0 = 0 := rfl

/-- A timer that may be stopped counts down as its remaining time does. -/
@[simp] theorem getD_map_down (t : Option Nat) : (t.map down).getD 0 = down (t.getD 0) := by
  cases t <;> rfl

/-- Every running time is one tick shorter, but for its last tick. -/
theorem remaining_countDown (s : State) (c : Instr) : remaining (countDown s) c = down (remaining s c) := by
  cases c <;>
    simp only [remaining, countDown_timers, countDown_lane, countDown_slot, DischargeTimer.down, Lane.down, Slot.down,
      getD_map_down, down_zero]
  case windowTimerExpiry | yardTripEnd => rfl
  case feedTimerExpiry | syncWaitExpiry => exact getD_map_down _
  case settleExpiry => cases hb : s.arb.busy <;> simp [countDown, hb, Busy.down]
  case resonanceWatchExpiry => cases hw : s.hs.watch <;> simp [countDown, hw]
  case closeConfirmExpiry i | openConfirmExpiry i =>
    rcases (s.lane i).op with _ | ⟨_ | _, _, _, _⟩ <;> rfl

/-- The two confirm expiries share the confirm timer of a lane, by the kind of its operation. -/
theorem remaining_confirm (s : State) (i : StepId) (o : Operation) (h : (s.lane i).op = some o) :
    (o.kind = .trip → remaining s (.openConfirmExpiry i) = (s.lane i).confirm.getD 0 ∧
      remaining s (.closeConfirmExpiry i) = 0) ∧
    (o.kind ≠ .trip → remaining s (.closeConfirmExpiry i) = (s.lane i).confirm.getD 0 ∧
      remaining s (.openConfirmExpiry i) = 0) := by
  obtain ⟨kind, src, ph, under⟩ := o
  cases kind <;> simp [remaining, h]

/-- Settles O2: the order of the own events, the expiries of a tick, the countdown and the running times. -/
theorem emptyQueueRunsThePart : Obligations.EmptyQueueRunsThePart := by
  unfold Obligations.EmptyQueueRunsThePart
  refine ⟨fun s hp => ⟨fun hr => ?held, fun hr h1 => ?pulse, fun hr h1 => ⟨fun h2 => ?window, fun h2 h3 => ?publication,
    fun h2 h3 => ⟨fun h hh => ⟨fun hv => ?vc, fun hv hs => ?hs, fun hv hs hu => ?ub⟩,
      fun hn => ⟨fun hl => ?load, fun hl => ?tick⟩⟩⟩⟩,
    ⟨fun s => ⟨tick_goes s, expiring_nodup s, mem_expiring s, rfl⟩, fun s hn => ?quiet, fun c s hc hd => ?single⟩,
    fun s => ⟨rfl, rfl, rfl, countDown_timers s, countDown_lane s, rfl, ?busy, rfl, rfl, countDown_slot s⟩,
    fun s => ⟨rfl, rfl, rfl, rfl, ?settle, ?watch, fun i => ⟨rfl, rfl, rfl, rfl, remaining_confirm s i⟩,
      fun j => ⟨rfl, rfl⟩⟩⟩
  case held => simp [step, idle, hp, hr]
  case pulse => exact step_due hp hr (by simp [dueEvent_eq, h1])
  case window => exact step_due hp hr (by simp [dueEvent_eq, h1, h2])
  case publication => exact step_due hp hr (by simp [dueEvent_eq, h1, h2, Option.isSome_iff_ne_none.mpr h3])
  case vc => exact step_due hp hr (by simp [dueEvent_eq, dueFor_isSome, h1, h2, h3, hh, hv])
  case hs => exact step_due hp hr (by simp [dueEvent_eq, dueFor_isSome, h1, h2, h3, hh, hv, hs])
  case ub => exact step_due hp hr (by simp [dueEvent_eq, dueFor_isSome, h1, h2, h3, hh, hv, hs, hu])
  case load => exact step_due hp hr (by simp [dueEvent_response h1 h2 h3 hn, Option.isSome_iff_ne_none.mpr hl])
  case tick => exact step_tick hp hr (by simp [dueEvent_response h1 h2 h3 hn, hl])
  case quiet => simp [tick, expiring_eq_nil hn, inTurn]
  case single =>
    have last : remaining (countDown s) c = 1 := by rw [remaining_countDown, hc]; rfl
    simp [tick, expiring_eq_singleton hc hd, inTurn, takeExpiry, last]
  case busy => cases hb : s.arb.busy <;> simp [countDown, Busy.down, hb, down]
  case settle => exact fun n hb => by simp [remaining, hb]
  case watch => exact fun w hw => by simp [remaining, hw]

end Sys2Proof.Proofs

namespace Sys2Proof.Proofs

open Sys2Proof.Machine Sys2Proof.Safety Sys2Proof.Laws

/-! ### Requests taken while READY is high -/

/-- A request is taken whole: its work is done on the state that consumed the loaded response (R190). -/
theorem live_takeRequest {s : State} (hr : Ready s) (code tag : Byte) (work : Handler) :
    live s (takeRequest code tag work) = .next (compose code tag (work (consume s))) := by
  obtain ⟨running, ready, fresh⟩ := hr
  rw [live_running s _ running, takeRequest_ready code tag work s fresh ready]

/-- An answer that changes nothing is the composed response alone. -/
theorem compose_answer (code tag : Byte) (st : Status) (d : List Byte) (s : State) :
    compose code tag (answer st d s) = respond code tag st (pad13 d) s := rfl

/-- A refusal with free bytes draws once (log 9). -/
theorem compose_refuseOpen (code tag : Byte) (st : Status) (echo : List Byte) (n : Nat) (s : State) :
    compose code tag (refuseOpen st echo n s) =
      respond code tag st (pad13 (echo ++ unstated s.freeDraws n)) { s with freeDraws := s.freeDraws + 1 } := rfl

/-- An identifier and a value of four bytes are followed by eight 0 bytes (R192). -/
theorem pad13_value (ident : Byte) (v : Nat) : pad13 (ident :: be32 v) = [ident] ++ be32 v ++ List.replicate 8 0 := rfl

/-- An identifier and four free bytes are followed by eight 0 bytes (R192, log 9). -/
theorem pad13_unstated (ident : Byte) (k : Nat) :
    pad13 ([ident] ++ unstated k 4) = ident :: (unstated k 4 ++ List.replicate 8 0) := rfl

/-! ### The yard table -/

/-- Bringing a value within a range (R196). -/
theorem clampInt_eq {lo hi : Int} (h : lo ≤ hi) (v : Int) : clampInt lo hi v = max lo (min hi v) := by
  unfold clampInt
  split
  · omega
  · split <;> omega

/-- Every range of the yard table has its limits in order. -/
theorem yardRange_le (y : YardId) : (yardRange y).1 ≤ (yardRange y).2 := by
  cases y <;> decide

/-- A write stores the value brought within its range (R196), but for NOMINAL_FREQUENCY. -/
theorem yardClamp_eq {y : YardId} (hy : y ≠ .nominalFrequency) (v : Int) :
    (yardClamp y v : Int) = max ((yardRange y).1 : Int) (min ((yardRange y).2 : Int) v) := by
  have clamp : yardClamp y v = (clampInt (yardRange y).1 (yardRange y).2 v).toNat := by
    cases y
    case nominalFrequency => exact absurd rfl hy
    all_goals rfl
  have ordered := yardRange_le y
  rw [clamp, clampInt_eq (by omega)]
  omega

/-- The value just stored is read back, and every other stands. -/
theorem yardRead_yardWrite (c : YardSettings) (y z : YardId) (v : Nat) :
    yardRead (yardWrite c y v) z = if z = y then v else yardRead c z := by
  cases y <;> cases z <;> rfl

/-- A store changes the setting, and caps counters of voltage control and the supervisor alone (R116, R133, R196). -/
theorem storeYard_frame (y : YardId) (v : Nat) (s : State) :
    storeYard y v s = { s with cfg.yard := yardWrite s.cfg.yard y v, vc := (storeYard y v s).vc,
                               hs := (storeYard y v s).hs } := by
  cases y
  case harmTripDelay | shedInterval =>
    simp only [storeYard, yardStored]
    split <;> rfl
  all_goals rfl

/-- Which counters of voltage control a store caps (R116). -/
theorem storeYard_vc (y : YardId) (v : Nat) (s : State) :
    (storeYard y v s).vc = { s.vc with
      lowAcc := if y = .nominalFrequency ∨ y = .delayIn ∨ y = .delayOut then
          min s.vc.lowAcc ((yardWrite s.cfg.yard y v).delayIn * (yardWrite s.cfg.yard y v).nominalFrequency)
        else s.vc.lowAcc,
      highAcc := if y = .nominalFrequency ∨ y = .delayIn ∨ y = .delayOut then
          min s.vc.highAcc ((yardWrite s.cfg.yard y v).delayOut * (yardWrite s.cfg.yard y v).nominalFrequency)
        else s.vc.highAcc,
      fastAcc := if y = .fastDelay then min s.vc.fastAcc v else s.vc.fastAcc,
      deadAcc := if y = .deadDelay then min s.vc.deadAcc v else s.vc.deadAcc } := by
  cases y
  case harmTripDelay | shedInterval =>
    simp only [storeYard, yardStored]
    split <;> rfl
  all_goals rfl

/-- Which counters of the supervisor a store caps (R133). -/
theorem storeYard_hs (y : YardId) (v : Nat) (s : State) :
    (storeYard y v s).hs = { s.hs with
      vCount := if y = .harmAlarmDelay then min s.hs.vCount v else s.hs.vCount,
      iCount := if y = .harmAlarmDelay then min s.hs.iCount v else s.hs.iCount,
      tripCount := if (y = .harmTripDelay ∧ s.hs.shedding = false) ∨ (y = .shedInterval ∧ s.hs.shedding = true)
        then min s.hs.tripCount v else s.hs.tripCount } := by
  cases y
  case harmTripDelay =>
    cases h : s.hs.shedding
    · simp [storeYard, yardStored, capHarmTrip, tripThreshold, yardWrite, h]
    · simp [storeYard, yardStored, h]
      rw [← h]
  case shedInterval =>
    cases h : s.hs.shedding
    · simp [storeYard, yardStored, h]
      rw [← h]
    · simp [storeYard, yardStored, capHarmTrip, tripThreshold, yardWrite, h]
  all_goals rfl

/-! ### The two requests -/

/-- The answer to READ_SETTING on an identifier of the table. -/
theorem exec_readSetting {tag ident : Byte} {y : YardId} {s : State} (hr : Ready s) (hy : yardIdOf ident = some y) :
    exec (.readSetting tag ident) s =
      .next (respond 0x06 tag .ok ([ident] ++ be32 (yardRead s.cfg.yard y) ++ List.replicate 8 0) (consume s)) := by
  refine (live_takeRequest hr 0x06 tag (readSetting ident)).trans ?_
  rw [readSetting, hy, ← pad13_value]
  rfl

/-- The answer to WRITE_SETTING on an identifier of the table, by the check of R196 step 2. -/
theorem exec_writeSetting {tag ident : Byte} {y : YardId} {s : State} (value : Word) (hr : Ready s)
    (hy : yardIdOf ident = some y) :
    exec (.writeSetting tag ident value) s =
      if yardConsistent s.cfg.yard y (yardClamp y value.toInt) then
        .next (respond 0x07 tag (clampStatus value.toInt (yardClamp y value.toInt))
          ([ident] ++ be32 (yardClamp y value.toInt) ++ List.replicate 8 0)
          (storeYard y (yardClamp y value.toInt) (consume s)))
      else
        .next (respond 0x07 tag .inconsistent ([ident] ++ be32 (yardRead s.cfg.yard y) ++ List.replicate 8 0)
          (consume s)) := by
  refine (live_takeRequest hr 0x07 tag (writeSetting ident value)).trans ?_
  rw [writeSetting, hy, ← pad13_value, ← pad13_value]
  dsimp only [consume_frame]
  split
  · next agrees => exact (if_pos agrees).symm
  · next differs => exact (if_neg differs).symm

/-- Settles O44: the two requests on an identifier of the table and on another. -/
theorem yardSettingsReadAndWrite : Obligations.YardSettingsReadAndWrite := by
  unfold Obligations.YardSettingsReadAndWrite
  intro tag ident value s hr
  refine ⟨fun y hy => ⟨exec_readSetting hr hy, yardClamp y value.toInt, fun hn => yardClamp_eq hn _,
    fun hn => by rw [hn]; rfl, ?known⟩, fun hn => ⟨unstated s.freeDraws 4 ++ List.replicate 8 0, rfl, ?_, ?_⟩⟩
  case known =>
    split
    · next agrees =>
      have store := storeYard_frame y (yardClamp y value.toInt) (consume s)
      have cfg : (storeYard y (yardClamp y value.toInt) (consume s)).cfg.yard =
          yardWrite s.cfg.yard y (yardClamp y value.toInt) := by rw [store]; rfl
      refine ⟨_, (exec_writeSetting value hr hy).trans (if_pos agrees), by rw [cfg]; exact store, ?_, fun z hz => ?_,
        by rw [cfg]; exact storeYard_vc y _ _, storeYard_hs y _ _⟩
      · rw [cfg, yardRead_yardWrite, if_pos rfl]
      · rw [cfg, yardRead_yardWrite, if_neg hz]
    · next differs => exact (exec_writeSetting value hr hy).trans (if_neg differs)
  · refine (live_takeRequest hr 0x06 tag (readSetting ident)).trans ?_
    rw [readSetting, hn, compose_refuseOpen, pad13_unstated]
    rfl
  · refine (live_takeRequest hr 0x07 tag (writeSetting ident value)).trans ?_
    rw [writeSetting, hn, compose_refuseOpen, pad13_unstated]
    rfl

end Sys2Proof.Proofs

namespace Sys2Proof.Proofs

open Sys2Proof.Machine Sys2Proof.Safety Sys2Proof.Laws

/-! ### Alarm causes that end with what is cleared -/

/-- The alarm set after the cause-end notice of a latching kind that is sent under a condition (R199). -/
def causeOverIf (b : Bool) (k : AlarmKind) (sub : Subject) (as : List AlarmEntry) : List AlarmEntry :=
  as.map fun e => if b = true ∧ e.kind = k ∧ e.subject = sub then { e with cause := false } else e

/-- The alarm set after the cause-end notice of a non-latching kind that is sent under a condition (R199). -/
def droppedIf (b : Bool) (k : AlarmKind) (sub : Subject) (as : List AlarmEntry) : List AlarmEntry :=
  as.filter fun e => !decide (b = true ∧ e.kind = k ∧ e.subject = sub)

@[simp] theorem causeOverIf_false (k : AlarmKind) (sub : Subject) (as : List AlarmEntry) :
    causeOverIf false k sub as = as := by
  simp [causeOverIf]

@[simp] theorem droppedIf_false (k : AlarmKind) (sub : Subject) (as : List AlarmEntry) :
    droppedIf false k sub as = as := by
  simp [droppedIf]

/-- The notice of a latching kind marks the entry's cause ended. -/
theorem endCause_latching {k : AlarmKind} (hk : k.latching = true) (sub : Subject) (s : State) :
    endCause k sub s = { s with link.alarms := causeOverIf true k sub s.link.alarms } := by
  simp [endCause, State.modAlarms, endCauseIn, causeOverIf, hk, AlarmEntry.isFor]

/-- The notice of a non-latching kind removes the entry. -/
theorem endCause_nonLatching {k : AlarmKind} (hk : k.latching = false) (sub : Subject) (s : State) :
    endCause k sub s = { s with link.alarms := droppedIf true k sub s.link.alarms } := by
  simp [endCause, State.modAlarms, endCauseIn, droppedIf, hk, AlarmEntry.isFor, Bool.decide_and]

/-- The fast condition goes, and the cause of FAST_OV with it (R110). -/
theorem clearFastCondition_eq (s : State) :
    clearFastCondition s = { s with
      vc.fastCondition := false, link.alarms := causeOverIf s.vc.fastCondition .fastOv .yard s.link.alarms } := by
  unfold clearFastCondition
  cases h : s.vc.fastCondition
  · rw [if_neg Bool.false_ne_true, causeOverIf_false, ← h]
  · exact endCause_latching rfl _ _

/-- The dead accumulator and flag go, and the cause of DEAD_BUS_OPEN with them (R111, R113). -/
theorem clearDead_eq (s : State) :
    clearDead s = { s with
      vc.deadAcc := 0, vc.deadOpened := false,
      link.alarms := causeOverIf s.vc.deadOpened .deadBusOpen .yard s.link.alarms } := by
  unfold clearDead
  cases h : s.vc.deadOpened
  · rw [causeOverIf_false]
    rfl
  · exact endCause_latching rfl _ _

/-- Shedding becomes no, and the cause of HARM_TRIP goes with it (R126, R131). -/
theorem endShedding_eq (s : State) :
    endShedding s = { s with
      hs.shedding := false, link.alarms := causeOverIf s.hs.shedding .harmTrip .yard s.link.alarms } := by
  unfold endShedding
  cases h : s.hs.shedding
  · rw [if_neg Bool.false_ne_true, causeOverIf_false, ← h]
  · exact endCause_latching rfl _ _

/-- An alarm stage that becomes inactive drops its entry (R122, R145). -/
theorem alarmEdge_off {k : AlarmKind} (hk : k.latching = false) (sub : Subject) (was : Bool) (s : State) :
    alarmEdge k sub was false s = { s with link.alarms := droppedIf was k sub s.link.alarms } := by
  cases was
  · rw [droppedIf_false]
    rfl
  · exact endCause_nonLatching hk _ _

/-- The stages of a step are cleared, and the entry of UNBALANCE_ALARM goes with them (R145, R146). -/
theorem clearStages_eq (i : StepId) (s : State) :
    clearStages i s =
      { s with link.alarms := droppedIf (s.unb i).alarmActive .unbalanceAlarm (.step i) s.link.alarms }.modUnb i
        fun u => { u with alarmCount := 0, alarmActive := false, tripTiming := false, tripCount := 0 } := by
  unfold clearStages
  cases h : (s.unb i).alarmActive
  · rw [droppedIf_false]
    rfl
  · exact congrArg (fun t => State.modUnb t i _) (endCause_nonLatching rfl _ _)

/-! ### A failed window end in hand -/

/-- A failed window end is due for a consumer that has still to evaluate it (R11). -/
theorem dueFor_failed {which : InHand → Bool} {h : InHand} {s : State} (hh : s.rx.inHand = some h)
    (hg : h.good = false) (hc : s.mu.computing = none) (hw : which h = true) : dueFor which s = some false := by
  simp [dueFor, hh, hg, hc, hw]

/-- The window end stays in hand while a consumer has still to evaluate it (R11). -/
theorem consumed_rx (f : InHand → InHand) {h : InHand} {s : State} (hh : s.rx.inHand = some h) :
    (consumed f s).rx =
      { s.rx with inHand := if (f h).vc || (f h).hs || (f h).ub then some (f h) else none } := by
  simp [consumed, hh]

/-- Voltage control at a failed window in HOLDING (R102). -/
theorem vcFailed_holding {s : State} (hm : s.rx.meas = .holding) :
    vcFailed s = { s with
      vc.request := if s.vc.request = .operating ∨ s.vc.request = .fastPending then s.vc.request else .idle,
      arb.vcRequest := if s.arb.vcRequest = .urgent then .urgent else .absent } := by
  unfold vcFailed
  simp only [hm, if_true]
  split
  · next urgent => rw [← urgent]
  · rfl

/-- Voltage control at a failed window in STALE and NO_SYNC (R102, R110, R111). -/
theorem vcFailed_clears {s : State} (hm : s.rx.meas ≠ .holding) :
    vcFailed s = { s with
      vc := { s.vc with lowAcc := 0, highAcc := 0, lowReached := false, highReached := false, fastAcc := 0,
                        fastDue := false, fastCondition := false, deadAcc := 0, deadOpened := false,
                        noCandidate := false, request := if s.vc.request = .operating then .operating else .idle },
      arb.vcRequest := .absent,
      link.alarms := causeOverIf s.vc.deadOpened .deadBusOpen .yard
        (causeOverIf s.vc.fastCondition .fastOv .yard s.link.alarms) } := by
  simp only [vcFailed, hm, if_false, clearDead_eq, clearFastCondition_eq]
  rfl

/-- The harmonic supervisor at a failed window in HOLDING (R131). -/
theorem hsFailed_holding {s : State} (hm : s.rx.meas = .holding) : hsFailed s = s := if_pos hm

/-- The harmonic supervisor at a failed window in STALE and NO_SYNC (R131). -/
theorem hsFailed_clears {s : State} (hm : s.rx.meas ≠ .holding) :
    hsFailed s = { s with
      hs := { s.hs with vCount := 0, iCount := 0, tripCount := 0, vActive := false, iActive := false, shedding := false },
      link.alarms := causeOverIf s.hs.shedding .harmTrip .yard
        (droppedIf s.hs.iActive .harmAlarmI .yard (droppedIf s.hs.vActive .harmAlarmV .yard s.link.alarms)) } := by
  simp only [hsFailed, hm, if_false, endShedding_eq, alarmEdge_off (k := .harmAlarmV) rfl,
    alarmEdge_off (k := .harmAlarmI) rfl]

/-! ### The unbalance unit at a failed window -/

/-- A step's unbalance record in STALE and NO_SYNC: arming begins anew, and the stages of a step that is not TRIPPED
are cleared (R146). -/
def clearedUnb (u : Unbalance) : Unbalance :=
  let u := { u with armCount := if u.armed then u.armCount else 0 }
  if u.tripped then u
  else { u with alarmCount := 0, alarmActive := false, tripTiming := false, tripCount := 0 }

/-- A step's unbalance record after a failed window: its learning goes, and it is held in HOLDING (R146, R150). -/
def failedUnb (m : MeasState) (u : Unbalance) : Unbalance :=
  if m = .holding then { u with learning := none } else clearedUnb { u with learning := none }

/-- The record of a step whose stages are cleared; the other steps' stand. -/
theorem clearStages_unb (i j : StepId) (s : State) :
    (clearStages i s).unb j =
      if j = i then { s.unb i with alarmCount := 0, alarmActive := false, tripTiming := false, tripCount := 0 }
      else s.unb j := by
  rw [clearStages_eq, State.modUnb_unb]
  rfl

/-- No learning outlives a failed window (R150). -/
theorem failedUnb_learning (m : MeasState) (u : Unbalance) : (failedUnb m u).learning = none := by
  unfold failedUnb clearedUnb
  dsimp only
  cases u.tripped <;> split <;> rfl

/-- An interrupted learning goes from its step's record, and no other record changes (R150). -/
theorem interruptLearning_unb_of (i j : StepId) (s : State) :
    (interruptLearning i s).unb j = if j = i then { s.unb i with learning := none } else s.unb j := by
  split
  · next e => rw [e, interruptLearning_unb]
  · next ne =>
    unfold interruptLearning
    split
    · rfl
    · simp [State.unb, State.modUnb, look_put, ne]

/-- A step without a learning has none to interrupt. -/
theorem interruptLearning_none {i : StepId} {s : State} (h : (s.unb i).learning = none) : interruptLearning i s = s := by
  simp [interruptLearning, h]

/-- An order has ended FAILED with reason INTERRUPTED, and the engine is IDLE (R150, R168). -/
def LearningFailed (j : SlotId) (s : State) : Prop :=
  s.oe.executing = none ∧ (s.slot j).state = .finished ∧ (s.slot j).outcome = some .failed ∧
    (s.slot j).reason = some .interrupted

theorem learningFailed_congr {j : SlotId} {s t : State} (h : t.oe = s.oe) :
    LearningFailed j t ↔ LearningFailed j s := by
  simp [LearningFailed, State.slot, h]

/-- An interrupted learning ends its order (R150). -/
theorem interruptLearning_some {i : StepId} {j : SlotId} {s : State} (h : (s.unb i).learning ≠ none)
    (he : s.oe.executing = some j) : LearningFailed j (interruptLearning i s) := by
  unfold interruptLearning
  split
  · next e => exact absurd e h
  · simp [LearningFailed, finishExecuting, finishSlot, he, State.slot, State.modSlot]

/-- With the engine IDLE an interrupted learning has no order to end. -/
theorem interruptLearning_idle {i : StepId} {s : State} (he : s.oe.executing = none) :
    (interruptLearning i s).oe = s.oe := by
  unfold interruptLearning
  split
  · rfl
  · simp [finishExecuting, he]

/-- One step at a failed window in HOLDING (R146). -/
theorem ubFailedStep_holding {s : State} (hm : s.rx.meas = .holding) (i : StepId) :
    ubFailedStep i s = interruptLearning i s := by
  simp [ubFailedStep, hm]

/-- One step at a failed window in STALE and NO_SYNC (R146). -/
theorem ubFailedStep_clears {s : State} (hm : s.rx.meas ≠ .holding) (i : StepId) :
    ubFailedStep i s =
      (let t := interruptLearning i s
       let t := if (s.unb i).armed then t else t.modUnb i fun u => { u with armCount := 0 }
       if (s.unb i).tripped then t else clearStages i t) := by
  unfold ubFailedStep
  simp only [interruptLearning_frame, hm, if_false, interruptLearning_unb]
  split <;> simp [interruptLearning_unb]

/-- A step's record after a failed window; the other steps' stand. -/
theorem ubFailedStep_unb (i j : StepId) (s : State) :
    (ubFailedStep i s).unb j = if j = i then failedUnb s.rx.meas (s.unb i) else s.unb j := by
  by_cases hm : s.rx.meas = .holding
  · rw [ubFailedStep_holding hm, interruptLearning_unb_of]
    simp [failedUnb, hm]
  · rw [ubFailedStep_clears hm]
    by_cases e : j = i
    · subst e
      cases ha : (s.unb j).armed <;> cases ht : (s.unb j).tripped <;>
        simp [failedUnb, clearedUnb, hm, ha, ht, clearStages_unb, interruptLearning_unb]
    · cases ha : (s.unb i).armed <;> cases ht : (s.unb i).tripped <;>
        simp [e, clearStages_unb, interruptLearning_unb_of, State.modUnb_unb]

/-- What one step at a failed window leaves as it is (R146). -/
theorem ubFailedStep_frame (i : StepId) (s : State) :
    (ubFailedStep i s).rx = s.rx ∧ (ubFailedStep i s).tbl = s.tbl ∧ (ubFailedStep i s).arb = s.arb ∧
    { (ubFailedStep i s).link with alarms := s.link.alarms } = s.link := by
  by_cases hm : s.rx.meas = .holding
  · simp [ubFailedStep_holding hm]
  · rw [ubFailedStep_clears hm]
    cases (s.unb i).armed <;> cases (s.unb i).tripped <;> simp [clearStages_eq]

/-- Of the order engine one step at a failed window touches what its learning's end touches (R150). -/
theorem ubFailedStep_oe (i : StepId) (s : State) : (ubFailedStep i s).oe = (interruptLearning i s).oe := by
  by_cases hm : s.rx.meas = .holding
  · rw [ubFailedStep_holding hm]
  · rw [ubFailedStep_clears hm]
    cases (s.unb i).armed <;> cases (s.unb i).tripped <;> simp [clearStages_eq]

/-- One step at a failed window in STALE and NO_SYNC drops the entry of UNBALANCE_ALARM of an active stage that is
cleared (R145, R146). -/
theorem ubFailedStep_alarms (i : StepId) (s : State) :
    (ubFailedStep i s).link.alarms =
      droppedIf (decide (s.rx.meas ≠ .holding) && (!(s.unb i).tripped && (s.unb i).alarmActive)) .unbalanceAlarm (.step i)
        s.link.alarms := by
  by_cases hm : s.rx.meas = .holding
  · simp [ubFailedStep_holding hm, hm]
  · rw [ubFailedStep_clears hm]
    cases (s.unb i).armed <;> cases ht : (s.unb i).tripped <;> simp [clearStages_eq, hm, interruptLearning_unb]

/-! ### All steps at a failed window -/

/-- What a failed window leaves as it is, but for the alarm set, the orders and the records of the steps. -/
theorem forEach_ubFailedStep_frame (l : List StepId) (s : State) :
    (forEach ubFailedStep l s).rx = s.rx ∧ (forEach ubFailedStep l s).tbl = s.tbl ∧
    (forEach ubFailedStep l s).arb = s.arb ∧
    (forEach ubFailedStep l s).link = { s.link with alarms := (forEach ubFailedStep l s).link.alarms } := by
  induction l generalizing s with
  | nil => exact ⟨rfl, rfl, rfl, rfl⟩
  | cons i l ih =>
    obtain ⟨rx, tbl, arb, link⟩ := ih (ubFailedStep i s)
    obtain ⟨rx', tbl', arb', link'⟩ := ubFailedStep_frame i s
    refine ⟨rx.trans rx', tbl.trans tbl', arb.trans arb', ?_⟩
    rw [forEach, ← link']
    exact link

/-- Every record after a failed window; steps outside the list stand. -/
theorem forEach_ubFailedStep_unb {l : List StepId} (hl : l.Nodup) (j : StepId) (s : State) :
    (forEach ubFailedStep l s).unb j = if j ∈ l then failedUnb s.rx.meas (s.unb j) else s.unb j := by
  induction l generalizing s with
  | nil => rfl
  | cons i l ih =>
    obtain ⟨hi, hl⟩ := List.nodup_cons.mp hl
    rw [forEach, ih hl, (ubFailedStep_frame i s).1, ubFailedStep_unb]
    by_cases e : j = i
    · subst e; simp [hi]
    · simp [e]

/-- The alarm set after a failed window (R145, R146). -/
theorem forEach_ubFailedStep_alarms {l : List StepId} (hl : l.Nodup) (s : State) :
    (forEach ubFailedStep l s).link.alarms = s.link.alarms.filter fun e =>
      !decide (s.rx.meas ≠ .holding ∧ e.kind = .unbalanceAlarm ∧ ∃ i ∈ l, e.subject = .step i ∧
        (s.unb i).tripped = false ∧ (s.unb i).alarmActive = true) := by
  induction l generalizing s with
  | nil => simp [forEach]
  | cons i l ih =>
    obtain ⟨hi, hl⟩ := List.nodup_cons.mp hl
    have others : ∀ j ∈ l, (ubFailedStep i s).unb j = s.unb j := fun j hj => by
      have ne : j ≠ i := fun e => hi (e ▸ hj)
      rw [ubFailedStep_unb, if_neg ne]
    rw [forEach, ih hl, ubFailedStep_alarms, (ubFailedStep_frame i s).1, droppedIf, List.filter_filter]
    refine List.filter_congr fun e _ => ?_
    have same : (∃ j ∈ l, e.subject = .step j ∧ ((ubFailedStep i s).unb j).tripped = false ∧
        ((ubFailedStep i s).unb j).alarmActive = true) ↔
        ∃ j ∈ l, e.subject = .step j ∧ (s.unb j).tripped = false ∧ (s.unb j).alarmActive = true :=
      exists_congr fun j => and_congr_right fun hj => by rw [others j hj]
    simp only [same, List.mem_cons, exists_eq_or_imp]
    by_cases hm : s.rx.meas = .holding <;> by_cases hk : e.kind = .unbalanceAlarm <;> by_cases hs : e.subject = .step i <;>
      simp [hm, hk, hs, hi]

/-- With no learning in progress no order ends. -/
theorem forEach_ubFailedStep_oe {l : List StepId} {s : State} (hn : ∀ i, (s.unb i).learning = none) :
    (forEach ubFailedStep l s).oe = s.oe := by
  induction l generalizing s with
  | nil => rfl
  | cons i l ih =>
    have kept : (ubFailedStep i s).oe = s.oe := by
      rw [ubFailedStep_oe, interruptLearning_none (hn i)]
    have none_left : ∀ j, ((ubFailedStep i s).unb j).learning = none := fun j => by
      rw [ubFailedStep_unb]
      split
      · exact failedUnb_learning _ _
      · exact hn j
    rw [forEach, ih none_left, kept]

/-- A learning in progress ends its EXECUTING order, whatever other learnings end with it (R150). -/
theorem forEach_ubFailedStep_failed {l : List StepId} {i : StepId} {j : SlotId} {s : State} (hi : i ∈ l)
    (hl : (s.unb i).learning ≠ none) (he : s.oe.executing = some j) : LearningFailed j (forEach ubFailedStep l s) := by
  induction l generalizing s with
  | nil => exact absurd hi List.not_mem_nil
  | cons a l ih =>
    by_cases ha : (s.unb a).learning = none
    · have kept : (ubFailedStep a s).oe.executing = some j := by
        rw [ubFailedStep_oe, interruptLearning_none ha, he]
      have ne : i ≠ a := fun e => hl (e ▸ ha)
      have still : ((ubFailedStep a s).unb i).learning ≠ none := by rw [ubFailedStep_unb, if_neg ne]; exact hl
      exact ih ((List.mem_cons.mp hi).resolve_left ne) still kept
    · have failed : LearningFailed j (ubFailedStep a s) :=
        (learningFailed_congr (ubFailedStep_oe a s)).mpr (interruptLearning_some ha he)
      refine forEach_invariant (LearningFailed j) ubFailedStep (fun b t ht => ?_) l _ failed
      rw [learningFailed_congr ((ubFailedStep_oe b t).trans (interruptLearning_idle ht.1))]
      exact ht

/-- The causes of FAST_OV and DEAD_BUS_OPEN, ended one after the other. -/
theorem causeOverIf_fast_dead (fast dead : Bool) (as : List AlarmEntry) :
    causeOverIf dead .deadBusOpen .yard (causeOverIf fast .fastOv .yard as) = as.map fun e =>
      if e.subject = .yard ∧ ((e.kind = .fastOv ∧ fast = true) ∨ (e.kind = .deadBusOpen ∧ dead = true)) then
        { e with cause := false } else e := by
  simp only [causeOverIf, List.map_map]
  refine List.map_congr_left fun e _ => ?_
  by_cases hs : e.subject = .yard
  · by_cases hf : e.kind = .fastOv
    · cases fast <;> simp [hs, hf]
    · by_cases hd : e.kind = .deadBusOpen <;> cases dead <;> simp [hs, hf, hd]
  · simp [hs]

/-- The entries of the two harmonic alarms dropped one after the other, and the cause of HARM_TRIP ended. -/
theorem causeOverIf_dropped_harmonic (shed v i : Bool) (as : List AlarmEntry) :
    causeOverIf shed .harmTrip .yard (droppedIf i .harmAlarmI .yard (droppedIf v .harmAlarmV .yard as)) =
      (as.filter fun e => !decide (e.subject = .yard ∧ ((e.kind = .harmAlarmV ∧ v = true) ∨
        (e.kind = .harmAlarmI ∧ i = true)))).map fun e =>
      if e.subject = .yard ∧ e.kind = .harmTrip ∧ shed = true then { e with cause := false } else e := by
  simp only [causeOverIf, droppedIf, List.filter_filter]
  congr 1
  · funext e
    congr 1
    exact propext ⟨fun h => ⟨h.2.2, h.2.1, h.1⟩, fun h => ⟨h.2.2, h.2.1, h.1⟩⟩
  · refine List.filter_congr fun e _ => ?_
    by_cases hs : e.subject = .yard
    · cases v <;> cases i <;> simp [hs, Bool.and_comm]
    · simp [hs]

/-- Settles O30: each consumer at a failed window end in hand. -/
theorem failedWindowHoldsOrClears : Obligations.FailedWindowHoldsOrClears := by
  unfold Obligations.FailedWindowHoldsOrClears
  intro h s hr hh hg hc
  refine ⟨fun hv => ?vc, fun hs => ?hs, fun hu => ?ub⟩
  case vc =>
    let t := consumed (fun h => { h with vc := false }) s
    have rx : t.rx = { s.rx with inHand := if h.hs || h.ub then some { h with vc := false } else none } := by
      rw [consumed_rx _ hh, Bool.false_or]
    have run : exec .vcEvaluation s = .next (settle (vcFailed t)) := by
      simp [exec, execVcEvaluation, hr, vcEvaluate, dueFor_failed hh hg hc hv, t]
    refine ⟨_, run, ?_⟩
    by_cases hm : s.rx.meas = .holding
    · rw [vcFailed_holding (s := t) hm, if_pos hm]
      exact ⟨rfl, rfl, rx, rfl, rfl, rfl⟩
    · rw [vcFailed_clears (s := t) hm, if_neg hm]
      exact ⟨rfl, rfl, rx, rfl, rfl, rfl, causeOverIf_fast_dead ..⟩
  case hs =>
    let t := consumed (fun h => { h with hs := false }) s
    have rx : t.rx = { s.rx with inHand := if h.vc || h.ub then some { h with hs := false } else none } := by
      rw [consumed_rx _ hh, Bool.or_false]
    have run : exec .harmonicEvaluation s = .next (settle (hsFailed t)) := by
      simp [exec, execHarmonicEvaluation, hr, hsEvaluate, dueFor_failed hh hg hc hs, t]
    refine ⟨_, run, ?_⟩
    by_cases hm : s.rx.meas = .holding
    · rw [hsFailed_holding (s := t) hm, if_pos hm]
      exact ⟨rfl, rfl, rfl, rx, rfl, rfl⟩
    · rw [hsFailed_clears (s := t) hm, if_neg hm]
      exact ⟨rfl, rfl, rfl, rx, rfl, rfl, causeOverIf_dropped_harmonic ..⟩
  case ub =>
    let t := consumed (fun h => { h with ub := false }) s
    have rx : t.rx = { s.rx with inHand := if h.vc || h.hs then some { h with ub := false } else none } := by
      rw [consumed_rx _ hh, Bool.or_false]
    have run : exec .unbalanceEvaluation s = .next (settle (forEach ubFailedStep allSteps t)) := by
      simp [exec, execUnbalanceEvaluation, hr, ubEvaluate, dueFor_failed hh hg hc hu, t]
    have nodup : allSteps.Nodup := by decide
    have every : ∀ i, i ∈ allSteps := by decide
    obtain ⟨rx', tbl, arb, link⟩ := forEach_ubFailedStep_frame allSteps t
    refine ⟨_, run, tbl, arb, rx'.trans rx, ?_, ?_, forEach_ubFailedStep_oe (s := t),
      fun i j hl he => forEach_ubFailedStep_failed (s := t) (every i) hl he, fun i => ?_⟩
    · exact link
    · rw [forEach_ubFailedStep_alarms nodup]
      exact List.filter_congr fun e _ => by simp [every]; rfl
    · rw [forEach_ubFailedStep_unb nodup, if_pos (every i)]
      rfl

end Sys2Proof.Proofs

namespace Sys2Proof.Proofs

open Sys2Proof.Machine Sys2Proof.Safety Sys2Proof.Laws

/-! ### Which steps are fitted -/

/-- Which steps are fitted (R38). -/
def fitsOf (recs : Vector StepRec 8) : StepId → Bool := fun j => (look recs j).fitted

/-- A record changed in anything but its fitting. -/
@[simp] theorem fitsOf_modStep (i : StepId) (f : StepRec → StepRec) (s : State) (h : ∀ r, (f r).fitted = r.fitted) :
    fitsOf (s.modStep i f).tbl.recs = fitsOf s.tbl.recs := by
  funext j
  have := State.modStep_stepRec i j f s
  simp only [State.stepRec] at this
  rw [fitsOf, fitsOf, this]
  split
  · next e => rw [h, e]
  · rfl

/-- Operations that keep every record's core keep the fitting. -/
theorem fitsOf_of_core {s t : State} (h : ∀ j, Laws.core (t.stepRec j) = Laws.core (s.stepRec j)) :
    fitsOf t.tbl.recs = fitsOf s.tbl.recs :=
  funext fun j => congrArg (·.2.1) (h j)

@[simp] theorem fitsOf_startCooldown (i : StepId) (s : State) :
    fitsOf (startCooldown i s).tbl.recs = fitsOf s.tbl.recs := fitsOf_of_core fun j => startCooldown_core i j s

@[simp] theorem fitsOf_moveStep (i : StepId) (new : StepState) (s : State) :
    fitsOf (moveStep i new s).tbl.recs = fitsOf s.tbl.recs := by
  funext j
  have h := congrArg (·.2.1) (moveStep_core i j new s)
  refine Eq.trans (b := ((moveStep i new s).stepRec j).fitted) rfl (Eq.trans h ?_)
  dsimp only
  split
  · next e => rw [e]; rfl
  · rfl

/-! ### The alarm entries that belong to no step -/

/-- The entries of the kinds whose subject is a channel or the yard (11.9.6). -/
def yardOf (as : List AlarmEntry) : List AlarmEntry := as.filter fun e => !decide (subjectClass e.kind = 0)

/-- An entry is for its own kind. -/
theorem isFor_kind {k : AlarmKind} {sub : Subject} {e : AlarmEntry} (h : e.isFor k sub = true) : e.kind = k := by
  simp only [AlarmEntry.isFor, Bool.and_eq_true, decide_eq_true_eq] at h
  exact h.1

/-- A change of the entries of one step's kind leaves them. -/
theorem yardOf_map {k : AlarmKind} (hk : subjectClass k = 0) (sub : Subject) (f : AlarmEntry → AlarmEntry)
    (as : List AlarmEntry) (hf : ∀ e, (f e).kind = e.kind) :
    yardOf (as.map fun e => if e.isFor k sub then f e else e) = yardOf as := by
  induction as with
  | nil => rfl
  | cons e as ih =>
    simp only [yardOf] at ih ⊢
    by_cases h : e.isFor k sub
    · simp [h, ih, hf, isFor_kind h, hk]
    · simp [h, ih, List.filter_cons]

/-- A raise notice of a step's kind leaves them. -/
theorem yardOf_raise {k : AlarmKind} (hk : subjectClass k = 0) (sub : Subject) (s : State) :
    yardOf (raise k sub s).link.alarms = yardOf s.link.alarms := by
  simp only [raise, State.modAlarms_alarms, raiseIn]
  split
  · exact yardOf_map hk sub _ _ fun e => rfl
  · simp [yardOf, hk]

/-- A cause-end notice of a step's kind leaves them. -/
theorem yardOf_endCause {k : AlarmKind} (hk : subjectClass k = 0) (sub : Subject) (s : State) :
    yardOf (endCause k sub s).link.alarms = yardOf s.link.alarms := by
  simp only [endCause, State.modAlarms_alarms, endCauseIn]
  split
  · exact yardOf_map hk sub _ _ fun e => rfl
  · rw [yardOf, List.filter_filter]
    refine List.filter_congr fun e _ => ?_
    by_cases h : e.isFor k sub
    · simp [isFor_kind h, hk]
    · simp [h]

@[simp] theorem yardOf_clearStages (i : StepId) (s : State) :
    yardOf (clearStages i s).link.alarms = yardOf s.link.alarms := by
  unfold clearStages
  dsimp only
  split <;> simp [yardOf_endCause (k := .unbalanceAlarm) rfl]

@[simp] theorem yardOf_disarm (i : StepId) (s : State) : yardOf (disarm i s).link.alarms = yardOf s.link.alarms := by
  simp [disarm]

@[simp] theorem yardOf_leaveClosed (i : StepId) (s : State) :
    yardOf (leaveClosed i s).link.alarms = yardOf s.link.alarms := by
  unfold leaveClosed
  split <;> simp

@[simp] theorem yardOf_takeDeparture (i : StepId) (s : State) :
    yardOf (takeDeparture i s).link.alarms = yardOf s.link.alarms := by
  unfold takeDeparture
  dsimp only
  (repeat' split) <;> simp

@[simp] theorem yardOf_clearSuspect (i : StepId) (s : State) :
    yardOf (clearSuspect i s).link.alarms = yardOf s.link.alarms := by
  unfold clearSuspect
  split <;> simp [yardOf_endCause (k := .resonance) rfl]

@[simp] theorem yardOf_leaveState (i : StepId) (old : StepState) (s : State) :
    yardOf (leaveState i old s).link.alarms = yardOf s.link.alarms := by
  unfold leaveState
  split <;> simp [yardOf_endCause (k := .positionInvalid) rfl]

@[simp] theorem yardOf_enterState (i : StepId) (new : StepState) (s : State) :
    yardOf (enterState i new s).link.alarms = yardOf s.link.alarms := by
  unfold enterState enterOpened enterFaulted
  dsimp only
  (repeat' split) <;> simp [yardOf_raise (k := .positionInvalid) rfl]

@[simp] theorem yardOf_moveStep (i : StepId) (new : StepState) (s : State) :
    yardOf (moveStep i new s).link.alarms = yardOf s.link.alarms := by
  simp [moveStep]

/-! ### Operations handed over and orders started -/

/-- What the start of a close pulse, or its refusal, leaves. -/
@[simp] theorem tryClosePulse_keeps (i : StepId) (s : State) :
    fitsOf (tryClosePulse i s).tbl.recs = fitsOf s.tbl.recs ∧
    yardOf (tryClosePulse i s).link.alarms = yardOf s.link.alarms := by
  unfold tryClosePulse startClosePulse
  (repeat' split) <;> simp

@[simp] theorem scheduleClose_keeps (i : StepId) (frame : Word) (wave : BitVec 5) (s : State) :
    fitsOf (scheduleClose i frame wave s).tbl.recs = fitsOf s.tbl.recs ∧
    yardOf (scheduleClose i frame wave s).link.alarms = yardOf s.link.alarms := by
  unfold scheduleClose
  dsimp only
  split <;> simp

@[simp] theorem takeClose_keeps (i : StepId) (src : Requester) (t : Timing) (s : State) :
    fitsOf (takeClose i src t s).tbl.recs = fitsOf s.tbl.recs ∧
    yardOf (takeClose i src t s).link.alarms = yardOf s.link.alarms := by
  unfold takeClose
  dsimp only
  (repeat' split) <;> simp

@[simp] theorem takeOpen_keeps (i : StepId) (src : Requester) (s : State) :
    fitsOf (takeOpen i src s).tbl.recs = fitsOf s.tbl.recs ∧
    yardOf (takeOpen i src s).link.alarms = yardOf s.link.alarms := by
  unfold takeOpen startTripPulse
  dsimp only
  split <;> simp

@[simp] theorem vcGranted_keeps (s : State) :
    fitsOf (vcGranted s).tbl.recs = fitsOf s.tbl.recs ∧ yardOf (vcGranted s).link.alarms = yardOf s.link.alarms := by
  unfold vcGranted
  dsimp only
  (repeat' split) <;> simp

@[simp] theorem handOver_keeps (x : StartItem) (s : State) :
    fitsOf (handOver x s).tbl.recs = fitsOf s.tbl.recs ∧ yardOf (handOver x s).link.alarms = yardOf s.link.alarms := by
  unfold handOver
  split <;> simp

@[simp] theorem runResetLockout_keeps (i : StepId) (s : State) :
    fitsOf (runResetLockout i s).tbl.recs = fitsOf s.tbl.recs ∧
    yardOf (runResetLockout i s).link.alarms = yardOf s.link.alarms := by
  unfold runResetLockout
  dsimp only
  split <;> simp [yardOf_endCause (k := .unbalanceTrip) rfl]

@[simp] theorem startRightFree_keeps (x : StartItem) (s : State) :
    fitsOf (startRightFree x s).tbl.recs = fitsOf s.tbl.recs ∧
    yardOf (startRightFree x s).link.alarms = yardOf s.link.alarms := by
  unfold startRightFree runRightFree
  dsimp only
  (repeat' split) <;> simp [runHold, runRelease, runRetire, runReinstate, runLearn]

/-! ### The consequences of an event for orders and the right -/

/-- A figure that no update of the arbiter, no start of an order, no refusal, no order handed over and no work of
voltage control changes is left by the consequences of an event (R93, R166, R167, log 13). -/
theorem settle_keeps {β : Type} (g : State → β) (arb : ∀ a s, g { s with arb := a } = g s)
    (start : ∀ x s, g (startRightFree x s) = g s) (leave : ∀ i s, g (leavePosted i s) = g s)
    (refuse : ∀ i r s, g (finishSlot i .refused (some r) s) = g s) (hand : ∀ x s, g (handOver x s) = g s)
    (vc : ∀ s, g (vcGranted s) = g s) (s : State) : g (settle s) = g s := by
  have free : ∀ n s, g (startFree n s) = g s := fun n => by
    induction n with
    | zero => exact fun _ => rfl
    | succ n ih =>
      intro s
      simp only [startFree]
      split
      · rfl
      · split
        · rfl
        · rw [ih, start]
  have granted : ∀ n s, g (oeGranted n s) = g s := fun n => by
    induction n with
    | zero => exact fun _ => rfl
    | succ n ih =>
      intro s
      simp only [oeGranted]
      split
      · rfl
      · split
        · rfl
        · split
          · rw [ih, refuse, leave]
          · rw [hand, leave]
  have round : ∀ n s, g (settleLoop n s) = g s := fun n => by
    induction n with
    | zero => exact fun _ => rfl
    | succ n ih =>
      intro s
      have examined : g (reexamine s) = g s := (arb _ _).trans (free _ _)
      simp only [settleLoop]
      split
      · exact examined
      · next w _ =>
        rw [ih, ← examined]
        cases w with
        | vc => exact (vc _).trans (arb _ _)
        | oe => exact (granted _ _).trans (arb _ _)
  exact round _ s

/-- The fitting of the steps stands, and so do the alarm entries that belong to no step. -/
@[simp] theorem settle_fits_yard (s : State) :
    fitsOf (settle s).tbl.recs = fitsOf s.tbl.recs ∧ yardOf (settle s).link.alarms = yardOf s.link.alarms := by
  refine ⟨settle_keeps (fun s => fitsOf s.tbl.recs) ?_ ?_ ?_ ?_ ?_ ?_ s,
    settle_keeps (fun s => yardOf s.link.alarms) ?_ ?_ ?_ ?_ ?_ ?_ s⟩
  all_goals intros
  all_goals simp

end Sys2Proof.Proofs

namespace Sys2Proof.Proofs

open Sys2Proof.Machine Sys2Proof.Safety Sys2Proof.Laws

/-! ### The judgement of a frame -/

/-- A frame without a frame error (R1, R3). -/
def isReceived : FrameClass → Bool
  | .error => false
  | .received _ _ => true

/-- A received frame with VALID (R3). -/
def isValid : FrameClass → Bool
  | .error => false
  | .received v _ => v

/-- A received frame with CYCLE_MARK (R3). -/
def isMarked : FrameClass → Bool
  | .error => false
  | .received _ m => m

/-- A frame is received when exactly 256 bits arrived since the previous sync (R1). -/
theorem classify_eq (n : Nat) (a : FrameAssembly) (f : SampleFrame) :
    classify (receiveBits n a) f =
      if !a.tooLong && decide (a.bits + n = 256) then
        .received ((look f.slots 15).getLsbD 0) ((look f.slots 15).getLsbD 1)
      else .error := by
  have whole : ((receiveBits n a).bits = 256 ∧ (receiveBits n a).tooLong = false) ↔
      (!a.tooLong && decide (a.bits + n = 256)) = true := by
    cases hl : a.tooLong <;> simp [receiveBits, hl]
    omega
  unfold classify
  by_cases h : (!a.tooLong && decide (a.bits + n = 256)) = true
  · rw [if_pos (whole.mpr h), if_pos h]
    rfl
  · rw [if_neg (mt whole.mp h), if_neg h]

/-- The wave position is 0 at a cycle mark and one further otherwise (R4). -/
theorem nextWave_eq (c : FrameClass) (w : BitVec 5) : nextWave c w = if isMarked c then 0 else w + 1 := by
  cases c with
  | error => rfl
  | received v m => cases m <;> rfl

/-! ### Window building -/

/-- Window building touches the window, the window ends and the window timer alone (R5 to R8). -/
theorem windowFrame_frame (c : FrameClass) (x : Samples) (s : State) :
    windowFrame c x s = { s with rx := { s.rx with
      window := (windowFrame c x s).rx.window, ends := (windowFrame c x s).rx.ends,
      windowTimer := (windowFrame c x s).rx.windowTimer } } := by
  unfold windowFrame
  (repeat' split) <;> rfl

/-- What window building does with a frame (R5, R6, R7). -/
theorem windowFrame_rx (c : FrameClass) (x : Samples) (s : State) :
    ((windowFrame c x s).rx.window, (windowFrame c x s).rx.ends, (windowFrame c x s).rx.windowTimer) =
      (match s.rx.window with
       | none => (if isValid c && isMarked c then some [x] else none, s.rx.ends, s.rx.windowTimer)
       | some xs =>
         if !isReceived c then (none, s.rx.ends ++ [.failed .frameError], windowPeriod s.cfg.yard)
         else if !isValid c then (none, s.rx.ends ++ [.failed .invalid], windowPeriod s.cfg.yard)
         else if isMarked c then (some [x], s.rx.ends ++ [.failed .short], windowPeriod s.cfg.yard)
         else if xs.length < 31 then (some (xs ++ [x]), s.rx.ends, s.rx.windowTimer)
         else (none, s.rx.ends ++ [.good (xs ++ [x]) s.rx.frameNumber s.rx.wave], windowPeriod s.cfg.yard)) := by
  unfold windowFrame
  cases hw : s.rx.window with
  | none =>
    cases c with
    | error => simp [isValid, hw]
    | received v m => cases v <;> cases m <;> simp [isValid, isMarked, hw]
  | some xs =>
    cases c with
    | error => simp [isReceived, endWindow]
    | received v m =>
      cases v <;> cases m <;> simp [isReceived, isValid, isMarked, endWindow]
      split <;> rfl

/-! ### Deliveries -/

/-- Rounds of an iteration are a fold. -/
theorem forEach_eq_foldl {α : Type} (f : α → State → State) (l : List α) (s : State) :
    forEach f l s = l.foldl (fun s a => f a s) s := by
  induction l generalizing s with
  | nil => rfl
  | cons a l ih => exact ih _

/-- What no delivery of a position changes. -/
def surroundings (s : State) : Receiver × Measurement × Inputs × Settings × Clock × List Instr :=
  (s.rx, s.mu, s.io, s.cfg, s.clock, s.pending)

/-- A delivery with its consequences acts outside the receiver, the measurement unit and the inputs. -/
theorem deliver_surroundings (d : Delivery) (s : State) : surroundings (deliver d s) = surroundings s := by
  unfold deliver applyDelivery resolveFaulted uncommandedOpen uncommandedClose
  dsimp only
  (repeat' split) <;> simp [surroundings]

/-- An indicated position that stands already is no change. -/
theorem modStep_indicated {i : StepId} {p : Position} {s : State} (h : (s.stepRec i).indicated = some p) :
    s.modStep i (fun c => { c with indicated := some p }) = s := by
  have same : look s.tbl.recs i = { look s.tbl.recs i with indicated := some p } := by
    rw [← h]; rfl
  rw [State.modStep, ← same]
  simp [put, look]

/-- At the feed's return a step FAULTED with NO_INDICATION is treated as if its indicated position were delivered
(R47). -/
theorem feedReturnStep_eq (i : StepId) (s : State) :
    feedReturnStep i s =
      match (s.stepRec i).state, (s.stepRec i).indicated with
      | .faulted .noIndication, some p => settle (applyDelivery (i, p) s)
      | _, _ => s := by
  unfold feedReturnStep
  by_cases hs : (s.stepRec i).state = .faulted .noIndication
  · cases hp : (s.stepRec i).indicated with
    | none => simp [hs]
    | some p => simp [hs, applyDelivery, modStep_indicated hp]
  · rw [if_neg hs]
    split
    · next h _ => exact absurd h hs
    · rfl

/-- The fitting of the steps stands over the feed's return. -/
theorem feedReturnStep_fits (i : StepId) (s : State) :
    fitsOf (feedReturnStep i s).tbl.recs = fitsOf s.tbl.recs := by
  unfold feedReturnStep resolveFaulted faultInvalid
  dsimp only
  (repeat' split) <;> simp

/-- The feed's return acts as deliveries do. -/
theorem feedReturnStep_surroundings (i : StepId) (s : State) : surroundings (feedReturnStep i s) = surroundings s := by
  rw [feedReturnStep_eq]
  split
  · exact deliver_surroundings _ _
  · rfl

/-- The deliveries of a position word, in ascending step number (R14). -/
theorem deliveries_eq (w : Half) (s : State) :
    deliveries w s = (allSteps.filter fun i =>
      (s.stepRec i).fitted && deliversNow (positionOf w i) (look s.rx.debounce i)).map fun i => (i, positionOf w i) := by
  rw [← List.filterMap_eq_map, List.filterMap_filter]
  rfl

/-- How the two bits of a step give its position (R12). -/
theorem positionOf_iff (w : Half) (i : StepId) :
    (positionOf w i = .closed ↔ w.getLsbD (2 * i.val + 1) = true ∧ w.getLsbD (2 * i.val) = false) ∧
    (positionOf w i = .opened ↔ w.getLsbD (2 * i.val + 1) = false ∧ w.getLsbD (2 * i.val) = true) ∧
    (positionOf w i = .invalid ↔ w.getLsbD (2 * i.val + 1) = w.getLsbD (2 * i.val)) := by
  unfold positionOf
  cases w.getLsbD (2 * i.val + 1) <;> cases w.getLsbD (2 * i.val) <;> simp

/-! ### A frame end -/

/-- The judgement of the frame that a frame end closes (R1, R3). -/
def frameClass (f : SampleFrame) (a : FrameAssembly) : FrameClass := classify (receiveBits f.bitCount a) f

/-- The frame number, the wave position and the window after a frame end (R1, R4 to R8). -/
def built (f : SampleFrame) (a : FrameAssembly) (s : State) : State :=
  windowFrame (frameClass f a) (frameSamples f)
    { s with rx := { s.rx with assembly := some ⟨0, false⟩, frameNumber := s.rx.frameNumber + 1,
                               wave := nextWave (frameClass f a) s.rx.wave } }

/-- The receiver's own work at a frame end: the three registers that always move on, and the window, its ends and its
timer by the frame's judgement (R1, R4 to R8). -/
theorem built_eq (f : SampleFrame) (a : FrameAssembly) (s : State) :
    ∃ window ends timer,
      (let c := frameClass f a
       let x := frameSamples f
       let period := windowPeriod s.cfg.yard
       let wave := if isMarked c then 0 else s.rx.wave + 1
       built f a s = { s with rx := { s.rx with
         assembly := some ⟨0, false⟩, frameNumber := s.rx.frameNumber + 1, wave := wave, window := window, ends := ends,
         windowTimer := timer } } ∧
       (window, ends, timer) = (match s.rx.window with
        | none => (if isValid c && isMarked c then some [x] else none, s.rx.ends, s.rx.windowTimer)
        | some xs =>
          if !isReceived c then (none, s.rx.ends ++ [.failed .frameError], period)
          else if !isValid c then (none, s.rx.ends ++ [.failed .invalid], period)
          else if isMarked c then (some [x], s.rx.ends ++ [.failed .short], period)
          else if xs.length < 31 then (some (xs ++ [x]), s.rx.ends, s.rx.windowTimer)
          else (none, s.rx.ends ++ [.good (xs ++ [x]) (s.rx.frameNumber + 1) wave], period))) := by
  refine ⟨(built f a s).rx.window, (built f a s).rx.ends, (built f a s).rx.windowTimer, ?_, ?_⟩
  · rw [← nextWave_eq]
    exact windowFrame_frame _ _ _
  · rw [← nextWave_eq]
    exact windowFrame_rx _ _ _

/-- A frame that is not valid does no more (R3). -/
theorem frameEnd_invalid {f : SampleFrame} {a : FrameAssembly} {s : State} (ha : s.rx.assembly = some a)
    (hv : isValid (frameClass f a) = false) : frameEnd f s = built f a s := by
  unfold frameEnd
  rw [ha]
  dsimp only
  split
  · next h => simp [frameClass, h, isValid] at hv
  · rfl

/-- At a valid frame the feed comes first, then the positions (log 29). -/
theorem frameEnd_valid {f : SampleFrame} {a : FrameAssembly} {s : State} (ha : s.rx.assembly = some a)
    (hv : isValid (frameClass f a) = true) :
    frameEnd f s = takePositions (look f.slots 14) (feedFrame (built f a s)) := by
  unfold frameEnd
  rw [ha]
  dsimp only
  split
  · rfl
  · next h =>
    cases hc : frameClass f a with
    | error => simp [hc, isValid] at hv
    | received v m =>
      rw [hc] at hv
      exact absurd (hv ▸ hc : frameClass f a = .received true m) (h m)

/-- At a valid frame the feed timer runs anew and the feed is LIVE; a LOST feed returns (R15, R47). -/
theorem feedFrame_eq (s : State) :
    feedFrame s =
      (let x := { s with rx := { s.rx with feedTimer := some 20, feedLive := true } }
       if s.rx.feedLive then x else forEach feedReturnStep allSteps x) := rfl

/-- What the feed's part of a valid frame leaves, but for the feed itself. -/
theorem feedFrame_surroundings (s : State) :
    surroundings (feedFrame s) = surroundings { s with rx := { s.rx with feedTimer := some 20, feedLive := true } } := by
  rw [feedFrame_eq]
  dsimp only
  split
  · rfl
  · exact forEach_keeps surroundings feedReturnStep feedReturnStep_surroundings _ _

/-- The fitting of the steps stands over the feed's part of a valid frame. -/
theorem feedFrame_fits (s : State) : fitsOf (feedFrame s).tbl.recs = fitsOf s.tbl.recs := by
  rw [feedFrame_eq]
  dsimp only
  split
  · rfl
  · exact forEach_keeps (fun s => fitsOf s.tbl.recs) feedReturnStep feedReturnStep_fits _ _

/-- The debounced positions are delivered one after the other (R14, R40). -/
theorem takePositions_eq (w : Half) (s : State) :
    takePositions w s = (allSteps.filter fun i =>
      (s.stepRec i).fitted && deliversNow (positionOf w i) (look s.rx.debounce i)).foldl
        (fun z i => settle (applyDelivery (i, positionOf w i) z)) (debounceAll w s) := by
  rw [takePositions, deliveries_eq, forEach_eq_foldl, List.foldl_map]
  rfl

/-- What the deliveries leave of the debounced state. -/
theorem takePositions_surroundings (w : Half) (s : State) :
    surroundings (takePositions w s) = surroundings (debounceAll w s) :=
  forEach_keeps surroundings deliver deliver_surroundings _ _

/-- The two flags of a received frame (R3). -/
theorem frameClass_flags (f : SampleFrame) (a : FrameAssembly) :
    (let received := !a.tooLong && decide (a.bits + f.bitCount = 256)
     isReceived (frameClass f a) = received ∧
     isValid (frameClass f a) = (received && (look f.slots 15).getLsbD 0) ∧
     isMarked (frameClass f a) = (received && (look f.slots 15).getLsbD 1)) := by
  dsimp only
  rw [frameClass, classify_eq]
  cases !a.tooLong && decide (a.bits + f.bitCount = 256) <;> exact ⟨rfl, rfl, rfl⟩

/-- Settles O15: the receiver's own work, then at a valid frame the feed and the deliveries. -/
theorem frameEndAdvancesTheReceiver : Obligations.FrameEndAdvancesTheReceiver := by
  unfold Obligations.FrameEndAdvancesTheReceiver
  refine ⟨fun f a s hr ha => ?_, positionOf_iff⟩
  intro received valid mark wave x period
  obtain ⟨is_received, is_valid, is_marked⟩ :
    isReceived (frameClass f a) = received ∧ isValid (frameClass f a) = valid ∧ isMarked (frameClass f a) = mark :=
      frameClass_flags f a
  have run : exec (.frameEnd f) s = .next (frameEnd f s) := live_running s _ hr
  obtain ⟨window, ends, timer, moved, built_window⟩ := built_eq f a s
  rw [is_marked] at moved
  rw [is_received, is_valid, is_marked] at built_window
  clear_value received valid mark
  refine ⟨_, run, ?_⟩
  cases valid with
  | false =>
    rw [frameEnd_invalid ha is_valid, moved]
    exact ⟨rfl, rfl, rfl, built_window, fun _ => rfl, nofun, nofun, rfl, rfl, rfl, rfl, rfl, rfl, rfl, rfl⟩
  | true =>
    have feed := feedFrame_surroundings (built f a s)
    have fits : ∀ i, ((feedFrame (built f a s)).stepRec i).fitted = ((built f a s).stepRec i).fitted :=
      congrFun (feedFrame_fits (built f a s))
    have outside := takePositions_surroundings (look f.slots 14) (feedFrame (built f a s))
    have fold := takePositions_eq (look f.slots 14) (feedFrame (built f a s))
    have back := feedFrame_eq (built f a s)
    rw [frameEnd_valid ha is_valid]
    simp only [surroundings, Prod.mk.injEq] at feed outside
    rw [moved] at feed fits outside fold back ⊢
    dsimp only at back
    generalize feedFrame _ = z at *
    obtain ⟨rx, mu, io, cfg, clock, pending⟩ := outside
    obtain ⟨rx', mu', io', cfg', clock', pending'⟩ := feed
    have all : (takePositions (look f.slots 14) z).rx = { z.rx with debounce := (debounceAll (look f.slots 14) z).rx.debounce } := rx
    rw [rx'] at all
    have deb : ∀ i, look (debounceAll (look f.slots 14) z).rx.debounce i =
        if (s.stepRec i).fitted then debounce (positionOf (look f.slots 14) i) (look s.rx.debounce i)
        else look s.rx.debounce i := fun i => by
      simp only [debounceAll, look_ofFn, fits, rx']
      rfl
    refine ⟨by rw [all], by rw [all], by rw [all], ?_, nofun, fun _ => ⟨by rw [all], by rw [all], fun i => ?_⟩, fun _ => ?_,
      by rw [all], by rw [all], by rw [all], mu.trans mu', io.trans io', cfg.trans cfg', clock.trans clock', pending.trans pending'⟩
    · rw [all]
      exact built_window
    · rw [all]
      exact deb i
    · intro steps treat settled x y
      have same_rule : (fun (t : State) (i : StepId) => feedReturnStep i t) = treat :=
        funext fun t => funext fun i => feedReturnStep_eq i t
      have same_x : x = { s with rx := { s.rx with
          assembly := some ⟨0, false⟩, frameNumber := s.rx.frameNumber + 1,
          wave := if mark then 0 else s.rx.wave + 1, window := window, ends := ends, windowTimer := timer,
          feedTimer := some 20, feedLive := true } } := by
        dsimp only [x]
        rw [all]
      have same_y : y = z := by
        rw [back, forEach_eq_foldl, same_rule, ← same_x]
        rfl
      have same_settled : settled = allSteps.filter fun i =>
          (z.stepRec i).fitted && deliversNow (positionOf (look f.slots 14) i) (look z.rx.debounce i) := by
        rw [rx']
        exact List.filter_congr fun i _ => by rw [fits]; rfl
      rw [same_y, same_settled, rx]
      exact fold

end Sys2Proof.Proofs

namespace Sys2Proof.Proofs

open Sys2Proof.Machine Sys2Proof.Safety Sys2Proof.Laws

/-! ### The close that has not started its pulse -/

/-- A search among the steps that only one can answer. -/
theorem find_only {p : StepId → Bool} {i : StepId} (h : ∀ j, j ≠ i → p j = false) :
    allSteps.find? p = if p i then some i else none := by
  have every : ∀ j, j ∈ allSteps := by decide
  cases hf : allSteps.find? p with
  | none =>
    have := List.find?_eq_none.mp hf i (every i)
    rw [if_neg this]
  | some j =>
    have found := List.find?_some hf
    have : j = i := Decidable.byContradiction fun ne => by simp [h j ne] at found
    subst this
    rw [if_pos found]

/-- Where no other step holds a close without a pulse, the one that is found is this step's. -/
theorem unpulsedClose_eq {i : StepId} {o : Operation} {s : State} (ho : (s.lane i).op = some o)
    (hn : NoOtherHeldClose i s) : unpulsedClose s = if o.unpulsed then some (i, o) else none := by
  have found : unpulsedStep s = if o.unpulsed then some i else none := by
    refine (find_only fun j hj => ?_).trans (by rw [ho])
    have := hn j hj
    cases h : (s.lane j).op with
    | none => rfl
    | some o' => simpa [h] using this
  unfold unpulsedClose
  rw [found]
  cases hu : o.unpulsed <;> simp [ho]

/-- An operation in motion is no close without a pulse. -/
theorem unpulsed_inMotion {o : Operation} (hp : o.phase = .inMotion) : o.unpulsed = false := by
  unfold Operation.unpulsed
  split
  · simp [hp]
  · rfl

/-- Whether a close has still to start its pulse goes by its phase. -/
theorem unpulsed_close {o : Operation} {tm : Timing} (hk : o.kind = .close tm) :
    o.unpulsed = decide (o.phase ≠ .inMotion) := by
  simp [Operation.unpulsed, hk]

section
variable {i : StepId} {o : Operation} {tm : Timing} {s : State} (n : Word) (w : BitVec 5)

/-- At VALID measurement a close that is SCHEDULED or in motion stands (R80). -/
theorem measNotice_stands (ho : (s.lane i).op = some o) (hn : NoOtherHeldClose i s) (hm : s.rx.meas = .valid)
    (hp : o.phase ≠ .awaitingValid) : measNotice n w s = s := by
  unfold measNotice
  rw [unpulsedClose_eq ho hn]
  cases o.unpulsed <;> simp [hm, hp]

/-- At VALID measurement a close that waits for it is scheduled (R79, R80). -/
theorem measNotice_schedules (ho : (s.lane i).op = some o) (hk : o.kind = .close tm) (hn : NoOtherHeldClose i s)
    (hm : s.rx.meas = .valid) (hp : o.phase = .awaitingValid) : measNotice n w s = scheduleClose i n w s := by
  unfold measNotice
  rw [unpulsedClose_eq ho hn, unpulsed_close hk]
  simp [hm, hp]

/-- Without VALID measurement a close that is not SCHEDULED stands (R80). -/
theorem measNotice_waits (ho : (s.lane i).op = some o) (hn : NoOtherHeldClose i s) (hm : s.rx.meas ≠ .valid)
    (hp : o.phase ≠ .scheduled) : measNotice n w s = s := by
  unfold measNotice
  rw [unpulsedClose_eq ho hn]
  cases o.unpulsed <;> simp [hm, hp]

/-- Without VALID measurement a SCHEDULED close loses its schedule (R80). -/
theorem measNotice_loses (ho : (s.lane i).op = some o) (hk : o.kind = .close tm) (hn : NoOtherHeldClose i s)
    (hm : s.rx.meas ≠ .valid) (hp : o.phase = .scheduled) : measNotice n w s = loseSchedule i o s := by
  unfold measNotice
  rw [unpulsedClose_eq ho hn, unpulsed_close hk]
  simp [hm, hp]

end

/-- The notice of a measurement state leaves the alarm entries that belong to no step. -/
theorem yardOf_measNotice (n : Word) (w : BitVec 5) (s : State) :
    yardOf (measNotice n w s).link.alarms = yardOf s.link.alarms := by
  unfold measNotice loseSchedule
  dsimp only
  (repeat' split) <;> simp

/-! ### A pulse that starts at once -/

/-- A step without a close that waits is not watched. -/
theorem watchClose_eq_self {i : StepId} {s : State} (h : (s.lane i).op.any Operation.unpulsed = false) :
    watchClose i s = s := by
  unfold watchClose
  cases ho : (s.lane i).op with
  | none => rfl
  | some o => simp_all

/-- From OPEN to CLOSING, with the pulse begun, only the step's own record, its cooldown and its place in the
closed-order list change (R51, R59). -/
theorem moveStep_closing {i : StepId} {s : State} (hs : (s.stepRec i).state = .opened)
    (ho : (s.lane i).op.any Operation.unpulsed = false) :
    moveStep i .closing s = stopCooldown i (relist i (s.modStep i fun c => { c with state := .closing })) := by
  have lane : (stopCooldown i (relist i (s.modStep i fun c => { c with state := .closing }))).lane i = s.lane i := by
    simp [State.lane]
  unfold moveStep
  rw [hs]
  exact watchClose_eq_self (by rw [← ho, ← lane]; rfl)

/-- The conditions of R76 all stand. -/
theorem closeBar_none {i : StepId} {s : State} (hi : s.io.inp0.level = false) (hs : (s.stepRec i).state = .opened)
    (hl : (s.stepRec i).lockout = none) (hc : (s.stepRec i).cooling = false) (hh : (s.stepRec i).holdoff = false)
    (hr : (s.stepRec i).retired = false) (hd : (s.lines i).direct = false) : closeBar s i = none := by
  simp [closeBar, closeInhibit, hi, hs, hl, hc, hh, hr, hd]

/-- What a close pulse that starts changes of the step, its lane, the schedule and the snapshot (R79, R81, R127). -/
theorem startClosePulse_spec {i : StepId} {o : Operation} {s : State} (ho : (s.lane i).op = some o)
    (hs : (s.stepRec i).state = .opened) :
    (let p := startClosePulse i s
     (p.stepRec i).state = .closing ∧ p.seq.schedule = none ∧ p.seq.syncWait = none ∧
     p.lane i = ⟨some { o with phase := .inMotion }, s.cfg.yard.closePulse, (s.lane i).tripPulse,
                 some s.cfg.yard.confirmTime⟩ ∧
     p.hs = { s.hs with snapshot := some ⟨i, s.hs.dv⟩ } ∧ p.oe = s.oe ∧ p.arb = s.arb) := by
  let pulsed := s.modLane i fun l => { l with
    op := some { o with phase := .inMotion }, closePulse := s.cfg.yard.closePulse,
    confirm := some s.cfg.yard.confirmTime }
  let begun := { pulsed with seq.schedule := none, seq.syncWait := none, hs.snapshot := some ⟨i, s.hs.dv⟩ }
  let noted := begun.modStep i fun c => { c with lastSource := sourceOf o.source }
  have start : startClosePulse i s = moveStep i .closing noted := by simp [startClosePulse, ho, noted, begun, pulsed]
  have lane : noted.lane i = ⟨some { o with phase := .inMotion }, s.cfg.yard.closePulse, (s.lane i).tripPulse,
      some s.cfg.yard.confirmTime⟩ := look_put_self _ i _
  have opened : (noted.stepRec i).state = .opened := by
    rw [State.modStep_stepRec_self]
    exact hs
  have moved := moveStep_closing opened (by rw [lane]; exact unpulsed_inMotion rfl)
  have frame : (moveStep i .closing noted).seq = noted.seq ∧ (moveStep i .closing noted).hs = noted.hs ∧
      (moveStep i .closing noted).oe = noted.oe ∧ (moveStep i .closing noted).arb = noted.arb := by
    rw [moved]
    simp
  obtain ⟨seq, hs', oe, arb⟩ := frame
  rw [start]
  exact ⟨by rw [moveStep_state, if_pos rfl], by rw [seq]; rfl, by rw [seq]; rfl, by rw [State.lane, seq]; exact lane, hs',
    oe, arb⟩

/-! ### A close that ends without a pulse -/

/-- The end of a close: its record, the schedule and the sync wait go, the requester has its report and the right is
free. -/
theorem abandonClose_eq {i : StepId} {o : Operation} {s : State} (out : OrderOutcome) (r : Option Reason)
    (ho : (s.lane i).op = some o) :
    abandonClose i out r s = freeRight (endReport o.source out r
      { s.modLane i fun l => { l with op := none } with seq.schedule := none, seq.syncWait := none }) := by
  simp [abandonClose, ho]

/-- A close that is abandoned: its record, the schedule and the sync wait go, and the right is free with no settle (R77,
R80, R92). -/
theorem abandonClose_spec {i : StepId} {o : Operation} {s : State} (out : OrderOutcome) (r : Option Reason)
    (ho : (s.lane i).op = some o) :
    (let p := abandonClose i out r s
     (p.lane i).op = none ∧ p.seq.schedule = none ∧ p.seq.syncWait = none ∧ p.arb = { s.arb with busy := .notBusy }) := by
  rw [abandonClose_eq out r ho]
  simp [State.lane, freeRight, State.modLane]

/-- The report to voltage control clears its band and touches no order (R108). -/
theorem abandonClose_vc {i : StepId} {o : Operation} {s : State} (out : OrderOutcome) (r : Option Reason)
    (ho : (s.lane i).op = some o) (hv : o.source = .vc) :
    (abandonClose i out r s).oe = s.oe ∧
    (abandonClose i out r s).vc = { s.vc with
      lowAcc := 0, highAcc := 0, lowReached := false, highReached := false,
      request := if s.arb.vcRequest = .urgent then .fastPending else .idle } := by
  rw [abandonClose_eq out r ho, hv]
  exact ⟨rfl, rfl⟩

/-- The report to the order engine ends the EXECUTING order (R168). -/
theorem abandonClose_oe {i : StepId} {o : Operation} {s : State} {j : SlotId} (out : OrderOutcome) (r : Option Reason)
    (ho : (s.lane i).op = some o) (hs : o.source = .oe) (he : s.oe.executing = some j) :
    (let p := abandonClose i out r s
     p.oe.executing = none ∧ (p.slot j).state = .finished ∧ (p.slot j).outcome = some out ∧ (p.slot j).reason = r) := by
  rw [abandonClose_eq out r ho, hs]
  simp [endReport, finishExecuting, he, finishSlot, freeRight, State.slot, State.modSlot]

/-- A SCHEDULED close of an order whose sync wait runs waits for VALID measurement again (R80). -/
theorem loseSchedule_waits {i : StepId} {o : Operation} {s : State} (hs : o.source = .oe)
    (hw : s.seq.syncWait ≠ some 0) :
    (let p := loseSchedule i o s
     p.lane i = { s.lane i with op := some { o with phase := .awaitingValid } } ∧ p.seq.schedule = none ∧
     p.seq.syncWait = s.seq.syncWait ∧ p.oe = s.oe ∧ p.arb = s.arb) := by
  dsimp only
  unfold loseSchedule
  rw [if_pos hs, if_neg hw]
  exact ⟨look_put_self _ i _, rfl, rfl, rfl, rfl⟩

/-- A SCHEDULED close of an order whose sync wait has expired ends FAILED NO_SYNC (R80). -/
theorem loseSchedule_expired {i : StepId} {o : Operation} {s : State} (hs : o.source = .oe)
    (hw : s.seq.syncWait = some 0) : loseSchedule i o s = abandonClose i .failed (some .noSync) s := by
  simp [loseSchedule, hs, hw]

/-- A SCHEDULED close of voltage control ends (R80). -/
theorem loseSchedule_vc {i : StepId} {o : Operation} {s : State} (hs : o.source = .vc) :
    loseSchedule i o s = abandonClose i .preempted none s := by
  simp [loseSchedule, hs]

/-! ### Entries of a kind that belongs to no step -/

/-- Whether an entry of such a kind is there goes by those entries. -/
theorem mem_yardOf {e : AlarmEntry} {as : List AlarmEntry} (hk : subjectClass e.kind ≠ 0) : e ∈ yardOf as ↔ e ∈ as := by
  simp [yardOf, hk]

/-- An entry that no notice touches stays away. -/
theorem alarmAbsent_of_yardOf {k : AlarmKind} {sub : Subject} {s t : State} (hk : subjectClass k ≠ 0)
    (h : yardOf t.link.alarms = yardOf s.link.alarms) (ha : AlarmAbsent k sub s) : AlarmAbsent k sub t := by
  intro e he
  rintro ⟨rfl, rfl⟩
  exact ha e ((mem_yardOf hk).mp (h ▸ (mem_yardOf hk).mpr he)) ⟨rfl, rfl⟩

/-- An unacknowledged entry that no notice touches stands. -/
theorem alarmStands_of_yardOf {k : AlarmKind} {sub : Subject} {s t : State} (hk : subjectClass k ≠ 0)
    (h : yardOf t.link.alarms = yardOf s.link.alarms) (hs : AlarmStands k sub s) : AlarmStands k sub t := by
  obtain ⟨e, he, rfl, rfl, fresh⟩ := hs
  exact ⟨e, (mem_yardOf hk).mp (h ▸ (mem_yardOf hk).mpr he), rfl, rfl, fresh⟩

/-- After a raise notice an unacknowledged entry stands (R199). -/
theorem alarmStands_raise (k : AlarmKind) (sub : Subject) (s : State) : AlarmStands k sub (raise k sub s) := by
  unfold AlarmStands
  simp only [raise, State.modAlarms_alarms, raiseIn]
  split
  · next there =>
    obtain ⟨e, he, hf⟩ := List.any_eq_true.mp there
    have own : e.kind = k ∧ e.subject = sub := by simpa [AlarmEntry.isFor] using hf
    exact ⟨_, List.mem_map.mpr ⟨e, he, if_pos hf⟩, own.1, own.2, rfl⟩
  · exact ⟨_, List.mem_append_right _ (List.mem_singleton_self _), rfl, rfl, rfl⟩

/-- After the cause-end notice of a non-latching kind no entry stands (R199). -/
theorem alarmAbsent_endCause {k : AlarmKind} (hk : k.latching = false) (sub : Subject) (s : State) :
    AlarmAbsent k sub (endCause k sub s) := by
  intro e he
  rw [endCause_nonLatching hk] at he
  have kept := (List.mem_filter.mp he).2
  exact fun own => by simp [own.1, own.2] at kept

/-! ### The window end that is handed on -/

/-- The next window end is taken once the previous one is consumed and computed (R11). -/
theorem exec_windowEnd_good {s : State} {frames : List Samples} {n : Word} {w : BitVec 5} {rest : List WindowEnd}
    (hr : s.resetHeld = false) (hh : s.rx.inHand = none) (hc : s.mu.computing = none)
    (he : s.rx.ends = .good frames n w :: rest) :
    exec .windowEnd s = .next (settle (handGood frames n w { s with rx.ends := rest })) := by
  simp [exec, execWindowEnd, hr, takeWindowEnd, hh, hc, he]

theorem exec_windowEnd_failed {s : State} {cause : WindowFailure} {rest : List WindowEnd}
    (hr : s.resetHeld = false) (hh : s.rx.inHand = none) (hc : s.mu.computing = none)
    (he : s.rx.ends = .failed cause :: rest) :
    exec .windowEnd s = .next (settle (handFailed { s with rx.ends := rest })) := by
  simp [exec, execWindowEnd, hr, takeWindowEnd, hh, hc, he]

/-- The state in which the pending close hears of a good window end (R9, R10). -/
def heardGood (rest : List WindowEnd) (s : State) : State :=
  endCause .measLost .yard { s with rx := { s.rx with ends := rest, meas := .valid, failedCount := 0 } }

/-- The good window end: the notice to the pending close, the window under computation and the window end in hand (R11,
R20). -/
theorem handGood_eq (frames : List Samples) (n : Word) (w : BitVec 5) (rest : List WindowEnd) (s : State) :
    handGood frames n w { s with rx.ends := rest } =
      (let q := measNotice n w (heardGood rest s)
       { q with mu.computing := some ⟨frames, q.cfg.yard.voltageNominal, q.cfg.yard.currentNominal⟩,
                rx.inHand := some ⟨true, true, true, true⟩ }) := rfl

/-- Nothing but the receiver and the entry of MEAS_LOST has changed by then. -/
theorem heardGood_frame (rest : List WindowEnd) (s : State) :
    heardGood rest s = { s with
      rx := { s.rx with ends := rest, meas := .valid, failedCount := 0 },
      link.alarms := droppedIf true .measLost .yard s.link.alarms } := endCause_nonLatching rfl _ _

/-- A close whose pulse frame lies ahead is SCHEDULED (R79). -/
theorem scheduleClose_ahead {i : StepId} {o : Operation} {n : Word} {w : BitVec 5} {s : State}
    (ho : (s.lane i).op = some o)
    (hk : pulseDelay w.toNat (mechFrames (s.stepCfg i).mechTime s.cfg.yard.nominalFrequency) ≠ 0) :
    (let k := pulseDelay w.toNat (mechFrames (s.stepCfg i).mechTime s.cfg.yard.nominalFrequency)
     let p := scheduleClose i n w s
     p.lane i = { s.lane i with op := some { o with phase := .scheduled } } ∧
     p.seq.schedule = some ⟨n + BitVec.ofNat 32 k, i⟩ ∧ p.seq.syncWait = s.seq.syncWait ∧
     p.tbl = s.tbl ∧ p.oe = s.oe ∧ p.arb = s.arb) := by
  dsimp only
  unfold scheduleClose
  rw [if_neg hk]
  refine ⟨?_, rfl, rfl, rfl, rfl, rfl⟩
  refine (look_put_self _ i _).trans ?_
  have : (look s.seq.lanes i).op = some o := ho
  dsimp only
  rw [this]
  rfl

/-- A close whose pulse frame is the current one starts its pulse when the conditions of R76 stand. -/
theorem scheduleClose_now {i : StepId} {n : Word} {w : BitVec 5} {s : State}
    (hk : pulseDelay w.toNat (mechFrames (s.stepCfg i).mechTime s.cfg.yard.nominalFrequency) = 0)
    (hb : closeBar s i = none) : scheduleClose i n w s = startClosePulse i s := by
  simp [scheduleClose, hk, tryClosePulse, hb]

/-! ### A failed window end -/

/-- Measurement state and failed-window count after one more failed window (R9). -/
def failedNext (m : MeasState) (k : Nat) : MeasState × Nat :=
  let n := countFailure (if m = .valid then 0 else k)
  (measAfterFailure m n, n)

/-- The table of R9. -/
theorem failedNext_eq (m : MeasState) (k : Nat) : failedNext m k =
    match m with
    | .noSync => (.noSync, min (k + 1) 255)
    | .valid => (.holding, 1)
    | .holding => (if 4 ≤ k + 1 then .stale else .holding, min (k + 1) 255)
    | .stale => (.stale, min (k + 1) 255) := by
  cases m
  case holding =>
    have : 4 ≤ min (k + 1) 255 ↔ 4 ≤ k + 1 := by omega
    simp [failedNext, countFailure, measAfterFailure, this]
  all_goals rfl

/-- A failed window leaves measurement that is not VALID (R9). -/
theorem failedNext_not_valid (m : MeasState) (k : Nat) : (failedNext m k).1 ≠ .valid := by
  rw [failedNext_eq]
  cases m
  case holding => dsimp only; split <;> nofun
  all_goals nofun

/-- The state in which the pending close hears of a failed window end (R9, R10). -/
def heardFailed (rest : List WindowEnd) (s : State) : State :=
  let r := failedNext s.rx.meas s.rx.failedCount
  let t := { s with rx := { s.rx with ends := rest, meas := r.1, failedCount := r.2 } }
  if measLostCause r.1 r.2 && !measLostCause s.rx.meas s.rx.failedCount then raise .measLost .yard t else t

/-- The failed window end: the notice to the pending close, the entries one window older and the window end in hand
(R11, R22). -/
theorem handFailed_eq (rest : List WindowEnd) (s : State) :
    handFailed { s with rx.ends := rest } =
      (let q := measNotice (heardFailed rest s).rx.frameNumber (heardFailed rest s).rx.wave (heardFailed rest s)
       { q with mu.entries := q.mu.entries.map ageEntry, rx.inHand := some ⟨false, true, true, true⟩ }) := rfl

/-- Nothing but the receiver and the alarm set has changed by then. -/
theorem heardFailed_frame (rest : List WindowEnd) (s : State) :
    (let r := failedNext s.rx.meas s.rx.failedCount
     heardFailed rest s = { s with
       rx := { s.rx with ends := rest, meas := r.1, failedCount := r.2 },
       link.alarms := (heardFailed rest s).link.alarms }) := by
  dsimp only
  unfold heardFailed
  dsimp only
  split <;> rfl

/-- What the notice of a failed window finds as it was. -/
@[simp] theorem heardFailed_rest (rest : List WindowEnd) (s : State) :
    (heardFailed rest s).rx = { s.rx with ends := rest, meas := (failedNext s.rx.meas s.rx.failedCount).1,
                                          failedCount := (failedNext s.rx.meas s.rx.failedCount).2 } ∧
    (heardFailed rest s).mu = s.mu ∧ (heardFailed rest s).io = s.io ∧ (heardFailed rest s).cfg = s.cfg ∧
    (heardFailed rest s).clock = s.clock := by
  rw [heardFailed_frame]
  exact ⟨rfl, rfl, rfl, rfl, rfl⟩

/-- The fourth failed window in succession brings the cause of MEAS_LOST (R9, R10). -/
theorem heardFailed_stands {rest : List WindowEnd} {s : State}
    (hm : s.rx.meas = .holding ∨ s.rx.meas = .noSync) (hk : s.rx.failedCount = 3) :
    AlarmStands .measLost .yard (heardFailed rest s) := by
  have comes : (measLostCause (failedNext s.rx.meas s.rx.failedCount).1 (failedNext s.rx.meas s.rx.failedCount).2 &&
      !measLostCause s.rx.meas s.rx.failedCount) = true := by
    rcases hm with hm | hm <;> rw [hm, hk] <;> decide
  unfold heardFailed
  dsimp only
  rw [if_pos comes]
  exact alarmStands_raise _ _ _

/-- Settles O19: what the pending close hears, then the receiver and the measurement unit. -/
theorem windowEndSetsTheMeasurementState : Obligations.WindowEndSetsTheMeasurementState := by
  unfold Obligations.WindowEndSetsTheMeasurementState
  intro s hr hh hc
  refine ⟨fun frames n w rest he => ?good, fun cause rest he => ?failed⟩
  case good =>
    refine ⟨_, _, exec_windowEnd_good hr hh hc he, rfl, ?close, ?rx, ?mu, ?alarm, ?io, ?cfg, ?clock⟩
    all_goals rw [handGood_eq]
    case close =>
      intro i o tm ho hk hn
      refine ⟨fun hp => ?stands, fun hp hd => ?ahead, fun hp hd hi hs hl hco hho hre hdi => ?now⟩
      case stands =>
        rw [measNotice_stands (s := heardGood rest s) n w ho hn rfl hp]
        exact ⟨rfl, rfl, rfl, rfl⟩
      case ahead =>
        rw [measNotice_schedules (s := heardGood rest s) n w ho hk hn rfl hp]
        exact scheduleClose_ahead (s := heardGood rest s) ho hd
      case now =>
        rw [measNotice_schedules (s := heardGood rest s) n w ho hk hn rfl hp,
          scheduleClose_now (s := heardGood rest s) hd (closeBar_none hi hs hl hco hho hre hdi)]
        exact startClosePulse_spec (s := heardGood rest s) ho hs
    case alarm =>
      refine alarmAbsent_of_yardOf (s := heardGood rest s) (by decide) ?_ (alarmAbsent_endCause rfl _ _)
      exact (settle_fits_yard _).2.trans (yardOf_measNotice _ _ _)
    all_goals simp [heardGood]
  case failed =>
    refine ⟨_, _, exec_windowEnd_failed hr hh hc he, rfl, ?loss, ?receiver, ?io', ?cfg', ?clock'⟩
    all_goals rw [handFailed_eq]
    case loss =>
      intro i o tm ho hk hn
      have frame := heardFailed_frame rest s
      have off := failedNext_not_valid s.rx.meas s.rx.failedCount
      dsimp only at frame
      generalize (heardFailed rest s).link.alarms = as at frame
      rw [frame]
      generalize ht : ({ s with rx := _, link := _ } : State) = t
      have off : t.rx.meas ≠ .valid := by rw [← ht]; exact off
      have op : (t.lane i).op = some o := by rw [← ht]; exact ho
      have alone : NoOtherHeldClose i t := by rw [← ht]; exact hn
      by_cases hp : o.phase = .scheduled
      · rw [measNotice_loses _ _ op hk alone off hp]
        have same : t.tbl = s.tbl ∧ t.seq = s.seq ∧ t.oe = s.oe ∧ t.arb = s.arb ∧ t.lane i = s.lane i ∧ t.vc = s.vc := by
          rw [← ht]
          exact ⟨rfl, rfl, rfl, rfl, rfl, rfl⟩
        obtain ⟨tbl, seq, oe, arb, lane, vc⟩ := same
        rw [← tbl, ← seq, ← oe, ← arb, ← lane, ← vc]
        refine ⟨by simp, fun h => absurd hp h, fun _ hs hw => ?waits, fun _ hs hw => ?expired, fun _ hs => ?vc⟩
        case waits => exact loseSchedule_waits hs hw
        case expired =>
          rw [loseSchedule_expired hs hw]
          obtain ⟨gone, sched, wait, free⟩ := abandonClose_spec .failed (some .noSync) op
          exact ⟨gone, sched, wait, free, fun j hj => abandonClose_oe .failed (some .noSync) op hs hj⟩
        case vc =>
          rw [loseSchedule_vc hs]
          obtain ⟨gone, sched, wait, free⟩ := abandonClose_spec .preempted none op
          obtain ⟨orders, band⟩ := abandonClose_vc .preempted none op hs
          exact ⟨gone, sched, wait, free, orders, band⟩
      · rw [measNotice_waits _ _ op alone off hp, ← ht]
        exact ⟨rfl, fun _ => ⟨rfl, rfl, rfl⟩, fun h => absurd h hp, fun h => absurd h hp, fun h => absurd h hp⟩
    case receiver =>
      refine ⟨?_, ?_, fun c => ?_, fun hm hk => ?_⟩
      · cases hm : s.rx.meas <;> simp [hm, failedNext_eq]
      · simpa using hc
      · simp [ageEntry]
      · refine alarmStands_of_yardOf (s := heardFailed rest s) (by decide) ?_ (heardFailed_stands hm hk)
        exact (settle_fits_yard _).2.trans (yardOf_measNotice _ _ _)
    all_goals simp

end Sys2Proof.Proofs

namespace Sys2Proof.Proofs

open Sys2Proof.Machine Sys2Proof.Safety Sys2Proof.Laws

/-! ### The integer square root -/

/-- The bits below the `k`-th tried in turn: the root stays at or below, and one more is above (section 0.5). -/
theorem isqrtFrom_spec (n k r : Nat) (low : r * r ≤ n) (high : n < (r + 2 ^ k) * (r + 2 ^ k)) :
    isqrtFrom n k r * isqrtFrom n k r ≤ n ∧ n < (isqrtFrom n k r + 1) * (isqrtFrom n k r + 1) := by
  induction k generalizing r with
  | zero => exact ⟨low, high⟩
  | succ k ih =>
    have double : r + 2 ^ (k + 1) = r + 2 ^ k + 2 ^ k := by omega
    rw [isqrtFrom]
    split
    · next fits => exact ih _ fits (double ▸ high)
    · next above => exact ih _ low (by omega)

/-- The integer square root is the library's. -/
theorem isqrt_eq_sqrt (n : Nat) : isqrt n = Nat.sqrt n := by
  have high : n < (0 + 2 ^ (n.log2 / 2 + 1)) * (0 + 2 ^ (n.log2 / 2 + 1)) := by
    calc n < 2 ^ (n.log2 + 1) := Nat.lt_log2_self
      _ ≤ 2 ^ (n.log2 / 2 + 1 + (n.log2 / 2 + 1)) := Nat.pow_le_pow_right (by omega) (by omega)
      _ = _ := by rw [zero_add, pow_add]
  exact Nat.eq_sqrt.mpr (isqrtFrom_spec n _ 0 (Nat.zero_le n) high)

/-- The square of the root does not exceed the argument, and that of the next number does. -/
theorem isqrt_spec (n : Nat) : isqrt n * isqrt n ≤ n ∧ n < (isqrt n + 1) * (isqrt n + 1) :=
  Nat.eq_sqrt.mp (isqrt_eq_sqrt n)

/-- The root of a number up to a square is at most that square's root. -/
theorem isqrt_le {n r : Nat} (h : n ≤ r * r) : isqrt n ≤ r := by
  rw [isqrt_eq_sqrt]
  exact (Nat.sqrt_le_sqrt h).trans (Nat.sqrt_eq r).le

/-! ### Rounding and limits -/

/-- The magnitude of a rounded quotient. -/
theorem natAbs_roundDiv {d : Nat} (hd : 1 < d) (x : Int) : (roundDiv x d).natAbs = (x.natAbs + d / 2) / d := by
  rw [roundDiv, Int.natAbs_mul, Int.natAbs_natCast]
  rcases eq_or_ne x 0 with rfl | hx
  · simp [Nat.div_eq_of_lt (show d / 2 < d by omega)]
  · rw [Int.natAbs_sign_of_ne_zero hx, one_mul]

/-- The limit of R26. -/
theorem limitSym_eq {lim : Int} (h : 0 ≤ lim) (x : Int) : limitSym lim x = max (-lim) (min lim x) := by
  unfold limitSym
  split
  · omega
  · split <;> omega

/-- A limited value is within the limit. -/
theorem natAbs_limitSym_le (lim : Nat) (x : Int) : (limitSym lim x).natAbs ≤ lim := by
  rw [limitSym_eq (by omega)]
  omega

/-- The limit changes a value exactly when its magnitude is above. -/
theorem limitSym_ne_iff (lim : Nat) (x : Int) : limitSym lim x ≠ x ↔ lim < x.natAbs := by
  rw [limitSym_eq (by omega)]
  omega

/-- R25's rounding is to the nearest: the error is at most half of the divisor. -/
theorem round_error_le (x : Int) :
    2 * (262144 * (x.sign * ((x.natAbs + 131072) / 262144 : Nat)) - x).natAbs ≤ 262144 := by
  rcases lt_trichotomy x 0 with h | rfl | h
  · rw [Int.sign_eq_neg_one_of_neg h]
    omega
  · decide
  · rw [Int.sign_eq_one_of_pos h]
    omega

/-- At a tie R25's rounding goes away from zero. -/
theorem round_tie_away (x : Int)
    (tie : 2 * (262144 * (x.sign * ((x.natAbs + 131072) / 262144 : Nat)) - x).natAbs = 262144) :
    x.natAbs < (262144 * (x.sign * ((x.natAbs + 131072) / 262144 : Nat))).natAbs := by
  rcases lt_trichotomy x 0 with h | rfl | h
  · rw [Int.sign_eq_neg_one_of_neg h] at tie ⊢
    omega
  · exact absurd tie (by decide)
  · rw [Int.sign_eq_one_of_pos h] at tie ⊢
    omega

/-- Settles O21: the limit in R26's form, then the error and the ties of R25's rounding. -/
theorem phasorPartsAreRounded : Obligations.PhasorPartsAreRounded := by
  unfold Obligations.PhasorPartsAreRounded
  intro k v i u
  exact ⟨limitSym_eq (lim := 32767) (by decide) _, limitSym_eq (lim := 32767) (by decide) _, round_error_le,
    round_tie_away, by decide, by decide, by decide, by decide⟩

/-! ### The four sums (R24) -/

/-- The sum of products of two sequences, term by term. -/
theorem dot_eq_sum (xs cs : List Int) (h : xs.length = cs.length) :
    dot xs cs = ((List.range xs.length).map fun k => xs.getD k 0 * cs.getD k 0).sum := by
  induction xs generalizing cs with
  | nil => simp [dot]
  | cons x xs ih =>
    obtain _ | ⟨c, cs⟩ := cs
    · cases h
    · rw [dot, ih cs (by simpa using h), List.length_cons, List.range_succ_eq_map]
      simp [Function.comp_def]

/-- The same with the coefficients given by a function of the place. -/
theorem dot_eq_sum_of {cs : List Int} {c : Nat → Int} (hc : ∀ k < cs.length, cs.getD k 0 = c k) {xs : List Int}
    (h : xs.length = cs.length) : dot xs cs = ((List.range cs.length).map fun k => xs.getD k 0 * c k).sum := by
  rw [dot_eq_sum xs cs h, h]
  exact congrArg List.sum (List.map_congr_left fun k hk => by rw [hc k (List.mem_range.mp hk)])

/-- The running sum is the sum. -/
theorem foldl_add_eq_sum (f : Int → Nat) (xs : List Int) (a : Nat) :
    xs.foldl (fun a x => a + f x) a = a + (xs.map f).sum := by
  induction xs generalizing a with
  | nil => rfl
  | cons x xs ih => rw [List.foldl_cons, ih, List.map_cons, List.sum_cons, Nat.add_assoc]

/-- The sum of squares of the samples. -/
theorem formSums_ssq (xs : List Int) : (formSums xs).ssq = (xs.map fun x => x.natAbs * x.natAbs).sum :=
  (foldl_add_eq_sum (fun x => x.natAbs * x.natAbs) xs 0).trans (Nat.zero_add _)

/-- The running maximum from a start is the least bound of the start and the magnitudes. -/
theorem foldl_max_le_iff (xs : List Int) (a b : Nat) :
    xs.foldl (fun a x => max a x.natAbs) a ≤ b ↔ a ≤ b ∧ ∀ x ∈ xs, x.natAbs ≤ b := by
  induction xs generalizing a with
  | nil => simp
  | cons x xs ih => simp [ih, and_assoc]

/-- The peak is the least bound of the magnitudes of the samples. -/
theorem formSums_pk_le_iff (xs : List Int) (b : Nat) : (formSums xs).pk ≤ b ↔ ∀ x ∈ xs, x.natAbs ≤ b := by
  simp [formSums, foldl_max_le_iff]

/-- The peak is the magnitude of one of the samples. -/
theorem formSums_pk_mem {xs : List Int} (h : xs ≠ []) : ∃ x ∈ xs, x.natAbs = (formSums xs).pk := by
  have bound := (formSums_pk_le_iff xs (formSums xs).pk).mp le_rfl
  by_contra missed
  push Not at missed
  have below : ∀ x ∈ xs, x.natAbs < (formSums xs).pk := fun x hx => lt_of_le_of_ne (bound x hx) (missed x hx)
  obtain ⟨x, hx⟩ := List.exists_mem_of_ne_nil xs h
  have := (formSums_pk_le_iff xs ((formSums xs).pk - 1)).mpr fun y hy => by have := below y hy; omega
  have := below x hx
  omega

/-- The magnitude of a 16-bit sample. -/
theorem natAbs_sample_le {x : Int} (h : -32768 ≤ x ∧ x ≤ 32767) : x.natAbs ≤ 32768 := by omega

theorem square_sample_le {x : Int} (h : -32768 ≤ x ∧ x ≤ 32767) : x.natAbs * x.natAbs ≤ 1073741824 :=
  Nat.mul_le_mul (natAbs_sample_le h) (natAbs_sample_le h)

/-- The sum of squares of samples is at most their number times 2^30. -/
theorem sum_squares_le {xs : List Int} (h : ∀ x ∈ xs, -32768 ≤ x ∧ x ≤ 32767) :
    (xs.map fun x => x.natAbs * x.natAbs).sum ≤ 1073741824 * xs.length := by
  induction xs with
  | nil => exact le_rfl
  | cons x xs ih =>
    have rest := ih fun y hy => h y (List.mem_cons_of_mem x hy)
    have this := square_sample_le (h x List.mem_cons_self)
    simp only [List.map_cons, List.sum_cons, List.length_cons]
    omega

/-- Only samples of -32768 reach it. -/
theorem all_lowest_of_sum_squares {xs : List Int} (h : ∀ x ∈ xs, -32768 ≤ x ∧ x ≤ 32767)
    (full : 1073741824 * xs.length ≤ (xs.map fun x => x.natAbs * x.natAbs).sum) : ∀ x ∈ xs, x = -32768 := by
  induction xs with
  | nil => simp
  | cons x xs ih =>
    have range := h x List.mem_cons_self
    have ranges := fun y hy => h y (List.mem_cons_of_mem x hy)
    have this := square_sample_le range
    have rest := sum_squares_le ranges
    simp only [List.map_cons, List.sum_cons, List.length_cons] at full
    have lowest : x = -32768 := by
      have magnitude : 32768 ≤ x.natAbs := Nat.mul_self_le_mul_self_iff.mp (by omega)
      omega
    exact List.forall_mem_cons.mpr ⟨lowest, ih ranges (by omega)⟩

/-! ### A channel's entry (R25 to R32) -/

/-- The magnitude of two limited parts before its own limit (R27). -/
theorem magnitude_le {a b : Nat} (ha : a ≤ 32767) (hb : b ≤ 32767) : isqrt (a * a + b * b) ≤ 46339 := by
  have := Nat.mul_le_mul ha ha
  have := Nat.mul_le_mul hb hb
  exact Nat.le_of_lt_succ (Nat.mul_self_lt_mul_self_iff.mp ((isqrt_spec _).1.trans_lt (by omega)))

/-- CLIPPED is set exactly when RE, IM or M was limited or the peak is at the end of the range (R26, R27). -/
theorem formEntry_clipped (k : ChannelKind) (v i : Nat) (u : Sums) :
    (formEntry k v i u).clipped = true ↔
      32767 < (roundDiv u.sre 262144).natAbs ∨ 32767 < (roundDiv u.sim 262144).natAbs ∨
      32767 < isqrt ((formEntry k v i u).re.natAbs * (formEntry k v i u).re.natAbs +
        (formEntry k v i u).im.natAbs * (formEntry k v i u).im.natAbs) ∨ 32767 ≤ u.pk := by
  rw [← limitSym_ne_iff, ← limitSym_ne_iff]
  simp [formEntry, or_assoc]

/-- A channel's parts are within the limit of R26. -/
theorem formEntry_parts_le (k : ChannelKind) (v i : Nat) (u : Sums) :
    (formEntry k v i u).re.natAbs ≤ 32767 ∧ (formEntry k v i u).im.natAbs ≤ 32767 :=
  ⟨natAbs_limitSym_le 32767 _, natAbs_limitSym_le 32767 _⟩

/-- A full window whose true RMS is limited holds -32768 alone, and is CLIPPED (R28). -/
theorem trueRms_limited {xs : List Int} (hn : xs.length = 32) (h : ∀ x ∈ xs, -32768 ≤ x ∧ x ≤ 32767)
    (cut : 32767 < isqrt ((formSums xs).ssq / 32)) : (∀ x ∈ xs, x = -32768) ∧ (formSums xs).pk = 32768 := by
  have root := (Nat.mul_le_mul cut cut).trans (isqrt_spec _).1
  rw [formSums_ssq] at root
  have lowest := all_lowest_of_sum_squares h (by omega)
  obtain ⟨x, hx, peak⟩ := formSums_pk_mem (xs := xs) (by rintro rfl; cases hn)
  exact ⟨lowest, by rw [← peak, lowest x hx]; rfl⟩

/-- Settles O22: the sums over a full window, M with CLIPPED, and the true RMS. -/
theorem magnitudeAndTrueRms : Obligations.MagnitudeAndTrueRms := by
  unfold Obligations.MagnitudeAndTrueRms
  refine ⟨fun xs hn => ?sums, fun k v i u => ?magnitude, fun k v i xs hn h => ?rms⟩
  case sums =>
    have nonempty : xs ≠ [] := by rintro rfl; cases hn
    refine ⟨dot_eq_sum_of (cs := cosTable) (by decide) hn,
      congrArg Neg.neg (dot_eq_sum_of (cs := sinTable) (by decide) hn), formSums_ssq xs,
      (formSums_pk_le_iff xs _).mp le_rfl, formSums_pk_mem nonempty, fun h => ⟨?_, ?_⟩, fun _ _ _ => rfl⟩
    · have := sum_squares_le h
      rw [formSums_ssq]
      omega
    · exact (formSums_pk_le_iff xs 32768).mpr fun x hx => natAbs_sample_le (h x hx)
  case magnitude =>
    obtain ⟨re_le, im_le⟩ := formEntry_parts_le k v i u
    obtain ⟨low, high⟩ := isqrt_spec ((formEntry k v i u).re.natAbs * (formEntry k v i u).re.natAbs +
      (formEntry k v i u).im.natAbs * (formEntry k v i u).im.natAbs)
    exact ⟨limitSym_eq (lim := 32767) (by decide) _, limitSym_eq (lim := 32767) (by decide) _, _, low, high,
      magnitude_le re_le im_le, rfl, formEntry_clipped k v i u⟩
  case rms =>
    obtain ⟨low, high⟩ := isqrt_spec ((formSums xs).ssq / 32)
    refine ⟨_, low, high, rfl, fun cut => ?_⟩
    obtain ⟨lowest, peak⟩ := trueRms_limited hn h cut
    refine ⟨lowest, peak, (formEntry_clipped k v i _).mpr (.inr (.inr (.inr ?_)))⟩
    omega

/-- F is at most the peak-to-RMS share of the limit of M (R29). -/
theorem formEntry_f_le (k : ChannelKind) (v i : Nat) (u : Sums) : (formEntry k v i u).f ≤ 23169 := by
  have limited : (formEntry k v i u).m ≤ 32767 := Nat.min_le_right _ _
  have share : (formEntry k v i u).f = (formEntry k v i u).m * 46341 / 65536 := rfl
  omega

/-- H is the root of what R has over F (R30). -/
theorem formEntry_h (k : ChannelKind) (v i : Nat) (u : Sums) :
    (formEntry k v i u).h = isqrt ((formEntry k v i u).r * (formEntry k v i u).r -
      (formEntry k v i u).f * (formEntry k v i u).f) := rfl

/-- Settles O23: each level from the one before, with the root's bounds for H. -/
theorem fundamentalResidualAndLevels : Obligations.FundamentalResidualAndLevels := by
  unfold Obligations.FundamentalResidualAndLevels
  intro k v i u
  refine ⟨rfl, formEntry_f_le k v i u, fun within => ?_, fun _ => ?_, fun strong => if_pos strong,
    fun weak => if_neg (Nat.not_le.mpr weak), ?_⟩
  · rw [formEntry_h, Nat.sub_eq_zero_of_le within]
    rfl
  · rw [formEntry_h]
    exact isqrt_spec _
  · cases k <;> rfl

end Sys2Proof.Proofs

namespace Sys2Proof.Proofs

open Sys2Proof.Machine Sys2Proof.Safety Sys2Proof.Laws

/-! ### A notice and the entries it is not for -/

/-- The entries for a kind and subject. -/
def entriesOf (k : AlarmKind) (sub : Subject) (as : List AlarmEntry) : List AlarmEntry :=
  as.filter fun e => decide (e.kind = k ∧ e.subject = sub)

/-- Whether an unacknowledged entry stands goes by those entries. -/
theorem alarmStands_congr {k : AlarmKind} {sub : Subject} {s t : State}
    (h : entriesOf k sub t.link.alarms = entriesOf k sub s.link.alarms) :
    AlarmStands k sub t ↔ AlarmStands k sub s := by
  have of_entries (u : State) :
      AlarmStands k sub u ↔ ∃ e ∈ entriesOf k sub u.link.alarms, e.acked = false := by
    simp [AlarmStands, entriesOf, and_assoc]
  rw [of_entries, of_entries, h]

/-- Whether no entry stands goes by those entries. -/
theorem alarmAbsent_congr {k : AlarmKind} {sub : Subject} {s t : State}
    (h : entriesOf k sub t.link.alarms = entriesOf k sub s.link.alarms) :
    AlarmAbsent k sub t ↔ AlarmAbsent k sub s := by
  have of_entries (u : State) : AlarmAbsent k sub u ↔ entriesOf k sub u.link.alarms = [] := by
    simp [AlarmAbsent, entriesOf]
  rw [of_entries, of_entries, h]

/-- A selection of entries without those of a kind and subject. -/
def Passes (p : AlarmEntry → Bool) (k : AlarmKind) (sub : Subject) : Prop :=
  ∀ e : AlarmEntry, e.kind = k → e.subject = sub → p e = false

/-- A raise notice leaves a selection that passes its entry by (R199). -/
theorem raise_filter {p : AlarmEntry → Bool} {k : AlarmKind} {sub : Subject} (hp : Passes p k sub) (s : State) :
    (raise k sub s).link.alarms.filter p = s.link.alarms.filter p := by
  simp only [raise, State.modAlarms_alarms, raiseIn]
  split
  · induction s.link.alarms with
    | nil => rfl
    | cons e as ih =>
      by_cases own : e.isFor k sub
      · obtain ⟨kind, subject⟩ : e.kind = k ∧ e.subject = sub := by simpa [AlarmEntry.isFor] using own
        have renewed : p { e with acked := false, cause := !k.momentary, cooldownCut := false } = false :=
          hp _ kind subject
        simp [own, ih, hp e kind subject, renewed]
      · simp [own, ih, List.filter_cons]
  · simp [hp ⟨k, sub, s.clock.seconds, false, !k.momentary, false⟩ rfl rfl]

/-- A cause-end notice of a non-latching kind leaves a selection that passes its entry by (R199). -/
theorem endCause_filter {p : AlarmEntry → Bool} {k : AlarmKind} {sub : Subject} (hk : k.latching = false)
    (hp : Passes p k sub) (s : State) : (endCause k sub s).link.alarms.filter p = s.link.alarms.filter p := by
  rw [endCause_nonLatching hk]
  simp only [droppedIf, List.filter_filter]
  refine List.filter_congr fun e _ => ?_
  by_cases own : e.kind = k ∧ e.subject = sub
  · simp [hp e own.1 own.2]
  · simp [own]

/-! ### CHANNEL_CLIPPED at a publication (R35) -/

/-- The neutral channel of a step is alarmed when the step is fitted (R35). -/
theorem clipAlarmed_neutral {c : ChanId} {i : StepId} (h : c.val = 6 + i.val) (s : State) :
    clipAlarmed s c = (s.stepRec i).fitted := by
  have own : stepOfChannel c = some i := by
    simp only [stepOfChannel, show 6 ≤ c.val by omega, dif_pos, Option.some.injEq, Fin.ext_iff]
    omega
  simp [clipAlarmed, own]

/-- Channels 0 to 5 and the neutral channels of fitted steps are alarmed (R35). -/
theorem clipAlarmed_of {c : ChanId} {s : State}
    (h : c.val < 6 ∨ ∃ i : StepId, c.val = 6 + i.val ∧ (s.stepRec i).fitted = true) : clipAlarmed s c = true := by
  rcases h with phase | ⟨i, own, fitted⟩
  · simp [clipAlarmed, stepOfChannel, show ¬6 ≤ c.val by omega]
  · rw [clipAlarmed_neutral own, fitted]

/-- A state but for its alarm entries. -/
def besideAlarms (s : State) : State := { s with link.alarms := [] }

theorem eq_of_besideAlarms {s t : State} (h : besideAlarms t = besideAlarms s) :
    t = { s with link.alarms := t.link.alarms } :=
  congrArg (fun u : State => { u with link.alarms := t.link.alarms }) h

theorem mu_of_besideAlarms {s t : State} (h : besideAlarms t = besideAlarms s) : t.mu = s.mu :=
  show (besideAlarms t).mu = (besideAlarms s).mu from congrArg State.mu h

theorem clipAlarmed_of_besideAlarms {s t : State} (h : besideAlarms t = besideAlarms s) (c : ChanId) :
    clipAlarmed t c = clipAlarmed s c :=
  show clipAlarmed (besideAlarms t) c = clipAlarmed (besideAlarms s) c by rw [h]

/-- A notice of CHANNEL_CLIPPED touches the alarm set alone. -/
theorem clipNotice_beside (old : Vector ChanEntry 14) (c : ChanId) (s : State) :
    besideAlarms (clipNotice old c s) = besideAlarms s := by
  unfold clipNotice
  dsimp only
  (repeat' split) <;> rfl

/-- A notice of CHANNEL_CLIPPED leaves a selection that passes its channel's entry by. -/
theorem clipNotice_filter {p : AlarmEntry → Bool} {c : ChanId} (hp : Passes p .channelClipped (.channel c))
    (old : Vector ChanEntry 14) (s : State) :
    (clipNotice old c s).link.alarms.filter p = s.link.alarms.filter p := by
  unfold clipNotice
  dsimp only
  (repeat' split)
  · exact raise_filter hp s
  · exact endCause_filter rfl hp s
  all_goals rfl

/-- A channel whose flag is as it was, or one that is not alarmed, has no notice. -/
theorem clipNotice_quiet {old : Vector ChanEntry 14} {c : ChanId} {s : State}
    (h : (look s.mu.entries c).clipped = (look old c).clipped ∨ clipAlarmed s c = false) : clipNotice old c s = s := by
  unfold clipNotice
  rcases h with same | unfitted
  · cases hc : (look old c).clipped <;> simp [same, hc]
  · simp [unfitted]

/-- A flag that is newly set leaves an unacknowledged entry. -/
theorem clipNotice_raises {old : Vector ChanEntry 14} {c : ChanId} {s : State} (ha : clipAlarmed s c = true)
    (now : (look s.mu.entries c).clipped = true) (was : (look old c).clipped = false) :
    AlarmStands .channelClipped (.channel c) (clipNotice old c s) := by
  have raised : clipNotice old c s = raise .channelClipped (.channel c) s := by simp [clipNotice, ha, now, was]
  exact raised ▸ alarmStands_raise _ _ s

/-- A flag that is no longer set leaves no entry. -/
theorem clipNotice_ends {old : Vector ChanEntry 14} {c : ChanId} {s : State} (ha : clipAlarmed s c = true)
    (now : (look s.mu.entries c).clipped = false) (was : (look old c).clipped = true) :
    AlarmAbsent .channelClipped (.channel c) (clipNotice old c s) := by
  have ended : clipNotice old c s = endCause .channelClipped (.channel c) s := by simp [clipNotice, ha, now, was]
  exact ended ▸ alarmAbsent_endCause rfl _ s

/-! ### The notices of all channels -/

/-- The selection of another channel's entries passes by. -/
theorem passes_other_channel {c d : ChanId} (h : d ≠ c) :
    Passes (fun e => decide (e.kind = .channelClipped ∧ e.subject = .channel c)) .channelClipped (.channel d) :=
  fun e _ subject => by simp [subject, h]

/-- The notices touch the alarm set alone. -/
theorem clipNotices_beside (old : Vector ChanEntry 14) (l : List ChanId) (s : State) :
    besideAlarms (forEach (clipNotice old) l s) = besideAlarms s :=
  forEach_keeps besideAlarms (clipNotice old) (clipNotice_beside old) l s

/-- A selection stands over the notices when each channel's notice passes it by or is not sent. -/
theorem clipNotices_filter {p : AlarmEntry → Bool} {old : Vector ChanEntry 14} {l : List ChanId} {s : State}
    (h : ∀ c ∈ l, Passes p .channelClipped (.channel c) ∨
      (look s.mu.entries c).clipped = (look old c).clipped ∨ clipAlarmed s c = false) :
    (forEach (clipNotice old) l s).link.alarms.filter p = s.link.alarms.filter p := by
  induction l generalizing s with
  | nil => rfl
  | cons c l ih =>
    have head : (clipNotice old c s).link.alarms.filter p = s.link.alarms.filter p :=
      (h c List.mem_cons_self).elim (fun hp => clipNotice_filter hp old s) fun quiet => by rw [clipNotice_quiet quiet]
    have beside := clipNotice_beside old c s
    refine (ih fun d hd => ?_).trans head
    rw [mu_of_besideAlarms beside, clipAlarmed_of_besideAlarms beside]
    exact h d (List.mem_cons_of_mem c hd)

/-- Each channel has its own notice among them, on a state that differs in the alarm set alone. -/
theorem clipNotices_own (old : Vector ChanEntry 14) {l : List ChanId} (hl : l.Nodup) {c : ChanId} (hc : c ∈ l)
    (s : State) :
    ∃ u, besideAlarms u = besideAlarms s ∧
      entriesOf .channelClipped (.channel c) (forEach (clipNotice old) l s).link.alarms =
        entriesOf .channelClipped (.channel c) (clipNotice old c u).link.alarms := by
  induction l generalizing s with
  | nil => cases hc
  | cons d l ih =>
    obtain ⟨fresh, rest⟩ := List.nodup_cons.mp hl
    rcases List.mem_cons.mp hc with rfl | later
    · exact ⟨s, rfl, clipNotices_filter fun d hd => .inl (passes_other_channel (ne_of_mem_of_not_mem hd fresh))⟩
    · obtain ⟨u, beside, own⟩ := ih rest later (clipNotice old d s)
      exact ⟨u, beside.trans (clipNotice_beside old d s), own⟩

/-! ### PUBLICATION -/

/-- The state in which the notices of a publication are sent (R21). -/
def published (w : Computation) (s : State) : State :=
  { s with mu := ⟨Vector.ofFn (computeEntry w), none⟩, link.pubCount := s.link.pubCount + 1 }

/-- A publication replaces the table, then sends each channel's notice. -/
theorem exec_publication {w : Computation} {s : State} (hr : s.resetHeld = false) (hw : s.mu.computing = some w) :
    exec .publication s = .next (forEach (clipNotice s.mu.entries) allChannels (published w s)) := by
  simp [exec, execPublication, hr, publish, hw, published]

/-- Settles O24: the table is replaced, then each channel has its notice. -/
theorem publicationReplacesTheTable : Obligations.PublicationReplacesTheTable := by
  unfold Obligations.PublicationReplacesTheTable
  intro w s hr hw
  have beside := clipNotices_beside s.mu.entries allChannels (published w s)
  have own (c : ChanId) := clipNotices_own s.mu.entries (show allChannels.Nodup from List.nodup_finRange 14)
    (List.mem_finRange c) (published w s)
  have kept (p) := clipNotices_filter (p := p) (old := s.mu.entries) (l := allChannels) (s := published w s)
  refine ⟨_, exec_publication hr hw, ?_⟩
  generalize forEach (clipNotice s.mu.entries) allChannels (published w s) = t at beside own kept ⊢
  rw [mu_of_besideAlarms beside]
  refine ⟨eq_of_besideAlarms beside, rfl, fun c => look_ofFn _ c, kept _ fun c _ => .inl fun e kind _ => by simp [kind],
    fun sub h => ?quiet, fun c hc => ?changed⟩
  case quiet =>
    refine kept _ fun c _ => ?_
    by_cases subject : sub = .channel c
    · refine .inr ((h c subject).imp id ?_)
      rintro ⟨i, neutral, unfitted⟩
      exact (clipAlarmed_neutral neutral _).trans unfitted
    · exact .inl fun e _ other => by simp [other, Ne.symm subject]
  case changed =>
    obtain ⟨u, same, notice⟩ := own c
    have alarmed : clipAlarmed u c = true := (clipAlarmed_of_besideAlarms same c).trans (clipAlarmed_of hc)
    rw [alarmStands_congr notice, alarmAbsent_congr notice, ← mu_of_besideAlarms same]
    exact ⟨clipNotice_raises alarmed, clipNotice_ends alarmed⟩

end Sys2Proof.Proofs

namespace Sys2Proof.Proofs

open Sys2Proof.Machine Sys2Proof.Safety Sys2Proof.Laws

/-! ### Figures in range -/

/-- Every entry of the channel table is in range (R18). -/
def EntriesOk (es : Vector ChanEntry 14) : Prop := ∀ c, EntryOk c (look es c)

/-- Every learning in progress is in range (R148, R149). -/
def LearningsOk (us : Vector Unbalance 8) : Prop := ∀ i l, (look us i).learning = some l → LearningOk l

theorem figuresOk_iff (s : State) :
    FiguresOk s ↔ SettingsOk s.cfg ∧ EntriesOk s.mu.entries ∧ LearningsOk s.ub := Iff.rfl

/-- Yard settings in range that agree (R16, R115, R132, R196). -/
def YardOk (c : YardSettings) : Prop :=
  (∀ y : YardId, (yardRange y).1 ≤ yardRead c y ∧ yardRead c y ≤ (yardRange y).2) ∧
  (c.nominalFrequency = 50 ∨ c.nominalFrequency = 60) ∧
  c.bandLow + 20 ≤ c.bandHigh ∧ c.bandHigh < c.fastLevel ∧ c.dvAlarm < c.dvTrip

/-- A step's settings in range that agree (R151, R196). -/
def StepSettingsOk (c : StepSettings) : Prop :=
  (∀ p : StepSettingId, p ≠ .operationCount →
    (stepRange p).1 ≤ stepSettingRead c 0 p ∧ stepSettingRead c 0 p ≤ (stepRange p).2) ∧
  c.unbAlarm < c.unbTrip

theorem settingsOk_iff (c : Settings) : SettingsOk c ↔ YardOk c.yard ∧ ∀ i, StepSettingsOk (look c.perStep i) := by
  simp only [SettingsOk, YardOk, StepSettingsOk, and_assoc]

/-! ### Settings written (R115, R132, R149, R151, R196) -/

/-- What a write of a yard setting stores is in range. -/
theorem yardClamp_range (y : YardId) (v : Int) :
    (yardRange y).1 ≤ yardClamp y v ∧ yardClamp y v ≤ (yardRange y).2 := by
  by_cases hy : y = .nominalFrequency
  · subst hy
    simp only [yardClamp, yardRange]
    split <;> decide
  · have stored := yardClamp_eq hy v
    have ordered := yardRange_le y
    omega

/-- A yard setting stored in range and in agreement keeps the table so. -/
theorem yardOk_yardWrite {c : YardSettings} (h : YardOk c) (y : YardId) (v : Int)
    (agrees : yardConsistent c y (yardClamp y v) = true) : YardOk (yardWrite c y (yardClamp y v)) := by
  obtain ⟨ranges, frequency, band, fast, distortion⟩ := h
  refine ⟨fun z => ?_, ?_, ?_⟩
  · rw [yardRead_yardWrite]
    split
    · next same => exact same ▸ yardClamp_range y v
    · exact ranges z
  · cases y
    case nominalFrequency =>
      simp only [yardWrite, yardClamp]
      split <;> simp
    all_goals exact frequency
  · generalize yardClamp y v = n at agrees
    cases y
    case bandLow | bandHigh | fastLevel | dvAlarm | dvTrip => simp_all [yardConsistent, yardWrite]
    all_goals exact ⟨band, fast, distortion⟩

/-- Every range of the per-step table has its limits in order. -/
theorem stepRange_le (p : StepSettingId) : (stepRange p).1 ≤ (stepRange p).2 := by
  cases p <;> decide

/-- What a write of a per-step setting stores is in range. -/
theorem stepClamp_range (p : StepSettingId) (v : Int) :
    (stepRange p).1 ≤ stepClamp p v ∧ stepClamp p v ≤ (stepRange p).2 := by
  have ordered := stepRange_le p
  rw [stepClamp, clampInt_eq ordered]
  omega

/-- The value just stored is read back, and every other stands. -/
theorem stepSettingRead_write (c : StepSettings) (n : Nat) {p : StepSettingId} (hp : p ≠ .operationCount)
    (q : StepSettingId) {v : Int} (low : (stepRange p).1 ≤ v) :
    stepSettingRead (stepSettingWrite c p v) n q = if q = p then v else stepSettingRead c n q := by
  by_cases same : q = p
  · subst same
    rw [if_pos rfl]
    cases q
    case baselineRe | baselineIm => rfl
    case operationCount => exact absurd rfl hp
    all_goals exact Int.toNat_of_nonneg (le_trans (by decide) low)
  · rw [if_neg same]
    cases p <;> cases q <;> simp_all [stepSettingRead, stepSettingWrite]

/-- A per-step setting stored in range and in agreement keeps the step's settings so. -/
theorem stepSettingsOk_write {c : StepSettings} (h : StepSettingsOk c) {p : StepSettingId} (hp : p ≠ .operationCount)
    {v : Int} (range : (stepRange p).1 ≤ v ∧ v ≤ (stepRange p).2) (agrees : stepConsistent c p v = true) :
    StepSettingsOk (stepSettingWrite c p v) := by
  obtain ⟨ranges, levels⟩ := h
  refine ⟨fun q hq => ?_, ?_⟩
  · rw [stepSettingRead_write c 0 hp q range.1]
    split
    · next same => exact same ▸ range
    · exact ranges q hq
  · cases p
    case unbAlarm | unbTrip =>
      simp only [stepConsistent, decide_eq_true_eq, stepSettingWrite, stepRange] at agrees range ⊢
      omega
    all_goals exact levels

/-- One step's settings replaced. -/
theorem settingsOk_put {c : Settings} (h : SettingsOk c) (i : StepId) {x : StepSettings} (hx : StepSettingsOk x) :
    SettingsOk { c with perStep := put c.perStep i x } := by
  rw [settingsOk_iff] at h ⊢
  refine ⟨h.1, fun j => ?_⟩
  rw [look_put]
  split
  · exact hx
  · exact h.2 j

/-! ### Entries computed and aged (R18, R21, R22) -/

theorem natAbs_toInt_le (x : Half) : x.toInt.natAbs ≤ 32768 := by
  have low := BitVec.le_toInt x
  have high := BitVec.toInt_lt (x := x)
  omega

/-- A computed entry is in range, whatever its window holds. -/
theorem computeEntry_ok (w : Computation) (c : ChanId) : EntryOk c (computeEntry w c) := by
  have peak : (computeEntry w c).pk ≤ 32768 := (formSums_pk_le_iff _ _).mpr fun x hx => by
    obtain ⟨frame, -, rfl⟩ := List.mem_map.mp hx
    exact natAbs_toInt_le _
  have level : ∀ d, (computeEntry w c).d = some d → d ≤ 9999 := fun d hd => by
    simp only [computeEntry, formEntry, formD] at hd
    split at hd
    · cases hd
      exact Nat.min_le_right _ _
    · cases hd
  have nominal : (computeEntry w c).p ≤ 4000 ∧ (channelKind c = .neutral → (computeEntry w c).p = 0) := by
    simp only [computeEntry, formEntry, formP]
    split <;> simp_all
  have residual : (computeEntry w c).h ≤ (computeEntry w c).r := isqrt_le (Nat.sub_le _ _)
  have rms : (computeEntry w c).r ≤ 32767 := Nat.min_le_right _ _
  have fundamental : (computeEntry w c).f ≤ 23169 := formEntry_f_le _ _ _ _
  obtain ⟨re, im⟩ : (computeEntry w c).re.natAbs ≤ 32767 ∧ (computeEntry w c).im.natAbs ≤ 32767 :=
    formEntry_parts_le _ _ _ _
  exact ⟨by omega, by omega, by omega, by omega, Nat.min_le_right _ _, rms, by omega, by omega, level, nominal.1,
    nominal.2, peak, Nat.zero_le _⟩

/-- An entry one failed window older stays in range. -/
theorem ageEntry_ok {c : ChanId} {e : ChanEntry} (h : EntryOk c e) : EntryOk c (ageEntry e) := by
  obtain ⟨re, re', im, im', m, r, f, h, d, p, p', pk, -⟩ := h
  exact ⟨re, re', im, im', m, r, f, h, d, p, p', pk, Nat.min_le_right _ _⟩

/-! ### Learnings through the operations that touch the unbalance unit

The shared operations leave settings and channel table as they are (their frame lemmas say so), and of the unbalance
records they change a learning only by ending it or by beginning one. -/

/-- A change of one step's record. -/
theorem learningsOk_modUnb_of {i : StepId} {f : Unbalance → Unbalance} {s : State} (h : LearningsOk s.ub)
    (hf : ∀ l, (f (s.unb i)).learning = some l → LearningOk l) : LearningsOk (s.modUnb i f).ub := fun j l hl => by
  rw [show look (s.modUnb i f).ub j = (s.modUnb i f).unb j from rfl, State.modUnb_unb] at hl
  split at hl
  · exact hf l hl
  · exact h j l hl

/-- A change that leaves the learning, or ends it. -/
@[simp] theorem learningsOk_modUnb {i : StepId} {f : Unbalance → Unbalance} {s : State} (h : LearningsOk s.ub)
    (hf : ∀ u, (f u).learning = u.learning) : LearningsOk (s.modUnb i f).ub :=
  learningsOk_modUnb_of h fun l hl => h i l (hf _ ▸ hl)

@[simp] theorem learningsOk_interruptLearning {i : StepId} {s : State} (h : LearningsOk s.ub) :
    LearningsOk (interruptLearning i s).ub := fun j l hl => by
  rw [show look (interruptLearning i s).ub j = (interruptLearning i s).unb j from rfl, interruptLearning_unb_of] at hl
  split at hl
  · cases hl
  · exact h j l hl

@[simp] theorem learningsOk_clearStages {i : StepId} {s : State} (h : LearningsOk s.ub) :
    LearningsOk (clearStages i s).ub := by
  rw [clearStages_eq]
  exact learningsOk_modUnb h fun _ => rfl

@[simp] theorem learningsOk_disarm {i : StepId} {s : State} (h : LearningsOk s.ub) : LearningsOk (disarm i s).ub :=
  learningsOk_interruptLearning (learningsOk_modUnb (learningsOk_clearStages h) fun _ => rfl)

@[simp] theorem learningsOk_leaveClosed {i : StepId} {s : State} (h : LearningsOk s.ub) :
    LearningsOk (leaveClosed i s).ub := by
  unfold leaveClosed
  split <;> simp [h]

@[simp] theorem learningsOk_enterClosed {i : StepId} {s : State} (h : LearningsOk s.ub) :
    LearningsOk (enterClosed i s).ub := by
  refine learningsOk_modUnb (s := s.modTimers i _) h fun u => ?_
  split <;> rfl

@[simp] theorem learningsOk_takeDeparture {i : StepId} {s : State} (h : LearningsOk s.ub) :
    LearningsOk (takeDeparture i s).ub := by
  have taken : LearningsOk ((disarm i s).modUnb i fun u => { u with departed := false }).ub :=
    learningsOk_modUnb (learningsOk_disarm h) fun _ => rfl
  unfold takeDeparture
  dsimp only
  split
  · split
    · exact learningsOk_modUnb taken fun _ => rfl
    · exact taken
  · exact h

@[simp] theorem learningsOk_leaveState {i : StepId} {old : StepState} {s : State} (h : LearningsOk s.ub) :
    LearningsOk (leaveState i old s).ub := by
  unfold leaveState
  split <;> simp [h]

@[simp] theorem learningsOk_enterState {i : StepId} {new : StepState} {s : State} (h : LearningsOk s.ub) :
    LearningsOk (enterState i new s).ub := by
  unfold enterState
  split <;> simp [h]

@[simp] theorem learningsOk_moveStep {i : StepId} {new : StepState} {s : State} (h : LearningsOk s.ub) :
    LearningsOk (moveStep i new s).ub := by
  simp [moveStep, h]

/-! ### Learnings through the sequencer's operations -/

@[simp] theorem learningsOk_tryClosePulse {i : StepId} {s : State} (h : LearningsOk s.ub) :
    LearningsOk (tryClosePulse i s).ub := by
  unfold tryClosePulse startClosePulse
  (repeat' split) <;> simp [h]

@[simp] theorem learningsOk_scheduleClose {i : StepId} {frame : Word} {wave : BitVec 5} {s : State}
    (h : LearningsOk s.ub) : LearningsOk (scheduleClose i frame wave s).ub := by
  unfold scheduleClose
  dsimp only
  split <;> simp [h]

@[simp] theorem learningsOk_takeClose {i : StepId} {src : Requester} {t : Timing} {s : State} (h : LearningsOk s.ub) :
    LearningsOk (takeClose i src t s).ub := by
  unfold takeClose
  dsimp only
  (repeat' split) <;> simp [h]

@[simp] theorem learningsOk_startTripPulse {i : StepId} {o : Operation} {s : State} (h : LearningsOk s.ub) :
    LearningsOk (startTripPulse i o s).ub := by
  simp [startTripPulse, h]

@[simp] theorem learningsOk_takeOpen {i : StepId} {src : Requester} {s : State} (h : LearningsOk s.ub) :
    LearningsOk (takeOpen i src s).ub := by
  unfold takeOpen
  dsimp only
  split <;> simp [h]

@[simp] theorem learningsOk_protectiveOpen {i : StepId} {s : State} (h : LearningsOk s.ub) :
    LearningsOk (protectiveOpen i s).ub := by
  unfold protectiveOpen
  (repeat' split) <;> simp [h]

@[simp] theorem learningsOk_judgeDelivery {i : StepId} {p : Position} {s : State} (h : LearningsOk s.ub) :
    LearningsOk (judgeDelivery i p s).ub := by
  unfold judgeDelivery confirmClose confirmOpen
  (repeat' split) <;> simp [h]

@[simp] theorem learningsOk_closeNoIndication {i : StepId} {o : Operation} {s : State} (h : LearningsOk s.ub) :
    LearningsOk (closeNoIndication i o s).ub := by
  simp [closeNoIndication, h]

@[simp] theorem learningsOk_closeFailure {i : StepId} {o : Operation} {s : State} (h : LearningsOk s.ub) :
    LearningsOk (closeFailure i o s).ub := by
  simp [closeFailure, h]

@[simp] theorem learningsOk_openFailure {i : StepId} {o : Operation} {s : State} (h : LearningsOk s.ub) :
    LearningsOk (openFailure i o s).ub := by
  unfold openFailure
  dsimp only
  split <;> simp [h]

@[simp] theorem learningsOk_measNotice {frame : Word} {wave : BitVec 5} {s : State} (h : LearningsOk s.ub) :
    LearningsOk (measNotice frame wave s).ub := by
  unfold measNotice
  (repeat' split) <;> simp [h]

/-! ### Learnings through orders and grants -/

@[simp] theorem learningsOk_vcGranted {s : State} (h : LearningsOk s.ub) : LearningsOk (vcGranted s).ub := by
  unfold vcGranted
  dsimp only
  (repeat' split) <;> simp [h]

@[simp] theorem learningsOk_handOver {x : StartItem} {s : State} (h : LearningsOk s.ub) :
    LearningsOk (handOver x s).ub := by
  unfold handOver
  split <;> simp [h]

@[simp] theorem learningsOk_runResetLockout {i : StepId} {s : State} (h : LearningsOk s.ub) :
    LearningsOk (runResetLockout i s).ub := by
  have cleared := learningsOk_clearStages (i := i)
    (learningsOk_takeDeparture (i := i) (s := s.modStep i fun c => { c with lockout := none }) h)
  unfold runResetLockout
  dsimp only
  split <;> simp [cleared]

/-- A learning begins with no window taken (R148). -/
@[simp] theorem learningsOk_runLearn {i : StepId} {s : State} (h : LearningsOk s.ub) : LearningsOk (runLearn i s).ub :=
  learningsOk_modUnb_of h fun l hl => by
    cases hl
    exact ⟨by decide, by decide, by decide⟩

@[simp] theorem learningsOk_startRightFree {x : StartItem} {s : State} (h : LearningsOk s.ub) :
    LearningsOk (startRightFree x s).ub := by
  unfold startRightFree runRightFree
  dsimp only
  (repeat' split) <;> simp [h]

/-- A property that no update of the arbiter, no start of an order, no refusal, no order handed over and no work of
voltage control ends is kept by the consequences of an event (R93, R166, R167, log 13). -/
theorem settle_invariant (P : State → Prop) (arb : ∀ a s, P s → P { s with arb := a })
    (start : ∀ x s, P s → P (startRightFree x s)) (leave : ∀ i s, P s → P (leavePosted i s))
    (refuse : ∀ i r s, P s → P (finishSlot i .refused (some r) s)) (hand : ∀ x s, P s → P (handOver x s))
    (vc : ∀ s, P s → P (vcGranted s)) (s : State) (hs : P s) : P (settle s) := by
  have free : ∀ n s, P s → P (startFree n s) := fun n => by
    induction n with
    | zero => exact fun _ h => h
    | succ n ih =>
      intro s h
      simp only [startFree]
      split
      · exact h
      · split
        · exact h
        · exact ih _ (start _ _ h)
  have granted : ∀ n s, P s → P (oeGranted n s) := fun n => by
    induction n with
    | zero => exact fun _ h => h
    | succ n ih =>
      intro s h
      simp only [oeGranted]
      split
      · exact h
      · split
        · exact h
        · split
          · exact ih _ (refuse _ _ _ (leave _ _ h))
          · exact hand _ _ (leave _ _ h)
  have round : ∀ n s, P s → P (settleLoop n s) := fun n => by
    induction n with
    | zero => exact fun _ h => h
    | succ n ih =>
      intro s h
      have examined : P (reexamine s) := arb _ _ (free _ _ h)
      simp only [settleLoop]
      split
      · exact examined
      · next w _ =>
        refine ih _ ?_
        cases w with
        | vc => exact vc _ (arb _ _ examined)
        | oe => exact granted _ _ (arb _ _ examined)
  exact round _ s hs

@[simp] theorem learningsOk_settle {s : State} (h : LearningsOk s.ub) : LearningsOk (settle s).ub :=
  settle_invariant (fun s => LearningsOk s.ub) (fun _ _ h => h) (fun _ _ h => learningsOk_startRightFree h)
    (fun _ _ h => h) (fun _ _ _ h => h) (fun _ _ h => learningsOk_handOver h) (fun _ h => learningsOk_vcGranted h) s h

end Sys2Proof.Proofs

namespace Sys2Proof.Proofs

open Sys2Proof.Machine Sys2Proof.Safety Sys2Proof.Laws

/-! ### Work that keeps the figures in range -/

/-- Work on the state that keeps settings, channel table and learnings in their ranges. -/
def KeepsFigures (f : State → State) : Prop := ∀ s, FiguresOk s → FiguresOk (f s)

/-- Work that leaves settings and channel table and keeps the learnings in range. -/
theorem keepsFigures_of_learnings {f : State → State}
    (same : ∀ s, (f s).cfg = s.cfg ∧ (f s).mu.entries = s.mu.entries)
    (learnings : ∀ s, LearningsOk s.ub → LearningsOk (f s).ub) : KeepsFigures f := fun s h => by
  obtain ⟨settings, entries, learning⟩ := (figuresOk_iff s).mp h
  obtain ⟨cfg, mu⟩ := same s
  exact (figuresOk_iff _).mpr ⟨cfg ▸ settings, mu ▸ entries, learnings s learning⟩

/-- Work that leaves all three. -/
theorem keepsFigures_of_same {f : State → State}
    (same : ∀ s, (f s).cfg = s.cfg ∧ (f s).mu.entries = s.mu.entries ∧ (f s).ub = s.ub) : KeepsFigures f :=
  keepsFigures_of_learnings (fun s => ⟨(same s).1, (same s).2.1⟩) fun s h => (same s).2.2 ▸ h

/-- Rounds of an iteration keep the figures when each does. -/
theorem keepsFigures_forEach {α : Type} {f : α → State → State} (h : ∀ a, KeepsFigures (f a)) (l : List α) :
    KeepsFigures (forEach f l) := forEach_invariant FiguresOk f h l

theorem raise_keepsFigures (k : AlarmKind) (sub : Subject) : KeepsFigures (raise k sub) := fun _ h => h

theorem settle_keepsFigures : KeepsFigures settle :=
  keepsFigures_of_learnings (fun s => by simp) fun s h => learningsOk_settle h

theorem watchClose_keepsFigures (i : StepId) : KeepsFigures (watchClose i) :=
  keepsFigures_of_same fun s => by simp

theorem addLockout_keepsFigures (i : StepId) (r : LockoutReason) : KeepsFigures (addLockout i r) :=
  keepsFigures_of_same fun s => by simp

theorem protectiveOpen_keepsFigures (i : StepId) : KeepsFigures (protectiveOpen i) :=
  keepsFigures_of_learnings (fun s => by simp) fun s h => learningsOk_protectiveOpen h

theorem openAll_keepsFigures : KeepsFigures openAll := fun s h =>
  keepsFigures_forEach protectiveOpen_keepsFigures _ s h

theorem vcWithdrawClose_keepsFigures : KeepsFigures vcWithdrawClose := keepsFigures_of_same fun s => by simp

theorem measNotice_keepsFigures (frame : Word) (wave : BitVec 5) : KeepsFigures (measNotice frame wave) :=
  keepsFigures_of_learnings (fun s => by simp) fun s h => learningsOk_measNotice h

/-! ### The sample link receiver -/

theorem applyDelivery_keepsFigures (d : Delivery) : KeepsFigures (applyDelivery d) := fun s h => by
  obtain ⟨settings, entries, learnings⟩ := (figuresOk_iff s).mp h
  unfold applyDelivery resolveFaulted uncommandedOpen uncommandedClose
  dsimp only
  (repeat' split) <;> simp [figuresOk_iff, settings, entries, learnings]

theorem deliver_keepsFigures (d : Delivery) : KeepsFigures (deliver d) := fun s h =>
  settle_keepsFigures _ (applyDelivery_keepsFigures d s h)

theorem feedReturnStep_keepsFigures (i : StepId) : KeepsFigures (feedReturnStep i) := fun s h => by
  rw [feedReturnStep_eq]
  split
  · exact deliver_keepsFigures _ s h
  · exact h

theorem feedFrame_keepsFigures : KeepsFigures feedFrame := fun s h => by
  rw [feedFrame_eq]
  dsimp only
  split
  · exact h
  · exact keepsFigures_forEach feedReturnStep_keepsFigures _ _ h

theorem takePositions_keepsFigures (w : Half) : KeepsFigures (takePositions w) := fun s h =>
  keepsFigures_forEach deliver_keepsFigures _ (debounceAll w s) h

theorem built_keepsFigures (f : SampleFrame) (a : FrameAssembly) : KeepsFigures (built f a) := fun s h => by
  rw [built, windowFrame_frame]
  exact h

theorem frameEnd_keepsFigures (f : SampleFrame) : KeepsFigures (frameEnd f) := fun s h => by
  cases ha : s.rx.assembly with
  | none =>
    simp only [frameEnd, ha]
    exact h
  | some a =>
    cases hv : isValid (frameClass f a) with
    | false =>
      rw [frameEnd_invalid ha hv]
      exact built_keepsFigures f a s h
    | true =>
      rw [frameEnd_valid ha hv]
      exact takePositions_keepsFigures _ _ (feedFrame_keepsFigures _ (built_keepsFigures f a s h))

theorem firstSync_keepsFigures : KeepsFigures firstSync := fun s h => by
  unfold firstSync
  split <;> exact h

theorem scheduledPulse_keepsFigures : KeepsFigures scheduledPulse := fun s h => by
  obtain ⟨settings, entries, learnings⟩ := (figuresOk_iff s).mp h
  unfold scheduledPulse
  (repeat' split) <;> simp [figuresOk_iff, settings, entries, learnings]

theorem feedExpiry_keepsFigures : KeepsFigures feedExpiry := fun s h => by
  unfold feedExpiry
  dsimp only
  (repeat' split) <;> exact h

/-- A good window end brings a window under computation; the table stands until the publication (R20). -/
theorem handGood_keepsFigures (frames : List Samples) (n : Word) (w : BitVec 5) :
    KeepsFigures (handGood frames n w) := fun s h =>
  measNotice_keepsFigures n w (endCause .measLost .yard { s with rx.meas := .valid, rx.failedCount := 0 }) h

/-- A failed window end ages the table (R22). -/
theorem handFailed_keepsFigures : KeepsFigures handFailed := fun s h => by
  have noticed : FiguresOk (measNotice (heardFailed s.rx.ends s).rx.frameNumber (heardFailed s.rx.ends s).rx.wave
      (heardFailed s.rx.ends s)) := by
    refine measNotice_keepsFigures _ _ _ ?_
    rw [heardFailed_frame]
    exact h
  obtain ⟨settings, entries, learnings⟩ := (figuresOk_iff _).mp noticed
  refine (figuresOk_iff _).mpr ⟨settings, fun c => ?_, learnings⟩
  exact (look_map ageEntry _ c).symm ▸ ageEntry_ok (entries c)

theorem takeWindowEnd_keepsFigures : KeepsFigures takeWindowEnd := fun s h => by
  unfold takeWindowEnd
  split
  · exact h
  · split
    · exact h
    · exact settle_keepsFigures _ (handGood_keepsFigures _ _ _ _ h)
    · exact settle_keepsFigures _ (handFailed_keepsFigures _ h)

/-! ### Publication -/

/-- The alarm set is no part of the figures. -/
theorem figuresOk_of_besideAlarms {s t : State} (h : besideAlarms t = besideAlarms s) (ok : FiguresOk s) :
    FiguresOk t := by
  show FiguresOk (besideAlarms t)
  rw [h]
  exact ok

/-- A publication gives a table in range (R18, R21). -/
theorem publish_keepsFigures : KeepsFigures publish := fun s h => by
  cases hw : s.mu.computing with
  | none => simpa only [publish, hw] using h
  | some w =>
    obtain ⟨settings, -, learnings⟩ := (figuresOk_iff s).mp h
    have replaced : FiguresOk (published w s) := by
      refine (figuresOk_iff _).mpr ⟨settings, fun c => ?_, learnings⟩
      exact (look_ofFn (computeEntry w) c).symm ▸ computeEntry_ok w c
    have run : publish s = forEach (clipNotice s.mu.entries) allChannels (published w s) := by
      simp only [publish, hw, published]
    rw [run]
    exact figuresOk_of_besideAlarms (clipNotices_beside _ _ _) replaced

/-! ### Voltage control -/

theorem vcDead_keepsFigures : KeepsFigures vcDead := fun s h => by
  unfold vcDead
  dsimp only
  split
  · split
    · split
      · exact openAll_keepsFigures _ h
      · exact openAll_keepsFigures { s with vc.deadAcc := _, vc.deadOpened := true } h
    · exact h
  · rw [clearDead_eq]
    exact h

theorem vcFast_keepsFigures : KeepsFigures vcFast := fun s h => by
  unfold vcFast
  dsimp only
  split
  · split <;> exact h
  · rw [clearFastCondition_eq]
    exact h

theorem vcBand_keepsFigures : KeepsFigures vcBand := fun s h => by
  unfold vcBand
  dsimp only
  (repeat' split) <;> exact h

theorem vcDecided_keepsFigures (cand : Option StepId) (pending : VcRequestState) :
    KeepsFigures (vcDecided cand pending) := fun s h => by
  unfold vcDecided
  split <;> exact h

theorem vcDecide_keepsFigures : KeepsFigures vcDecide := fun s h => by
  unfold vcDecide
  (repeat' split)
  case isFalse.isTrue.isFalse | isFalse.isFalse.isTrue => exact vcDecided_keepsFigures _ _ s h
  all_goals exact h

theorem vcGood_keepsFigures : KeepsFigures vcGood := fun s h => by
  have optional {f : State → State} (b : State → Bool) (hf : KeepsFigures f) :
      KeepsFigures fun s => if b s then f s else s := fun t h => by
    dsimp only
    split
    · exact hf t h
    · exact h
  have dead := vcDead_keepsFigures (vcForm s) h
  have fast := optional (fun s => s.vc.auto)
    (fun s h => settle_keepsFigures _ (vcFast_keepsFigures s h)) _ dead
  have band := optional (fun s => s.vc.auto)
    (fun s h => settle_keepsFigures _ (vcDecide_keepsFigures _ (vcBand_keepsFigures s h))) _ fast
  exact settle_keepsFigures _
    (optional (fun s => deadCondition s.vc || s.hs.vActive) vcWithdrawClose_keepsFigures _ band)

theorem vcFailed_keepsFigures : KeepsFigures vcFailed := fun s h => by
  by_cases hm : s.rx.meas = .holding
  · rw [vcFailed_holding hm]
    exact h
  · rw [vcFailed_clears hm]
    exact h

theorem vcEvaluate_keepsFigures : KeepsFigures vcEvaluate := fun s h => by
  unfold vcEvaluate
  split
  · exact h
  · dsimp only
    split
    · exact vcGood_keepsFigures _ h
    · exact settle_keepsFigures _ (vcFailed_keepsFigures _ h)

theorem setMode_keepsFigures (auto : Bool) : KeepsFigures (setMode auto) := fun s h => by
  unfold setMode
  split
  · exact h
  · split
    · exact h
    · have cleared : FiguresOk (withdrawVc (clearFastCondition
          { clearBand s with vc.auto := false, vc.fastAcc := 0, vc.fastDue := false })) := by
        rw [clearFastCondition_eq]
        exact h
      exact settle_keepsFigures _ (vcWithdrawClose_keepsFigures _ cleared)

/-! ### The harmonic supervisor -/

theorem alarmEdge_keepsFigures (k : AlarmKind) (sub : Subject) (was now : Bool) :
    KeepsFigures (alarmEdge k sub was now) := fun s h => by
  unfold alarmEdge
  (repeat' split) <;> exact h

theorem hsStageV_keepsFigures : KeepsFigures hsStageV := fun s h => by
  unfold hsStageV
  dsimp only
  split
  · exact vcWithdrawClose_keepsFigures _ (alarmEdge_keepsFigures _ _ _ _ _ h)
  · exact alarmEdge_keepsFigures _ _ _ _ _ h

theorem hsStageI_keepsFigures : KeepsFigures hsStageI := fun _ h => alarmEdge_keepsFigures _ _ _ _ _ h

theorem hsWatch_keepsFigures : KeepsFigures hsWatch := fun s h => by
  unfold hsWatch markSuspect
  dsimp only
  (repeat' split) <;> exact h

theorem shed_keepsFigures (i : StepId) : KeepsFigures (shed i) := fun s h => by
  have armed : FiguresOk (armHoldoff i s) := keepsFigures_of_same (f := armHoldoff i) (fun s => by simp) s h
  exact protectiveOpen_keepsFigures i _ armed

theorem endShedding_keepsFigures : KeepsFigures endShedding := fun s h => by
  rw [endShedding_eq]
  exact h

theorem hsTrip_keepsFigures : KeepsFigures hsTrip := fun s h => by
  unfold hsTrip
  dsimp only
  split
  · exact h
  · split
    · split
      · split
        · exact h
        · exact shed_keepsFigures _ _ h
      · exact h
    · exact endShedding_keepsFigures _ h

theorem hsFailed_keepsFigures : KeepsFigures hsFailed := fun s h => by
  by_cases hm : s.rx.meas = .holding
  · rw [hsFailed_holding hm]
    exact h
  · rw [hsFailed_clears hm]
    exact h

theorem hsEvaluate_keepsFigures : KeepsFigures hsEvaluate := fun s h => by
  unfold hsEvaluate
  split
  · exact h
  · refine settle_keepsFigures _ ?_
    split
    · exact hsTrip_keepsFigures _ (hsWatch_keepsFigures _ (hsStageI_keepsFigures _ (hsStageV_keepsFigures _ h)))
    · exact hsFailed_keepsFigures _ h

/-! ### The unbalance protection unit -/

theorem interruptLearning_keepsFigures (i : StepId) : KeepsFigures (interruptLearning i) :=
  keepsFigures_of_learnings (fun s => by simp) fun s h => learningsOk_interruptLearning h

theorem takeDeparture_keepsFigures (i : StepId) : KeepsFigures (takeDeparture i) :=
  keepsFigures_of_learnings (fun s => by simp) fun s h => learningsOk_takeDeparture h

theorem clearStages_keepsFigures (i : StepId) : KeepsFigures (clearStages i) :=
  keepsFigures_of_learnings (fun s => by simp) fun s h => learningsOk_clearStages h

/-- A change of one step's record that leaves the learning. -/
theorem figuresOk_modUnb {i : StepId} {f : Unbalance → Unbalance} {s : State} (h : FiguresOk s)
    (hf : ∀ u, (f u).learning = u.learning) : FiguresOk (s.modUnb i f) :=
  keepsFigures_of_learnings (f := fun s => s.modUnb i f) (fun s => by simp) (fun s h => learningsOk_modUnb h hf) s h

theorem armStep_keepsFigures (i : StepId) : KeepsFigures (armStep i) := fun s h => by
  unfold armStep
  split
  · exact figuresOk_modUnb h fun _ => rfl
  · exact h

theorem ubAlarm_keepsFigures (i : StepId) (u : Nat) : KeepsFigures (ubAlarm i u) := fun _ h =>
  alarmEdge_keepsFigures _ _ _ _ _ (figuresOk_modUnb h fun _ => rfl)

theorem ubTripStage_learning (u : Nat) (c : StepSettings) (x : Unbalance) :
    (ubTripStage u c x).learning = x.learning := by
  unfold ubTripStage
  (repeat' split) <;> rfl

theorem ubTrip_keepsFigures (i : StepId) : KeepsFigures (ubTrip i) := fun s h =>
  raise_keepsFigures _ _ _ (figuresOk_modUnb (clearStages_keepsFigures i s h) fun _ => rfl)

theorem ubStages_figures (i : StepId) {s : State} (h : FiguresOk s) : FiguresOk (ubStages i s).1 := by
  unfold ubStages
  dsimp only
  split
  · have formed : FiguresOk (s.modUnb i fun x => { x with lastU := stepU s i }) := figuresOk_modUnb h fun _ => rfl
    split
    · exact formed
    · have timed := figuresOk_modUnb (i := i) (ubAlarm_keepsFigures i (stepU s i) _ formed)
        (ubTripStage_learning (stepU s i) (s.stepCfg i))
      split
      · exact ubTrip_keepsFigures i _ timed
      · exact timed
  · exact h

/-- The mean of sixteen figures in range is in range (R149). -/
theorem roundedMean_range {sum : Int} (h : sum.natAbs ≤ 32767 * 16) :
    -32767 ≤ roundDiv sum 16 ∧ roundDiv sum 16 ≤ 32767 := by
  have magnitude := natAbs_roundDiv (d := 16) (by decide) sum
  omega

/-- The state in which a learning has stored its baseline (R149). -/
def storedBaseline (i : StepId) (sumRe sumIm : Int) (s : State) : State :=
  { s with cfg.perStep := put s.cfg.perStep i (stepSettingWrite
      (stepSettingWrite (s.stepCfg i) .baselineRe (roundDiv sumRe 16)) .baselineIm (roundDiv sumIm 16)) }

/-- The sixteenth window: the baseline, the stages, the learning and its order (R149). -/
theorem completeLearning_eq (i : StepId) (sumRe sumIm : Int) (s : State) :
    completeLearning i sumRe sumIm s = finishExecuting .done none
      ((clearStages i (storedBaseline i sumRe sumIm s)).modUnb i fun u => { u with learning := none }) := rfl

/-- The stored baseline is in range (R149). -/
theorem completeLearning_figures {i : StepId} {sumRe sumIm : Int} {s : State} (h : FiguresOk s)
    (re : sumRe.natAbs ≤ 32767 * 16) (im : sumIm.natAbs ≤ 32767 * 16) :
    FiguresOk (completeLearning i sumRe sumIm s) := by
  obtain ⟨settings, entries, learnings⟩ := (figuresOk_iff s).mp h
  have baseline := stepSettingsOk_write
    (stepSettingsOk_write (((settingsOk_iff _).mp settings).2 i) (p := .baselineRe) nofun (roundedMean_range re) rfl)
    (p := .baselineIm) nofun (roundedMean_range im) rfl
  have stored : FiguresOk (storedBaseline i sumRe sumIm s) :=
    (figuresOk_iff _).mpr ⟨settingsOk_put settings i baseline, entries, learnings⟩
  obtain ⟨settings, entries, learnings⟩ := (figuresOk_iff _).mp (clearStages_keepsFigures i _ stored)
  rw [completeLearning_eq]
  refine keepsFigures_of_same (f := finishExecuting .done none) (fun s => by simp) _ ?_
  exact (figuresOk_iff _).mpr ⟨settings, entries, learningsOk_modUnb_of learnings nofun⟩

theorem learnWindow_keepsFigures (i : StepId) : KeepsFigures (learnWindow i) := fun s h => by
  unfold learnWindow
  split
  · exact h
  · next l hl =>
    obtain ⟨settings, entries, learnings⟩ := (figuresOk_iff s).mp h
    obtain ⟨count, sumRe, sumIm⟩ := learnings i l hl
    obtain ⟨re, re', im, im', -⟩ := entries (neutralChannel i)
    dsimp only
    split
    · exact interruptLearning_keepsFigures i s h
    · split
      · exact completeLearning_figures h (by omega) (by omega)
      · refine (figuresOk_iff _).mpr ⟨settings, entries, learningsOk_modUnb_of learnings fun l' hl' => ?_⟩
        cases hl'
        exact ⟨by dsimp only; omega, by dsimp only; omega, by dsimp only; omega⟩

theorem ubStep_keepsFigures (i : StepId) : KeepsFigures (ubStep i) := fun s h => by
  have evaluated := takeDeparture_keepsFigures i _
    (learnWindow_keepsFigures i _ (ubStages_figures i (armStep_keepsFigures i s h)))
  unfold ubStep
  dsimp only
  split
  · exact protectiveOpen_keepsFigures i _ (addLockout_keepsFigures i _ _ evaluated)
  · exact evaluated

theorem ubFailedStep_keepsFigures (i : StepId) : KeepsFigures (ubFailedStep i) := fun s h => by
  have interrupted := interruptLearning_keepsFigures i s h
  by_cases hm : s.rx.meas = .holding
  · rw [ubFailedStep_holding hm]
    exact interrupted
  · rw [ubFailedStep_clears hm]
    have disarmed : FiguresOk ((interruptLearning i s).modUnb i fun u => { u with armCount := 0 }) :=
      figuresOk_modUnb interrupted fun _ => rfl
    dsimp only
    (repeat' split)
    · exact interrupted
    · exact disarmed
    · exact clearStages_keepsFigures i _ interrupted
    · exact clearStages_keepsFigures i _ disarmed

theorem ubEvaluate_keepsFigures : KeepsFigures ubEvaluate := fun s h => by
  unfold ubEvaluate
  split
  · exact h
  · refine settle_keepsFigures _ (keepsFigures_forEach (fun i => ?_) _ _ h)
    split
    · exact ubStep_keepsFigures i
    · exact ubFailedStep_keepsFigures i

/-! ### Expiries -/

theorem cooldownExpiry_keepsFigures (i : StepId) : KeepsFigures (cooldownExpiry i) := fun s h => by
  unfold cooldownExpiry
  split
  · exact settle_keepsFigures _ h
  · exact h

theorem holdoffExpiry_keepsFigures (i : StepId) : KeepsFigures (holdoffExpiry i) := fun s h => by
  unfold holdoffExpiry
  split
  · exact settle_keepsFigures _ h
  · exact h

theorem closeConfirmExpiry_keepsFigures (i : StepId) : KeepsFigures (closeConfirmExpiry i) := fun s h => by
  obtain ⟨settings, entries, learnings⟩ := (figuresOk_iff s).mp h
  unfold closeConfirmExpiry
  (repeat' split) <;> simp [figuresOk_iff, settings, entries, learnings]

theorem openConfirmExpiry_keepsFigures (i : StepId) : KeepsFigures (openConfirmExpiry i) := fun s h => by
  obtain ⟨settings, entries, learnings⟩ := (figuresOk_iff s).mp h
  unfold openConfirmExpiry
  (repeat' split) <;> simp [figuresOk_iff, settings, entries, learnings]

theorem syncWaitExpiry_keepsFigures : KeepsFigures syncWaitExpiry := fun s h => by
  have ended : KeepsFigures endAwaiting := keepsFigures_of_same fun s => by
    unfold endAwaiting
    (repeat' split) <;> simp
  unfold syncWaitExpiry
  split
  · exact settle_keepsFigures _ (ended _ h)
  · exact h

theorem settleExpiry_keepsFigures : KeepsFigures settleExpiry := fun s h => by
  unfold settleExpiry
  split
  · exact settle_keepsFigures _ h
  · exact h

theorem notBeforeElapsed_keepsFigures (i : SlotId) : KeepsFigures (notBeforeElapsed i) := fun s h => by
  unfold notBeforeElapsed
  split
  · exact settle_keepsFigures _ h
  · exact h

theorem deadlineExpiry_keepsFigures (i : SlotId) : KeepsFigures (deadlineExpiry i) := fun s h => by
  unfold deadlineExpiry
  split
  · exact settle_keepsFigures _ h
  · exact h

/-! ### Inputs -/

theorem returnDirect_keepsFigures (i : StepId) : KeepsFigures (returnDirect i) := fun s h => by
  unfold returnDirect
  split <;> exact h

theorem returnAll_keepsFigures : KeepsFigures returnAll := keepsFigures_forEach returnDirect_keepsFigures _

theorem levelEffect_keepsFigures (n : InputLine) (level : Bool) : KeepsFigures (levelEffect n level) := fun s h => by
  unfold levelEffect
  split
  · exact settle_keepsFigures _ (keepsFigures_forEach watchClose_keepsFigures _ s h)
  · exact settle_keepsFigures _ (raise_keepsFigures _ _ _ (openAll_keepsFigures _ (returnAll_keepsFigures s h)))
  · exact h
  · exact h
  · unfold permitLoss
    split
    · exact raise_keepsFigures _ _ _ (returnAll_keepsFigures s h)
    · exact h

theorem setInput_keepsFigures (n : InputLine) (f : InputFilter) : KeepsFigures fun s => s.setInput n f := fun s h => by
  cases n <;> exact h

theorem levelChange_keepsFigures (n : InputLine) (level : Bool) : KeepsFigures (levelChange n level) := fun s h => by
  unfold levelChange
  split
  · exact h
  · exact levelEffect_keepsFigures n level _ (setInput_keepsFigures n _ s h)

end Sys2Proof.Proofs

namespace Sys2Proof.Proofs

open Sys2Proof.Machine Sys2Proof.Safety Sys2Proof.Laws

/-! ### Requests -/

/-- A request whose work keeps the figures keeps them, whether it is taken, answered by a filler frame or ignored
(R190, R191, R203). -/
theorem takeRequest_keepsFigures {work : Handler} (hw : KeepsFigures fun s => (work s).1) (code tag : Byte) :
    KeepsFigures (takeRequest code tag work) := fun s h => by
  unfold takeRequest
  split
  · exact h
  · split
    · exact hw (consume s) h
    · exact h

theorem answer_keepsFigures (st : Status) (d : List Byte) : KeepsFigures fun s => (answer st d s).1 := fun _ h => h

theorem readStep_keepsFigures (step page : Byte) : KeepsFigures fun s => (readStep step page s).1 := fun s h => by
  unfold readStep
  (repeat' split) <;> exact h

theorem readChannel_keepsFigures (channel page : Byte) : KeepsFigures fun s => (readChannel channel page s).1 :=
  fun s h => by
    unfold readChannel
    (repeat' split) <;> exact h

theorem readYard_keepsFigures (page : Byte) : KeepsFigures fun s => (readYard page s).1 := fun s h => by
  unfold readYard
  (repeat' split) <;> exact h

theorem readSetting_keepsFigures (ident : Byte) : KeepsFigures fun s => (readSetting ident s).1 := fun s h => by
  unfold readSetting
  split <;> exact h

/-- A yard setting is stored in range and in agreement (R115, R132, R196). -/
theorem writeSetting_keepsFigures (ident : Byte) (value : Word) :
    KeepsFigures fun s => (writeSetting ident value s).1 := fun s h => by
  unfold writeSetting
  dsimp only
  split
  · exact h
  · next y _ =>
    split
    · next agrees =>
      obtain ⟨settings, entries, learnings⟩ := (figuresOk_iff s).mp h
      obtain ⟨yard, steps⟩ := (settingsOk_iff _).mp settings
      have stored : SettingsOk { s.cfg with yard := yardWrite s.cfg.yard y (yardClamp y value.toInt) } :=
        (settingsOk_iff _).mpr ⟨yardOk_yardWrite yard y _ agrees, steps⟩
      rw [storeYard_frame]
      exact (figuresOk_iff _).mpr ⟨stored, entries, learnings⟩
    · exact h

theorem readStepSetting_keepsFigures (step ident : Byte) : KeepsFigures fun s => (readStepSetting step ident s).1 :=
  fun s h => by
    unfold readStepSetting
    split <;> exact h

/-- Counters capped to a new delay leave the learning (R152). -/
theorem stepStored_keepsFigures (p : StepSettingId) (i : StepId) : KeepsFigures (stepStored p i) := fun s h => by
  unfold stepStored
  split
  · exact figuresOk_modUnb h fun _ => rfl
  · exact figuresOk_modUnb h fun _ => rfl
  · exact h

/-- A per-step setting is stored in range and in agreement (R151, R196). -/
theorem storeStep_figures {i : StepId} {p : StepSettingId} {v : Int} {s : State} (h : FiguresOk s)
    (agrees : stepConsistent (s.stepCfg i) p (stepClamp p v) = true) : FiguresOk (storeStep i p (stepClamp p v) s) := by
  unfold storeStep
  split
  · exact h
  · next hp =>
    obtain ⟨settings, entries, learnings⟩ := (figuresOk_iff s).mp h
    have stored := stepSettingsOk_write (((settingsOk_iff _).mp settings).2 i) hp (stepClamp_range p v) agrees
    exact stepStored_keepsFigures p i _ ((figuresOk_iff _).mpr ⟨settingsOk_put settings i stored, entries, learnings⟩)

theorem writeStepSetting_keepsFigures (step ident : Byte) (value : Word) :
    KeepsFigures fun s => (writeStepSetting step ident value s).1 := fun s h => by
  unfold writeStepSetting
  dsimp only
  split
  · split
    · next agrees => exact storeStep_figures h agrees
    · exact h
  · exact h

/-- The defaults are in range (R197). -/
theorem defaultSettings_keepsFigures : KeepsFigures defaultSettings := fun s h => by
  obtain ⟨-, entries, learnings⟩ := (figuresOk_iff s).mp h
  refine (figuresOk_iff _).mpr ⟨default_settingsOk, entries, fun i l hl => ?_⟩
  have same := congrArg Unbalance.learning (look_map (capUnbalance StepSettings.default) s.ub i)
  exact learnings i l (same.symm.trans hl)

theorem requestMode_keepsFigures (mode : Byte) : KeepsFigures fun s => (requestMode mode s).1 := fun s h => by
  unfold requestMode
  dsimp only
  split
  · exact setMode_keepsFigures _ s h
  · split
    · exact setMode_keepsFigures _ s h
    · exact h

theorem readAlarm_keepsFigures (index : Byte) : KeepsFigures fun s => (readAlarm index s).1 := fun s h => by
  unfold readAlarm
  dsimp only
  split <;> exact h

theorem ackAlarm_keepsFigures (kind subject : Byte) : KeepsFigures fun s => (ackAlarm kind subject s).1 := fun s h => by
  unfold ackAlarm
  dsimp only
  (repeat' split) <;> exact h

/-! ### Order and line requests -/

/-- A request that names a slot by handle keeps the figures when its work does (R156). -/
theorem byHandle_keepsFigures {work : SlotId → State → State × Answer} (hw : ∀ i, KeepsFigures fun s => (work i s).1)
    (slot gen : Byte) : KeepsFigures fun s => (byHandle slot gen work s).1 := fun s h => by
  unfold byHandle
  dsimp only
  split
  · exact h
  · split
    · exact hw _ s h
    · exact h

theorem takeSlot_keepsFigures : KeepsFigures fun s => (takeSlot s).1 := fun s h => by
  unfold takeSlot
  dsimp only
  split <;> exact h

theorem fillSlot_keepsFigures (kind step timing : Byte) (notBefore deadline : Half) (i : SlotId) :
    KeepsFigures fun s => (fillSlot kind step timing notBefore deadline i s).1 := fun s h => by
  unfold fillSlot
  dsimp only
  split <;> exact h

theorem postSlot_keepsFigures (i : SlotId) : KeepsFigures fun s => (postSlot i s).1 := fun s h => by
  unfold postSlot
  dsimp only
  (repeat' split)
  case isFalse.isFalse.isFalse => exact settle_keepsFigures _ h
  all_goals exact h

theorem withdrawSlot_keepsFigures (i : SlotId) : KeepsFigures fun s => (withdrawSlot i s).1 := fun s h => by
  unfold withdrawSlot
  dsimp only
  split
  · exact settle_keepsFigures _ h
  all_goals exact h

theorem retireSlot_keepsFigures (i : SlotId) : KeepsFigures fun s => (retireSlot i s).1 := fun s h => by
  unfold retireSlot
  dsimp only
  split <;> exact h

theorem readOrder_keepsFigures (mode slot generation page : Byte) :
    KeepsFigures fun s => (readOrder mode slot generation page s).1 := fun s h => by
  unfold readOrder
  dsimp only
  (repeat' split) <;> exact h

theorem stageLines_keepsFigures (step close trip : Byte) : KeepsFigures fun s => (stageLines step close trip s).1 :=
  fun s h => by
    unfold stageLines
    split <;> exact h

/-- Who commanded a step last is no figure. -/
theorem noteDirect_keepsFigures (i : StepId) (rises : Bool) : KeepsFigures (noteDirect i rises) := fun s h => by
  unfold noteDirect
  split <;> exact h

theorem handover_keepsFigures (step : Byte) : KeepsFigures fun s => (handover step s).1 := fun s h => by
  unfold handover
  dsimp only
  split
  · exact h
  · split
    · split
      · exact h
      · exact noteDirect_keepsFigures _ _ _ h
    · exact h

theorem driveLines_keepsFigures (step close trip : Byte) : KeepsFigures fun s => (driveLines step close trip s).1 :=
  fun s h => by
    unfold driveLines
    dsimp only
    split
    · exact h
    · split
      · exact noteDirect_keepsFigures _ _ _ h
      · exact h

theorem returnLines_keepsFigures (step : Byte) : KeepsFigures fun s => (returnLines step s).1 := fun s h => by
  unfold returnLines giveBack
  dsimp only
  split
  · exact h
  · split
    · exact returnDirect_keepsFigures _ s h
    · exact h

/-! ### Frames without a request -/

theorem frameAbort_keepsFigures (bits : Nat) : KeepsFigures (frameAbort bits) := fun s h => by
  unfold frameAbort
  (repeat' split) <;> exact h

theorem fillerFrame_keepsFigures : KeepsFigures fillerFrame := fun s h => by
  unfold fillerFrame
  (repeat' split) <;> exact h

theorem responseLoad_keepsFigures : KeepsFigures responseLoad := fun s h => by
  unfold responseLoad
  split <;> exact h

/-! ### Every command and every step -/

/-- A command outside reset keeps the figures when its effect does; while RESET is held it has none. -/
theorem live_figures {f : State → State} (hf : KeepsFigures f) {s t : State} (h : FiguresOk s)
    (run : live s f = .next t) : FiguresOk t := by
  cases run
  split
  · exact h
  · exact hf s h

/-- Every command keeps the figures. -/
theorem exec_figures (c : Instr) {s t : State} (h : FiguresOk s) (run : exec c s = .next t) : FiguresOk t := by
  cases c with
  | resetAssert =>
    cases run
    exact h
  | resetRelease pins =>
    cases run
    exact released_figuresOk pins s.pending s.freeDraws s.extraBits
  | frameEnd f => exact live_figures (frameEnd_keepsFigures f) h run
  | scheduledClosePulse => exact live_figures scheduledPulse_keepsFigures h run
  | windowTimerExpiry => exact live_figures (f := endWindow (.failed .timeout)) (fun _ h => h) h run
  | feedTimerExpiry => exact live_figures feedExpiry_keepsFigures h run
  | windowEnd => exact live_figures takeWindowEnd_keepsFigures h run
  | publication => exact live_figures publish_keepsFigures h run
  | vcEvaluation => exact live_figures vcEvaluate_keepsFigures h run
  | harmonicEvaluation => exact live_figures hsEvaluate_keepsFigures h run
  | unbalanceEvaluation => exact live_figures ubEvaluate_keepsFigures h run
  | cooldownExpiry i => exact live_figures (cooldownExpiry_keepsFigures i) h run
  | holdoffExpiry i => exact live_figures (holdoffExpiry_keepsFigures i) h run
  | closePulseEnd i => exact live_figures (f := fun s => s.modLane i _) (fun _ h => h) h run
  | tripPulseEnd i => exact live_figures (f := fun s => s.modLane i _) (fun _ h => h) h run
  | closeConfirmExpiry i => exact live_figures (closeConfirmExpiry_keepsFigures i) h run
  | openConfirmExpiry i => exact live_figures (openConfirmExpiry_keepsFigures i) h run
  | yardTripEnd => exact live_figures (f := fun s => { s with seq.yardTrip := 0 }) (fun _ h => h) h run
  | syncWaitExpiry => exact live_figures syncWaitExpiry_keepsFigures h run
  | settleExpiry => exact live_figures settleExpiry_keepsFigures h run
  | resonanceWatchExpiry => exact live_figures (f := fun s => { s with hs.watch := none }) (fun _ h => h) h run
  | notBeforeElapsed i => exact live_figures (notBeforeElapsed_keepsFigures i) h run
  | deadlineExpiry i => exact live_figures (deadlineExpiry_keepsFigures i) h run
  | inputLevelChange n level => exact live_figures (levelChange_keepsFigures n level) h run
  | frameAbort bits => exact live_figures (frameAbort_keepsFigures bits) h run
  | fillerFrame => exact live_figures fillerFrame_keepsFigures h run
  | responseLoad => exact live_figures responseLoad_keepsFigures h run
  | badCode code tag => exact live_figures (takeRequest_keepsFigures (answer_keepsFigures _ _) code tag) h run
  | poll tag => exact live_figures (takeRequest_keepsFigures (fun _ h => h) _ tag) h run
  | readIdent tag => exact live_figures (takeRequest_keepsFigures (answer_keepsFigures _ _) _ tag) h run
  | readStep tag step page =>
    exact live_figures (takeRequest_keepsFigures (readStep_keepsFigures step page) _ tag) h run
  | readChannel tag channel page =>
    exact live_figures (takeRequest_keepsFigures (readChannel_keepsFigures channel page) _ tag) h run
  | readYard tag page => exact live_figures (takeRequest_keepsFigures (readYard_keepsFigures page) _ tag) h run
  | readSetting tag ident => exact live_figures (takeRequest_keepsFigures (readSetting_keepsFigures ident) _ tag) h run
  | writeSetting tag ident value =>
    exact live_figures (takeRequest_keepsFigures (writeSetting_keepsFigures ident value) _ tag) h run
  | readStepSetting tag step ident =>
    exact live_figures (takeRequest_keepsFigures (readStepSetting_keepsFigures step ident) _ tag) h run
  | writeStepSetting tag step ident value =>
    exact live_figures (takeRequest_keepsFigures (writeStepSetting_keepsFigures step ident value) _ tag) h run
  | defaultSettings tag => exact live_figures (takeRequest_keepsFigures defaultSettings_keepsFigures _ tag) h run
  | setMode tag mode => exact live_figures (takeRequest_keepsFigures (requestMode_keepsFigures mode) _ tag) h run
  | readAlarm tag index => exact live_figures (takeRequest_keepsFigures (readAlarm_keepsFigures index) _ tag) h run
  | ackAlarm tag kind subject =>
    exact live_figures (takeRequest_keepsFigures (ackAlarm_keepsFigures kind subject) _ tag) h run
  | ackAll tag => exact live_figures (takeRequest_keepsFigures (work := ackAll) (fun _ h => h) _ tag) h run
  | takeSlot tag => exact live_figures (takeRequest_keepsFigures takeSlot_keepsFigures _ tag) h run
  | fillOrder tag slot generation kind step timing notBefore deadline =>
    exact live_figures (takeRequest_keepsFigures
      (byHandle_keepsFigures (fillSlot_keepsFigures kind step timing notBefore deadline) slot generation) _ tag) h run
  | postOrder tag slot generation =>
    exact live_figures
      (takeRequest_keepsFigures (byHandle_keepsFigures postSlot_keepsFigures slot generation) _ tag) h run
  | withdrawOrder tag slot generation =>
    exact live_figures
      (takeRequest_keepsFigures (byHandle_keepsFigures withdrawSlot_keepsFigures slot generation) _ tag) h run
  | retireOrder tag slot generation =>
    exact live_figures
      (takeRequest_keepsFigures (byHandle_keepsFigures retireSlot_keepsFigures slot generation) _ tag) h run
  | readOrder tag mode slot generation page =>
    exact live_figures (takeRequest_keepsFigures (readOrder_keepsFigures mode slot generation page) _ tag) h run
  | stageLines tag step close trip =>
    exact live_figures (takeRequest_keepsFigures (stageLines_keepsFigures step close trip) _ tag) h run
  | handover tag step => exact live_figures (takeRequest_keepsFigures (handover_keepsFigures step) _ tag) h run
  | driveLines tag step close trip =>
    exact live_figures (takeRequest_keepsFigures (driveLines_keepsFigures step close trip) _ tag) h run
  | returnLines tag step => exact live_figures (takeRequest_keepsFigures (returnLines_keepsFigures step) _ tag) h run
  | readLines tag => exact live_figures (takeRequest_keepsFigures (fun _ h => h) _ tag) h run
  | firstFrameSync => exact live_figures firstSync_keepsFigures h run

/-- Commands taken one after the other keep what each keeps. -/
theorem inTurn_invariant {P : State → Prop} {f : Instr → State → Host.Outcome State Fault Refusal}
    (hf : ∀ c s t, P s → f c s = .next t → P t) (cs : List Instr) {s t : State} (h : P s)
    (run : inTurn f cs s = .next t) : P t := by
  induction cs generalizing s with
  | nil =>
    cases run
    exact h
  | cons c cs ih =>
    rw [inTurn] at run
    cases hc : f c s with
    | next u => exact ih (hf c s u h hc) (by rwa [hc] at run)
    | fault e => cases e
    | refused e =>
      rw [hc] at run
      cases run

/-- Work that goes on, followed by work, keeps what both keep. -/
theorem andThen_invariant {P : State → Prop} {r : Host.Outcome State Fault Refusal}
    {f : State → Host.Outcome State Fault Refusal} (hr : ∀ u, r = .next u → P u)
    (hf : ∀ u t, P u → f u = .next t → P t) {t : State} (run : andThen r f = .next t) : P t := by
  cases r with
  | next u => exact hf u t (hr u rfl) run
  | fault e => cases e
  | refused e => cases run

theorem sampleInput_figures (n : InputLine) {s t : State} (h : FiguresOk s) (run : sampleInput n s = .next t) :
    FiguresOk t := by
  unfold sampleInput at run
  dsimp only at run
  split at run
  · exact exec_figures _ h run
  · cases run
    exact setInput_keepsFigures n _ s h

/-- A tick keeps the figures: the countdown touches no figure, and the expiries and level changes are commands. -/
theorem tick_figures {s t : State} (h : FiguresOk s) (run : tick s = .next t) : FiguresOk t := by
  have expiry (c : Instr) (s t : State) (h : FiguresOk s) (run : takeExpiry c s = .next t) : FiguresOk t := by
    unfold takeExpiry at run
    split at run
    · exact exec_figures c h run
    · cases run
      exact h
  refine andThen_invariant (fun u => inTurn_invariant expiry _ (s := countDown s) h) (fun u t hu => ?_) run
  refine andThen_invariant (fun v => sampleInput_figures .inp0 hu) fun v t hv => ?_
  exact andThen_invariant (fun w => sampleInput_figures .inp1 hv) fun w t hw => sampleInput_figures .inp2 hw

/-- Settles O12: every command keeps the figures, and so does a tick. -/
theorem figuresStayInRange : Obligations.FiguresStayInRange := by
  unfold Obligations.FiguresStayInRange
  intro s t h run
  unfold step at run
  split at run
  · unfold idle at run
    split at run
    · cases run
      exact h
    · split at run
      · exact exec_figures _ h run
      · exact tick_figures h run
  · next c rest _ => exact exec_figures c (s := { s with pending := rest }) h run

end Sys2Proof.Proofs

namespace Sys2Proof.Proofs

open Sys2Proof.Machine Sys2Proof.Safety Sys2Proof.Laws

/-! ### Changes that raise no counter -/

/-- Voltage control's figures from one state to another where no counter is raised and no flag of the band or of the
fast overvoltage is newly set. -/
structure VcCalm (v w : VoltageControl) : Prop where
  auto : w.auto = v.auto
  low : w.lowAcc ≤ v.lowAcc
  high : w.highAcc ≤ v.highAcc
  lowReached : w.lowReached = true → v.lowReached = true
  highReached : w.highReached = true → v.highReached = true
  fast : w.fastAcc ≤ v.fastAcc
  fastDue : w.fastDue = true → v.fastDue = true
  fastCondition : w.fastCondition = true → v.fastCondition = true
  dead : w.deadAcc ≤ v.deadAcc

/-- A step's unbalance record from one state to another where no counter is raised. -/
structure UnbCalm (u w : Unbalance) : Prop where
  arm : w.armCount ≤ u.armCount
  alarm : w.alarmCount ≤ u.alarmCount
  trip : w.tripCount ≤ u.tripCount

/-- The counters of the harmonic supervisor, with the flag that selects the trip threshold. -/
def harmonicCounts (h : Harmonic) : Nat × Nat × Nat × Bool := (h.vCount, h.iCount, h.tripCount, h.shedding)

/-- A change that leaves the closed-order list with what decides on it, and raises no counter. -/
structure Calm (s t : State) : Prop where
  order : t.tbl.closedOrder = s.tbl.closedOrder
  core : ∀ j, Laws.core (t.stepRec j) = Laws.core (s.stepRec j)
  cfg : t.cfg = s.cfg
  vc : VcCalm s.vc t.vc
  hs : harmonicCounts t.hs = harmonicCounts s.hs
  ub : ∀ j, UnbCalm (s.unb j) (t.unb j)

theorem VcCalm.refl (v : VoltageControl) : VcCalm v v := ⟨rfl, le_rfl, le_rfl, id, id, le_rfl, id, id, le_rfl⟩

theorem VcCalm.trans {u v w : VoltageControl} (a : VcCalm u v) (b : VcCalm v w) : VcCalm u w where
  auto := b.auto.trans a.auto
  low := b.low.trans a.low
  high := b.high.trans a.high
  lowReached h := a.lowReached (b.lowReached h)
  highReached h := a.highReached (b.highReached h)
  fast := b.fast.trans a.fast
  fastDue h := a.fastDue (b.fastDue h)
  fastCondition h := a.fastCondition (b.fastCondition h)
  dead := b.dead.trans a.dead

theorem UnbCalm.refl (u : Unbalance) : UnbCalm u u := ⟨le_rfl, le_rfl, le_rfl⟩

theorem UnbCalm.trans {u v w : Unbalance} (a : UnbCalm u v) (b : UnbCalm v w) : UnbCalm u w :=
  ⟨b.arm.trans a.arm, b.alarm.trans a.alarm, b.trip.trans a.trip⟩

/-- A calm change after a calm change. -/
theorem Calm.after {s t u : State} (b : Calm t u) (a : Calm s t) : Calm s u where
  order := b.order.trans a.order
  core j := (b.core j).trans (a.core j)
  cfg := b.cfg.trans a.cfg
  vc := a.vc.trans b.vc
  hs := b.hs.trans a.hs
  ub j := (a.ub j).trans (b.ub j)

/-- The figures that the promises on the closed-order list and on the counters speak of. -/
def counted (s : State) :
    StepTable × Settings × VoltageControl × (Nat × Nat × Nat × Bool) × Vector Unbalance 8 :=
  (s.tbl, s.cfg, s.vc, harmonicCounts s.hs, s.ub)

/-- A change of other figures. -/
theorem Calm.of_counted {s t : State} (h : counted t = counted s) : Calm s t := by
  simp only [counted, Prod.mk.injEq] at h
  obtain ⟨tbl, cfg, vc, hs, ub⟩ := h
  exact ⟨by rw [tbl], fun j => by rw [State.stepRec, tbl]; rfl, cfg, vc ▸ .refl _, hs,
    fun j => by rw [State.unb, State.unb, ub]; exact .refl _⟩

theorem Calm.refl (s : State) : Calm s s := .of_counted rfl

/-- A change of voltage control's figures alone. -/
theorem Calm.of_vc {s t : State} (h : counted t = counted { s with vc := t.vc }) (vc : VcCalm s.vc t.vc) :
    Calm s t where
  __ := Calm.of_counted h
  vc := vc

/-- A step record changed in anything but its core. -/
theorem calm_modStep {i : StepId} {f : StepRec → StepRec} {s : State} (h : ∀ r, Laws.core (f r) = Laws.core r) :
    Calm s (s.modStep i f) where
  __ := Calm.refl s
  core j := modStep_core i j f s h

/-- A step's unbalance record changed with no counter raised. -/
theorem calm_modUnb {i : StepId} {f : Unbalance → Unbalance} {s : State} (h : UnbCalm (s.unb i) (f (s.unb i))) :
    Calm s (s.modUnb i f) where
  __ := Calm.refl s
  ub j := by
    rw [State.modUnb_unb]
    split
    · next e => exact e ▸ h
    · exact .refl _

/-! ### What a change keeps -/

/-- A change that keeps the promise on the closed-order list and the one on the counters. -/
structure Keeps (s t : State) : Prop where
  order : ClosedOrderOk s → ClosedOrderOk t
  counters : CountersOk s → CountersOk t

theorem Keeps.refl (s : State) : Keeps s s := ⟨id, id⟩

/-- A change that keeps the promises after one that does. -/
theorem Keeps.after {s t u : State} (b : Keeps t u) (a : Keeps s t) : Keeps s u :=
  ⟨fun h => b.order (a.order h), fun h => b.counters (a.counters h)⟩

/-- The counters of voltage control within their delays (R98, R101, R109, R111). -/
def VcOk (y : YardSettings) (v : VoltageControl) : Prop :=
  (v.lowAcc = 0 ∨ v.highAcc = 0) ∧ v.lowAcc ≤ y.delayIn * y.nominalFrequency ∧
  v.highAcc ≤ y.delayOut * y.nominalFrequency ∧ v.fastAcc ≤ y.fastDelay ∧ v.deadAcc ≤ y.deadDelay ∧
  (v.auto = false → v.lowAcc = 0 ∧ v.highAcc = 0 ∧ v.lowReached = false ∧ v.highReached = false ∧
    v.fastAcc = 0 ∧ v.fastDue = false ∧ v.fastCondition = false)

/-- The counters of the harmonic supervisor within their delays (R121, R124). -/
def HarmonicOk (y : YardSettings) (h : Harmonic) : Prop :=
  h.vCount ≤ y.harmAlarmDelay ∧ h.iCount ≤ y.harmAlarmDelay ∧
  h.tripCount ≤ (if h.shedding then y.shedInterval else y.harmTripDelay)

/-- A step's unbalance counters within their delays (R137, R141, R142). -/
def UnbOk (c : StepSettings) (u : Unbalance) : Prop :=
  u.armCount ≤ 10 ∧ u.alarmCount ≤ c.unbAlarmDelay ∧ u.tripCount ≤ c.unbTripDelay

/-- The promise on the counters, unit by unit. -/
theorem countersOk_iff (s : State) :
    CountersOk s ↔ VcOk s.cfg.yard s.vc ∧ HarmonicOk s.cfg.yard s.hs ∧ (∀ j, UnbOk (s.stepCfg j) (s.unb j)) ∧
      ∀ j, (s.stepRec j).opCount ≤ 65535 := by
  simp only [CountersOk, VcOk, HarmonicOk, UnbOk, and_assoc, forall_and]

theorem VcOk.calm {y : YardSettings} {v w : VoltageControl} (h : VcOk y v) (c : VcCalm v w) : VcOk y w := by
  obtain ⟨alone, low, high, fast, dead, manual⟩ := h
  have off {a b : Bool} (h : a = true → b = true) (hb : b = false) : a = false := by
    cases a
    · rfl
    · exact absurd (h rfl) (by rw [hb]; decide)
  have zero {m n : Nat} (h : m ≤ n) (hn : n = 0) : m = 0 := Nat.le_zero.mp (hn ▸ h)
  refine ⟨alone.imp (zero c.low) (zero c.high), c.low.trans low, c.high.trans high, c.fast.trans fast,
    c.dead.trans dead, fun m => ?_⟩
  obtain ⟨l, h, lr, hr, f, fd, fc⟩ := manual (c.auto ▸ m)
  exact ⟨zero c.low l, zero c.high h, off c.lowReached lr, off c.highReached hr, zero c.fast f, off c.fastDue fd,
    off c.fastCondition fc⟩

theorem UnbOk.calm {c : StepSettings} {u w : Unbalance} (h : UnbOk c u) (k : UnbCalm u w) : UnbOk c w :=
  ⟨k.arm.trans h.1, k.alarm.trans h.2.1, k.trip.trans h.2.2⟩

theorem harmonicOk_congr {y : YardSettings} {h k : Harmonic} (same : harmonicCounts k = harmonicCounts h) :
    HarmonicOk y k ↔ HarmonicOk y h := by
  simp only [harmonicCounts, Prod.mk.injEq] at same
  obtain ⟨v, i, trip, shed⟩ := same
  simp only [HarmonicOk, v, i, trip, shed]

/-- A counter that is not raised stays within its delay. -/
theorem countersOk_of_calm {s t : State} (cfg : t.cfg = s.cfg) (vc : VcCalm s.vc t.vc)
    (hs : harmonicCounts t.hs = harmonicCounts s.hs) (ub : ∀ j, UnbCalm (s.unb j) (t.unb j))
    (ops : ∀ j, (t.stepRec j).opCount = (s.stepRec j).opCount) (h : CountersOk s) : CountersOk t := by
  obtain ⟨vcOk, hsOk, ubOk, opsOk⟩ := (countersOk_iff s).mp h
  refine (countersOk_iff t).mpr ⟨by rw [cfg]; exact vcOk.calm vc, by rw [cfg]; exact (harmonicOk_congr hs).mpr hsOk,
    fun j => ?_, fun j => by rw [ops j]; exact opsOk j⟩
  rw [State.stepCfg, cfg]
  exact (ubOk j).calm (ub j)

/-- The closed-order list goes by itself and by state and service of the steps. -/
theorem closedOrderOk_congr {s t : State} (order : t.tbl.closedOrder = s.tbl.closedOrder)
    (core : ∀ j, Laws.core (t.stepRec j) = Laws.core (s.stepRec j)) : ClosedOrderOk t ↔ ClosedOrderOk s := by
  have same (j : StepId) :
      (t.stepRec j).state = (s.stepRec j).state ∧ (t.stepRec j).retired = (s.stepRec j).retired :=
    ⟨congrArg (·.1) (core j), congrArg (·.2.2.1) (core j)⟩
  simp only [ClosedOrderOk, order, same]

/-- A calm change keeps both promises. -/
theorem Keeps.calm {s t : State} (c : Calm s t) : Keeps s t where
  order := (closedOrderOk_congr c.order c.core).mpr
  counters := countersOk_of_calm c.cfg c.vc c.hs c.ub fun j => congrArg (·.2.2.2.2) (c.core j)

/-- A change of other figures keeps both promises. -/
theorem Keeps.of_counted {s t : State} (h : counted t = counted s) : Keeps s t := .calm (.of_counted h)

/-- Rounds of an iteration keep the promises when each does. -/
theorem keeps_forEach {α : Type} {f : α → State → State} (h : ∀ a s, Keeps s (f a s)) (l : List α)
    (s : State) :
    Keeps s (forEach f l s) := forEach_invariant (Keeps s) f (fun a _ k => (h a _).after k) l s (.refl s)

/-! ### Calm operations -/

theorem calm_raise (k : AlarmKind) (sub : Subject) (s : State) : Calm s (raise k sub s) := .of_counted rfl

theorem calm_endCause (k : AlarmKind) (sub : Subject) (s : State) : Calm s (endCause k sub s) := .of_counted rfl

theorem calm_finishSlot (i : SlotId) (out : OrderOutcome) (r : Option Reason) (s : State) :
    Calm s (finishSlot i out r s) := .of_counted rfl

theorem calm_finishExecuting (out : OrderOutcome) (r : Option Reason) (s : State) :
    Calm s (finishExecuting out r s) := .of_counted (by simp [counted])

theorem calm_endReport (src : Requester) (out : OrderOutcome) (r : Option Reason) (s : State) :
    Calm s (endReport src out r s) := by
  cases src with
  | vc => exact .of_vc rfl ⟨rfl, Nat.zero_le _, Nat.zero_le _, nofun, nofun, le_rfl, id, id, le_rfl⟩
  | oe => exact calm_finishExecuting out r s
  | protection => exact .refl s

theorem calm_freeRight (s : State) : Calm s (freeRight s) := .of_counted rfl

theorem calm_passIfUnder (o : Operation) (ms : Nat) (s : State) : Calm s (passIfUnder o ms s) := by
  unfold passIfUnder
  split <;> exact .of_counted rfl

theorem calm_abandonClose (i : StepId) (out : OrderOutcome) (r : Option Reason) (s : State) :
    Calm s (abandonClose i out r s) := by
  cases ho : (s.lane i).op with
  | none =>
    simp only [abandonClose, ho]
    exact .refl s
  | some o =>
    rw [abandonClose_eq out r ho]
    exact .after (calm_freeRight _) (.after (calm_endReport o.source out r _) (.of_counted rfl))

theorem calm_watchClose (i : StepId) (s : State) : Calm s (watchClose i s) := by
  unfold watchClose
  split
  · exact .refl s
  · split
    · split
      · exact .refl s
      · exact calm_abandonClose i _ _ s
    · exact .refl s

theorem calm_addLockout (i : StepId) (r : LockoutReason) (s : State) : Calm s (addLockout i r s) :=
  (calm_watchClose i _).after (calm_modStep fun _ => rfl)

theorem calm_startCooldown (i : StepId) (s : State) : Calm s (startCooldown i s) :=
  .after (calm_watchClose i _) (.after (calm_modStep fun _ => rfl) (.of_counted rfl))

theorem calm_stopCooldown (i : StepId) (s : State) : Calm s (stopCooldown i s) :=
  Calm.after (calm_modStep fun _ => rfl) (.of_counted rfl)

theorem calm_startHoldoff (i : StepId) (s : State) : Calm s (startHoldoff i s) := by
  unfold startHoldoff
  dsimp only
  split
  · exact .after (calm_watchClose i _) (.after (calm_modStep fun _ => rfl) (.of_counted rfl))
  · exact .of_counted rfl

theorem calm_interruptLearning (i : StepId) (s : State) : Calm s (interruptLearning i s) := by
  unfold interruptLearning
  split
  · exact .refl s
  · exact (calm_finishExecuting _ _ _).after (calm_modUnb ⟨le_rfl, le_rfl, le_rfl⟩)

theorem calm_clearStages (i : StepId) (s : State) : Calm s (clearStages i s) := by
  rw [clearStages_eq]
  exact Calm.after (calm_modUnb ⟨le_rfl, Nat.zero_le _, Nat.zero_le _⟩) (.of_counted rfl)

theorem calm_disarm (i : StepId) (s : State) : Calm s (disarm i s) :=
  (calm_interruptLearning i _).after
    (Calm.after (calm_modUnb ⟨Nat.zero_le _, le_rfl, le_rfl⟩) (calm_clearStages i s))

theorem calm_leaveClosed (i : StepId) (s : State) : Calm s (leaveClosed i s) := by
  unfold leaveClosed
  split
  · exact calm_modUnb ⟨le_rfl, le_rfl, le_rfl⟩
  · exact calm_disarm i s

/-- Arming begins anew with every counter at 0 (R136, R137). -/
theorem unbCalm_entered (u : Unbalance) : UnbCalm u u.entered := ⟨Nat.zero_le _, Nat.zero_le _, Nat.zero_le _⟩

theorem calm_enterClosed (i : StepId) (s : State) : Calm s (enterClosed i s) := by
  unfold enterClosed
  refine .after (calm_modUnb ?_) (.of_counted rfl)
  split
  · exact .refl _
  · exact unbCalm_entered _

theorem calm_takeDeparture (i : StepId) (s : State) : Calm s (takeDeparture i s) := by
  have taken : Calm s ((disarm i s).modUnb i fun u => { u with departed := false }) :=
    Calm.after (calm_modUnb ⟨le_rfl, le_rfl, le_rfl⟩) (calm_disarm i s)
  unfold takeDeparture
  dsimp only
  split
  · split
    · exact Calm.after (calm_modUnb (unbCalm_entered _)) taken
    · exact taken
  · exact .refl s

theorem calm_clearSuspect (i : StepId) (s : State) : Calm s (clearSuspect i s) := by
  unfold clearSuspect
  split
  · exact (calm_endCause _ _ _).after (calm_modStep fun _ => rfl)
  · exact .refl s

theorem calm_enterOpened (i : StepId) (s : State) : Calm s (enterOpened i s) := by
  have cooled := (calm_startCooldown i _).after (calm_clearSuspect i s)
  unfold enterOpened
  dsimp only
  split
  · exact (calm_startHoldoff i _).after cooled
  · exact cooled

theorem calm_enterFaulted (i : StepId) (c : FaultCause) (s : State) : Calm s (enterFaulted i c s) := by
  have armed : Calm s (if (s.stepRec i).suspect then s.modTimers i fun t => { t with arming := true } else s) := by
    split <;> exact .of_counted rfl
  unfold enterFaulted
  dsimp only
  split
  · exact (calm_raise _ _ _).after ((calm_clearSuspect i _).after armed)
  · exact (calm_clearSuspect i _).after armed

theorem calm_leaveState (i : StepId) (old : StepState) (s : State) : Calm s (leaveState i old s) := by
  unfold leaveState
  split
  · exact calm_stopCooldown i s
  · exact calm_leaveClosed i s
  · exact calm_endCause _ _ s
  · exact .refl s

theorem calm_enterState (i : StepId) (new : StepState) (s : State) : Calm s (enterState i new s) := by
  unfold enterState
  split
  · exact calm_enterOpened i s
  · exact calm_enterClosed i s
  · exact calm_enterFaulted i _ s
  · exact .refl s

theorem calm_armHoldoff (i : StepId) (s : State) : Calm s (armHoldoff i s) := by
  unfold armHoldoff
  split
  · exact calm_startHoldoff i s
  · exact .refl s
  · exact .refl s
  · exact .of_counted rfl

theorem calm_openWatch (i : StepId) (s : State) : Calm s (openWatch i s) := .of_counted rfl

theorem calm_vcWithdrawClose (s : State) : Calm s (vcWithdrawClose s) := by
  unfold vcWithdrawClose
  split
  · exact .refl s
  · split
    · exact calm_abandonClose _ _ _ s
    · exact .refl s

theorem calm_loseSchedule (i : StepId) (o : Operation) (s : State) : Calm s (loseSchedule i o s) := by
  unfold loseSchedule
  split
  · split
    · exact calm_abandonClose i _ _ s
    · exact .of_counted rfl
  · exact calm_abandonClose i _ _ s

end Sys2Proof.Proofs

namespace Sys2Proof.Proofs

open Sys2Proof.Machine Sys2Proof.Safety Sys2Proof.Laws

/-! ### Changes that raise a counter or move a step -/

/-- A change of voltage control's figures that keeps its counters within their delays. -/
theorem keeps_vc {s t : State} (same : counted t = counted { s with vc := t.vc })
    (ok : VcOk s.cfg.yard s.vc → VcOk s.cfg.yard t.vc) : Keeps s t where
  order := (Keeps.calm (.of_counted same)).order
  counters h := by
    obtain ⟨vc, hs, ub, ops⟩ := (countersOk_iff s).mp h
    exact (Keeps.calm (.of_counted same)).counters ((countersOk_iff _).mpr ⟨ok vc, hs, ub, ops⟩)

/-- A change of the supervisor's figures that keeps its counters within their delays. -/
theorem keeps_hs {s t : State} (same : counted t = counted { s with hs := t.hs })
    (ok : HarmonicOk s.cfg.yard s.hs → HarmonicOk s.cfg.yard t.hs) : Keeps s t where
  order := (Keeps.calm (.of_counted same)).order
  counters h := by
    obtain ⟨vc, hs, ub, ops⟩ := (countersOk_iff s).mp h
    exact (Keeps.calm (.of_counted same)).counters ((countersOk_iff _).mpr ⟨vc, ok hs, ub, ops⟩)

/-- A change of a step's unbalance record that keeps its counters within their delays. -/
theorem keeps_modUnb {i : StepId} {f : Unbalance → Unbalance} {s : State}
    (ok : UnbOk (s.stepCfg i) (s.unb i) → UnbOk (s.stepCfg i) (f (s.unb i))) : Keeps s (s.modUnb i f) where
  order h := h
  counters h := by
    obtain ⟨vc, hs, ub, ops⟩ := (countersOk_iff s).mp h
    refine (countersOk_iff _).mpr ⟨vc, hs, fun j => ?_, ops⟩
    rw [State.modUnb_unb]
    split
    · next e => exact e ▸ ok (ub i)
    · exact ub j

/-- The promise on the list, by the records that belong in it (R59). -/
theorem closedOrderOk_iff (s : State) :
    ClosedOrderOk s ↔ s.tbl.closedOrder.Nodup ∧ ∀ j, j ∈ s.tbl.closedOrder ↔ (s.stepRec j).listed = true := by
  simp [ClosedOrderOk, StepRec.listed]

/-- A change of a step's record that leaves whether it belongs in the list, and keeps its operation count in range. -/
theorem keeps_modStep {i : StepId} {f : StepRec → StepRec} {s : State}
    (listed : (f (s.stepRec i)).listed = (s.stepRec i).listed)
    (count : (s.stepRec i).opCount ≤ 65535 → (f (s.stepRec i)).opCount ≤ 65535) : Keeps s (s.modStep i f) where
  order h := by
    obtain ⟨nodup, mem⟩ := (closedOrderOk_iff s).mp h
    refine (closedOrderOk_iff _).mpr ⟨nodup, fun j => (mem j).trans ?_⟩
    rw [State.modStep_stepRec]
    split
    · next e => rw [e, listed]
    · rfl
  counters h := by
    obtain ⟨vc, hs, ub, ops⟩ := (countersOk_iff s).mp h
    refine (countersOk_iff _).mpr ⟨vc, hs, ub, fun j => ?_⟩
    rw [State.modStep_stepRec]
    split
    · exact count (ops i)
    · exact ops j

/-- A step joins the list at its tail when it comes to belong in it and leaves it when it no longer does (R59). -/
theorem moveStep_order {i : StepId} {new : StepState} {s : State} (h : ClosedOrderOk s) :
    ClosedOrderOk (moveStep i new s) := by
  obtain ⟨nodup, mem⟩ := h
  have retired (j : StepId) : ((moveStep i new s).stepRec j).retired = (s.stepRec j).retired := by
    have same := congrArg (·.2.2.1) (moveStep_core i j new s)
    split at same
    · next e => exact same.trans (e ▸ rfl)
    · exact same
  simp only [ClosedOrderOk, retired, moveStep_state]
  rw [moveStep_closedOrder]
  split
  · next belongs =>
    split
    · next listed =>
      refine ⟨nodup, fun j => ?_⟩
      by_cases e : j = i
      · simp [e, listed, belongs]
      · simp [e, mem j]
    · next absent =>
      refine ⟨List.nodup_append.mpr ⟨nodup, List.nodup_singleton i, ?_⟩, fun j => ?_⟩
      · rintro a ha b hb rfl
        exact absent (List.mem_singleton.mp hb ▸ ha)
      · by_cases e : j = i
        · simp [e, belongs]
        · simp [e, mem j]
  · next differs =>
    refine ⟨nodup.filter _, fun j => ?_⟩
    by_cases e : j = i
    · simpa [e] using differs
    · simp [e, mem j]

theorem keeps_moveStep (i : StepId) (new : StepState) (s : State) : Keeps s (moveStep i new s) where
  order := moveStep_order
  counters := by
    let listed := relist i (s.modStep i fun c => { c with state := new })
    have calm : Calm listed (moveStep i new s) :=
      .after (calm_watchClose i _) (.after (calm_enterState i new _) (calm_leaveState i _ listed))
    have frame : listed.cfg = s.cfg ∧ listed.vc = s.vc ∧ listed.hs = s.hs ∧ listed.ub = s.ub := by simp [listed]
    obtain ⟨cfg, vc, hs, ub⟩ := frame
    refine countersOk_of_calm (calm.cfg.trans cfg) (vc ▸ calm.vc) (hs ▸ calm.hs) (fun j => ?_) fun j => ?_
    · have := calm.ub j
      rwa [show listed.unb j = s.unb j by rw [State.unb, ub]; rfl] at this
    · have same := congrArg (·.2.2.2.2) (moveStep_core i j new s)
      split at same
      · next e => exact same.trans (e ▸ rfl)
      · exact same

/-- A FAULTED step stays outside the list whatever its cause (R45, R47, R59). -/
theorem keeps_faultInvalid {i : StepId} {s : State} (hf : (s.stepRec i).state.isFaulted = true) :
    Keeps s (faultInvalid i s) := by
  have caused : Keeps s (s.modStep i fun c => { c with state := .faulted .positionInvalid }) := by
    refine keeps_modStep ?_ id
    cases h : (s.stepRec i).state <;> simp_all [StepRec.listed, StepState.isFaulted]
  unfold faultInvalid
  dsimp only
  split
  · exact caused
  · exact .after (.calm (calm_raise _ _ _)) caused

/-- A marked step moves to the head of the list (R60). -/
theorem keeps_markSuspect (i : StepId) (s : State) : Keeps s (markSuspect i s).1 := by
  unfold markSuspect
  dsimp only
  split
  · next applies =>
    have here : i ∈ s.tbl.closedOrder := by simp_all
    have marked : Keeps s (s.modStep i fun c => { c with suspect := true }) := .calm (calm_modStep fun _ => rfl)
    refine ⟨fun h => ?_, fun h => marked.counters h⟩
    obtain ⟨nodup, mem⟩ := marked.order h
    refine ⟨List.nodup_cons.mpr ⟨by simp, nodup.filter _⟩, fun j => (mem j).symm.trans ?_ |>.symm⟩
    by_cases e : j = i
    · simp [e, here]
    · simp [e]
  · exact .refl s

end Sys2Proof.Proofs

namespace Sys2Proof.Proofs

open Sys2Proof.Machine Sys2Proof.Safety Sys2Proof.Laws

/-! ### The sequencer keeps list and counters -/

theorem keeps_startClosePulse (i : StepId) (s : State) : Keeps s (startClosePulse i s) := by
  unfold startClosePulse
  split
  · exact .refl s
  · exact .after (keeps_moveStep i _ _) (.calm (.after (calm_modStep fun _ => rfl) (.of_counted rfl)))

theorem keeps_tryClosePulse (i : StepId) (s : State) : Keeps s (tryClosePulse i s) := by
  unfold tryClosePulse
  split
  · exact keeps_startClosePulse i s
  · exact .calm (calm_abandonClose i _ _ s)

theorem keeps_scheduleClose (i : StepId) (frame : Word) (wave : BitVec 5) (s : State) :
    Keeps s (scheduleClose i frame wave s) := by
  unfold scheduleClose
  dsimp only
  split
  · exact keeps_tryClosePulse i s
  · exact .of_counted rfl

theorem keeps_takeClose (i : StepId) (src : Requester) (t : Timing) (s : State) : Keeps s (takeClose i src t s) := by
  unfold takeClose
  dsimp only
  split
  · exact .after (.calm (calm_abandonClose i _ _ _)) (.of_counted rfl)
  · split
    · exact .after (keeps_tryClosePulse i _) (.of_counted rfl)
    · (repeat' split)
      case isTrue.isTrue | isFalse.isTrue => exact .after (keeps_scheduleClose i _ _ _) (.of_counted rfl)
      case isFalse.isFalse => exact .after (.calm (calm_abandonClose i _ _ _)) (.of_counted rfl)
      all_goals exact .of_counted rfl

theorem keeps_startTripPulse (i : StepId) (o : Operation) (s : State) : Keeps s (startTripPulse i o s) :=
  .after (keeps_moveStep i _ _) (.calm (.after (calm_modStep fun _ => rfl) (.of_counted rfl)))

theorem keeps_takeOpen (i : StepId) (src : Requester) (s : State) : Keeps s (takeOpen i src s) := by
  unfold takeOpen
  dsimp only
  split
  · exact .after (keeps_startTripPulse i _ _) (.of_counted rfl)
  · exact .calm (.after (calm_freeRight _) (.after (calm_endReport _ _ _ _) (.of_counted rfl)))

theorem keeps_protectiveOpen (i : StepId) (s : State) : Keeps s (protectiveOpen i s) := by
  unfold protectiveOpen
  split
  · split
    · exact .refl s
    · exact keeps_startTripPulse i _ s
  · split
    · exact keeps_startTripPulse i _ s
    · exact .after (.calm (calm_endReport _ _ _ _)) (keeps_startTripPulse i _ s)
  · exact .refl s

theorem keeps_openAll (s : State) : Keeps s (openAll s) := keeps_forEach keeps_protectiveOpen _ s

/-- The operation count stops at its greatest value (R49, R58). -/
theorem keeps_confirmClose (i : StepId) (o : Operation) (s : State) : Keeps s (confirmClose i o s) := by
  have moved : Keeps s (moveStep i .closed (dropOperation i s)) := .after (keeps_moveStep i _ _) (.of_counted rfl)
  have counted (u : State) : Keeps u (u.modStep i fun c => { c with opCount := min (c.opCount + 1) 65535 }) :=
    keeps_modStep rfl fun _ => Nat.min_le_right _ _
  exact .after (.calm (calm_passIfUnder o _ _))
    (.after (.calm (calm_endReport _ _ _ _)) (.after (.calm (calm_openWatch i _)) (.after (counted _) moved)))

theorem keeps_confirmOpen (i : StepId) (o : Operation) (s : State) : Keeps s (confirmOpen i o s) :=
  .after (.calm (calm_passIfUnder o _ _))
    (.after (.calm (calm_endReport _ _ _ _)) (.after (keeps_moveStep i _ _) (.of_counted rfl)))

theorem keeps_judgeDelivery (i : StepId) (p : Position) (s : State) : Keeps s (judgeDelivery i p s) := by
  unfold judgeDelivery
  split
  · split
    · exact keeps_confirmClose i _ s
    · exact keeps_confirmOpen i _ s
    · exact .refl s
  · exact .refl s

theorem keeps_closeNoIndication (i : StepId) (o : Operation) (s : State) : Keeps s (closeNoIndication i o s) :=
  .after (.calm (calm_passIfUnder o _ _))
    (.after (.calm (calm_endReport _ _ _ _)) (.after (keeps_moveStep i _ _) (.of_counted rfl)))

theorem keeps_closeFailure (i : StepId) (o : Operation) (s : State) : Keeps s (closeFailure i o s) :=
  .after (.calm (calm_endReport _ _ _ _))
    (.after (.calm (.after (calm_raise _ _ _) (calm_addLockout i _ _))) (keeps_startTripPulse i _ s))

theorem keeps_openFailure (i : StepId) (o : Operation) (s : State) : Keeps s (openFailure i o s) := by
  unfold openFailure
  dsimp only
  refine .after (.calm (calm_passIfUnder o _ _)) (.after (.calm (calm_endReport _ _ _ _)) ?_)
  split
  · have driven {t : State} (k : Keeps s t) (n : Nat) : Keeps s { t with seq.yardTrip := n } :=
      ⟨fun h => k.order h, fun h => k.counters h⟩
    have moved := (keeps_moveStep i (.faulted .switchFailure) _).after
      (Keeps.of_counted (s := s) (t := (dropOperation i s).modLane i fun l => { l with tripPulse := 0 }) rfl)
    have locked := (Keeps.calm (calm_addLockout i .switchFailure _)).after moved
    exact driven ((Keeps.calm (calm_raise .switchFail (.step i) _)).after locked) _
  · exact .after (keeps_moveStep i _ _) (.of_counted rfl)

theorem keeps_measNotice (frame : Word) (wave : BitVec 5) (s : State) : Keeps s (measNotice frame wave s) := by
  unfold measNotice
  split
  · exact .refl s
  · split
    · split
      · exact keeps_scheduleClose _ _ _ s
      · exact .refl s
    · split
      · exact .calm (calm_loseSchedule _ _ s)
      · exact .refl s

/-! ### Orders and grants keep list and counters -/

/-- Voltage control at a grant raises no counter (R107). -/
theorem keeps_vcGranted (s : State) : Keeps s (vcGranted s) := by
  have noted (c : Option StepId) : Keeps s (vcOperating (noteSelection c s)) :=
    .calm (.of_vc rfl ⟨rfl, le_rfl, le_rfl, id, id, le_rfl, id, id, le_rfl⟩)
  have released : Keeps s (vcRelease s) := .calm (.of_vc rfl ⟨rfl, le_rfl, le_rfl, id, id, le_rfl, id, id, le_rfl⟩)
  have unfound (c : Option StepId) : Keeps s (vcRelease (noteSelection c s)) :=
    .calm (.of_vc rfl ⟨rfl, le_rfl, le_rfl, id, id, le_rfl, id, id, le_rfl⟩)
  unfold vcGranted
  dsimp only
  split
  · split
    · exact .calm (.of_vc rfl ⟨rfl, le_rfl, le_rfl, id, id, le_rfl, nofun, id, le_rfl⟩)
    · refine .after (keeps_takeOpen _ _ _) (.calm (.of_vc rfl ?_))
      exact ⟨rfl, le_rfl, le_rfl, id, id, le_rfl, nofun, id, le_rfl⟩
  · split
    · split
      · split
        · exact unfound _
        · exact .after (keeps_takeClose _ _ _ _) (noted _)
      · exact released
    · split
      · split
        · split
          · exact unfound _
          · exact .after (keeps_takeOpen _ _ _) (noted _)
        · exact released
      · exact released

theorem keeps_handOver (x : StartItem) (s : State) : Keeps s (handOver x s) := by
  unfold handOver
  dsimp only
  split
  · exact .after (keeps_takeClose _ _ _ _) (.of_counted rfl)
  · exact .after (keeps_takeOpen _ _ _) (.of_counted rfl)

theorem calm_runResetLockout (i : StepId) (s : State) : Calm s (runResetLockout i s) := by
  have cleared := (calm_clearStages i _).after ((calm_takeDeparture i _).after
    (calm_modStep (i := i) (f := fun c => { c with lockout := none }) (s := s) fun _ => rfl))
  unfold runResetLockout
  dsimp only
  refine .after (calm_modUnb ⟨le_rfl, le_rfl, le_rfl⟩) ?_
  split
  · exact (calm_endCause _ _ _).after cleared
  · exact cleared

/-- A step whose order to retire passes its checks is OPEN or FAULTED (R175). -/
theorem startCheck_retire {s : State} {i : StepId} (h : startCheck s .retireStep i = none) :
    (s.stepRec i).state = .opened ∨ (s.stepRec i).state.isFaulted = true := by
  by_contra other
  obtain ⟨opened, faulted⟩ := not_or.mp other
  by_cases absent : (s.stepRec i).state = .absent <;> simp [startCheck, firstFailing, opened, faulted, absent] at h

/-- A step whose order to reinstate passes its checks is OPEN (R176). -/
theorem startCheck_reinstate {s : State} {i : StepId} (h : startCheck s .reinstateStep i = none) :
    (s.stepRec i).state = .opened := by
  by_contra other
  by_cases absent : (s.stepRec i).state = .absent <;> cases retired : (s.stepRec i).retired <;>
    cases direct : (s.lines i).direct <;> simp [startCheck, firstFailing, other, absent, retired, direct] at h

/-- OPEN and FAULTED steps stay outside the list whatever their service (R59). -/
theorem listed_of_outside {r : StepRec} (h : r.state = .opened ∨ r.state.isFaulted = true) : r.listed = false := by
  cases hs : r.state <;> simp_all [StepRec.listed, StepState.isFaulted]

/-- The service of a step outside the list changes (R175, R176). -/
theorem keeps_service {i : StepId} {b : Bool} {s : State}
    (h : (s.stepRec i).state = .opened ∨ (s.stepRec i).state.isFaulted = true) :
    Keeps s (s.modStep i fun c => { c with retired := b }) :=
  keeps_modStep ((listed_of_outside h).symm ▸ listed_of_outside h) id

/-- A right-free order that passed its checks keeps list and counters (R171 to R176). -/
theorem keeps_runRightFree {x : StartItem} {s : State} (h : startCheck s x.kind x.step = none) :
    Keeps s (runRightFree x s) := by
  unfold runRightFree
  split
  · exact .calm (.after (calm_finishSlot _ _ _ _) (calm_modStep fun _ => rfl))
  · exact .calm (.after (calm_finishSlot _ _ _ _) (calm_modStep fun _ => rfl))
  · exact .calm (.after (calm_finishSlot _ _ _ _) (calm_runResetLockout x.step s))
  · exact .calm (.after (calm_modUnb ⟨le_rfl, le_rfl, le_rfl⟩) (.of_counted rfl))
  · next hk =>
    rw [hk] at h
    exact .after (.calm (.after (calm_finishSlot _ _ _ _) (calm_watchClose _ _))) (keeps_service (startCheck_retire h))
  · next hk =>
    rw [hk] at h
    exact .after (.calm (.after (calm_finishSlot _ _ _ _) (calm_startCooldown _ _)))
      (keeps_service (.inl (startCheck_reinstate h)))
  · exact .refl s
  · exact .refl s

theorem keeps_startRightFree (x : StartItem) (s : State) : Keeps s (startRightFree x s) := by
  unfold startRightFree
  dsimp only
  split
  · exact .of_counted rfl
  · next passed => exact .after (keeps_runRightFree passed) (.of_counted rfl)

/-- The consequences of an event for orders and the right keep list and counters. -/
theorem keeps_settle (s : State) : Keeps s (settle s) :=
  settle_invariant (Keeps s) (fun _ _ => .after (.of_counted rfl)) (fun x _ => .after (keeps_startRightFree x _))
    (fun _ _ => .after (.of_counted rfl)) (fun _ _ _ => .after (.of_counted rfl))
    (fun x _ => .after (keeps_handOver x _)) (fun _ => .after (keeps_vcGranted _)) s (.refl s)

end Sys2Proof.Proofs

namespace Sys2Proof.Proofs

open Sys2Proof.Machine Sys2Proof.Safety Sys2Proof.Laws

/-! ### Deliveries and windows keep list and counters -/

/-- The position last shown for a step decides on neither promise (R12, R37). -/
theorem keeps_indicated (i : StepId) (p : Position) (s : State) :
    Keeps s (s.modStep i fun c => { c with indicated := some p }) := keeps_modStep rfl id

theorem keeps_resolveFaulted {i : StepId} {s : State} (p : Position) (hf : (s.stepRec i).state.isFaulted = true) :
    Keeps s (resolveFaulted i p s) := by
  unfold resolveFaulted
  split
  · exact keeps_moveStep i _ s
  · exact keeps_moveStep i _ s
  · exact keeps_faultInvalid hf

theorem keeps_uncommandedOpen (i : StepId) (s : State) : Keeps s (uncommandedOpen i s) := by
  unfold uncommandedOpen
  dsimp only
  split
  · exact keeps_moveStep i _ s
  · exact .after (.calm (calm_raise _ _ _)) (keeps_moveStep i _ s)

theorem keeps_uncommandedClose (i : StepId) (s : State) : Keeps s (uncommandedClose i s) := by
  have moved := keeps_moveStep i .closed s
  unfold uncommandedClose
  dsimp only
  split
  · exact moved
  · exact ⟨fun h => moved.order h, fun h => moved.counters h⟩

theorem keeps_applyDelivery (d : Delivery) (s : State) : Keeps s (applyDelivery d s) := by
  have shown := keeps_indicated d.1 d.2 s
  unfold applyDelivery
  dsimp only
  split
  case h_1 | h_5 | h_9 => exact shown
  case h_2 | h_3 | h_4 | h_7 | h_10 => exact .after (keeps_moveStep _ _ _) shown
  case h_6 => exact .after (keeps_uncommandedClose _ _) shown
  case h_8 => exact .after (keeps_uncommandedOpen _ _) shown
  case h_11 | h_12 => exact .after (keeps_judgeDelivery _ _ _) shown
  case h_13 faulted => exact .after (keeps_resolveFaulted _ (by rw [faulted]; rfl)) shown

theorem keeps_deliver (d : Delivery) (s : State) : Keeps s (deliver d s) :=
  .after (keeps_settle _) (keeps_applyDelivery d s)

theorem keeps_feedReturnStep (i : StepId) (s : State) : Keeps s (feedReturnStep i s) := by
  rw [feedReturnStep_eq]
  split
  · exact keeps_deliver _ s
  · exact .refl s

theorem keeps_feedFrame (s : State) : Keeps s (feedFrame s) := by
  rw [feedFrame_eq]
  dsimp only
  split
  · exact .of_counted rfl
  · exact .after (keeps_forEach keeps_feedReturnStep _ _) (.of_counted rfl)

theorem keeps_takePositions (w : Half) (s : State) : Keeps s (takePositions w s) :=
  .after (keeps_forEach keeps_deliver _ _) (.of_counted rfl)

theorem keeps_built (f : SampleFrame) (a : FrameAssembly) (s : State) : Keeps s (built f a s) := by
  rw [built, windowFrame_frame]
  exact .of_counted rfl

theorem keeps_frameEnd (f : SampleFrame) (s : State) : Keeps s (frameEnd f s) := by
  cases ha : s.rx.assembly with
  | none =>
    simp only [frameEnd, ha]
    exact .of_counted rfl
  | some a =>
    cases hv : isValid (frameClass f a) with
    | false =>
      rw [frameEnd_invalid ha hv]
      exact keeps_built f a s
    | true =>
      rw [frameEnd_valid ha hv]
      exact .after (keeps_takePositions _ _) (.after (keeps_feedFrame _) (keeps_built f a s))

theorem keeps_firstSync (s : State) : Keeps s (firstSync s) := by
  unfold firstSync
  split <;> exact .of_counted rfl

theorem keeps_scheduledPulse (s : State) : Keeps s (scheduledPulse s) := by
  unfold scheduledPulse
  split
  · exact .refl s
  · split
    · split
      · exact .refl s
      · refine .after (keeps_settle _) ?_
        split
        · exact keeps_tryClosePulse _ s
        · exact .calm (calm_loseSchedule _ _ s)
    · exact .refl s

theorem keeps_feedExpiry (s : State) : Keeps s (feedExpiry s) := by
  unfold feedExpiry
  dsimp only
  (repeat' split) <;> exact .of_counted rfl

theorem keeps_handGood (frames : List Samples) (n : Word) (w : BitVec 5) (s : State) :
    Keeps s (handGood frames n w s) := by
  have noticed := (keeps_measNotice n w _).after
    (Keeps.of_counted (s := s) (t := endCause .measLost .yard { s with rx.meas := .valid, rx.failedCount := 0 }) rfl)
  exact ⟨fun h => noticed.order h, fun h => noticed.counters h⟩

theorem keeps_handFailed (s : State) : Keeps s (handFailed s) := by
  have heard : Keeps s (heardFailed s.rx.ends s) := by
    rw [heardFailed_frame]
    exact .of_counted rfl
  have noticed := (keeps_measNotice (heardFailed s.rx.ends s).rx.frameNumber (heardFailed s.rx.ends s).rx.wave _).after
    heard
  exact ⟨fun h => noticed.order h, fun h => noticed.counters h⟩

theorem keeps_takeWindowEnd (s : State) : Keeps s (takeWindowEnd s) := by
  unfold takeWindowEnd
  split
  · exact .refl s
  · split
    · exact .refl s
    · exact .after (keeps_settle _) (.after (keeps_handGood _ _ _ _) (.of_counted rfl))
    · exact .after (keeps_settle _) (.after (keeps_handFailed _) (.of_counted rfl))

/-- The alarm set decides on neither promise. -/
theorem counted_of_besideAlarms {s t : State} (h : besideAlarms t = besideAlarms s) : counted t = counted s :=
  (congrArg counted h : counted (besideAlarms t) = counted (besideAlarms s))

/-- A publication touches the channel table and the alarm set alone. -/
theorem keeps_publish (s : State) : Keeps s (publish s) := by
  cases hw : s.mu.computing with
  | none =>
    simp only [publish, hw]
    exact .refl s
  | some w =>
    have run : publish s = forEach (clipNotice s.mu.entries) allChannels (published w s) := by
      simp only [publish, hw, published]
    have replaced : Keeps s (published w s) := .of_counted rfl
    rw [run]
    exact .after (.of_counted (counted_of_besideAlarms (clipNotices_beside _ _ _))) replaced

/-! ### Voltage control keeps list and counters -/

theorem keeps_vcDead (s : State) : Keeps s (vcDead s) := by
  have timed (b : Bool) : Keeps s { s with
      vc.deadAcc := min (s.vc.deadAcc + 1) s.cfg.yard.deadDelay, vc.deadOpened := b } := by
    refine keeps_vc rfl fun ⟨alone, low, high, fast, _, manual⟩ => ?_
    exact ⟨alone, low, high, fast, Nat.min_le_right _ _, manual⟩
  have cleared (t : State) : Keeps t (raise .deadBusOpen .yard (clearBand t)) :=
    .calm (.of_vc rfl ⟨rfl, Nat.zero_le _, Nat.zero_le _, nofun, nofun, le_rfl, id, id, le_rfl⟩)
  unfold vcDead
  dsimp only
  split
  · split
    · split
      · exact .after (keeps_openAll _) (timed _)
      · exact .after (cleared _) (.after (keeps_openAll _) (timed true))
    · exact timed _
  · rw [clearDead_eq]
    exact .calm (.of_vc rfl ⟨rfl, le_rfl, le_rfl, id, id, le_rfl, id, id, Nat.zero_le _⟩)

/-- In AUTO the fast overvoltage may set its flags (R109, R110). -/
theorem keeps_vcFast {s : State} (auto : s.vc.auto = true) : Keeps s (vcFast s) := by
  have inAuto {p : Prop} (manual : s.vc.auto = false) : p := Bool.noConfusion (manual.symm.trans auto)
  unfold vcFast
  dsimp only
  split
  · split
    · refine keeps_vc rfl fun ⟨alone, low, high, _, dead, _⟩ => ?_
      exact ⟨alone, low, high, Nat.zero_le _, dead, inAuto⟩
    · next below =>
      refine keeps_vc rfl fun ⟨alone, low, high, _, dead, _⟩ => ?_
      exact ⟨alone, low, high, (Nat.lt_of_not_le below).le, dead, inAuto⟩
  · rw [clearFastCondition_eq]
    exact .calm (.of_vc rfl ⟨rfl, le_rfl, le_rfl, id, id, Nat.zero_le _, id, nofun, le_rfl⟩)

/-- In AUTO one band counter counts and the other is cleared, or both count down (R101). -/
theorem keeps_vcBand {s : State} (auto : s.vc.auto = true) : Keeps s (vcBand s) := by
  have inAuto {p : Prop} (manual : s.vc.auto = false) : p := Bool.noConfusion (manual.symm.trans auto)
  unfold vcBand
  dsimp only
  split
  · exact .calm (.of_vc rfl ⟨rfl, Nat.zero_le _, Nat.zero_le _, nofun, nofun, le_rfl, id, id, le_rfl⟩)
  · refine keeps_vc ?_ fun ⟨alone, low, high, fast, dead, _⟩ => ?_
    · (repeat' split) <;> rfl
    · split
      · exact ⟨.inr rfl, Nat.min_le_right _ _, Nat.zero_le _, fast, dead, inAuto⟩
      · split
        · exact ⟨.inl rfl, Nat.zero_le _, Nat.min_le_right _ _, fast, dead, inAuto⟩
        · refine ⟨alone.imp (fun h => ?_) fun h => ?_, (Nat.sub_le _ _).trans low, (Nat.sub_le _ _).trans high, fast,
            dead, inAuto⟩
          · rw [h]
          · rw [h]

theorem keeps_vcDecide (s : State) : Keeps s (vcDecide s) := by
  have noted (t : State) (h : counted t = counted { s with vc := t.vc })
      (vc : t.vc = { s.vc with request := t.vc.request, noCandidate := t.vc.noCandidate }) : Keeps s t :=
    .calm (.of_vc h (by rw [vc]; exact ⟨rfl, le_rfl, le_rfl, id, id, le_rfl, id, id, le_rfl⟩))
  have decided (cand : Option StepId) (pending : VcRequestState) : Keeps s (vcDecided cand pending s) := by
    cases cand <;> exact noted _ rfl rfl
  unfold vcDecide
  split
  · exact .refl s
  · split
    · split
      · exact noted _ rfl rfl
      · exact decided _ _
    · split
      · exact decided _ _
      · exact noted _ rfl rfl

theorem keeps_vcGood (s : State) : Keeps s (vcGood s) := by
  have inAuto {f : State → State} (hf : ∀ t, t.vc.auto = true → Keeps t (f t)) (t : State) :
      Keeps t (if t.vc.auto then settle (f t) else t) := by
    split
    · next auto => exact .after (keeps_settle _) (hf t auto)
    · exact .refl t
  have withdrawn (t : State) : Keeps t (vcWithdrawCheck t) := by
    unfold vcWithdrawCheck
    split
    · exact .calm (calm_vcWithdrawClose t)
    · exact .refl t
  have formed : Keeps s (vcForm s) :=
    .calm (.of_vc rfl ⟨rfl, le_rfl, le_rfl, id, id, le_rfl, id, id, le_rfl⟩)
  have fast := (inAuto (fun t => keeps_vcFast) _).after ((keeps_vcDead _).after formed)
  have band := (inAuto (f := fun t => vcDecide (vcBand t))
    (fun t auto => .after (keeps_vcDecide _) (keeps_vcBand auto)) _).after fast
  exact .after (keeps_settle _) (.after (withdrawn _) band)

theorem keeps_vcFailed (s : State) : Keeps s (vcFailed s) := by
  by_cases hm : s.rx.meas = .holding
  · rw [vcFailed_holding hm]
    exact .calm (.of_vc rfl ⟨rfl, le_rfl, le_rfl, id, id, le_rfl, id, id, le_rfl⟩)
  · rw [vcFailed_clears hm]
    exact .calm (.of_vc rfl
      ⟨rfl, Nat.zero_le _, Nat.zero_le _, nofun, nofun, Nat.zero_le _, nofun, nofun, Nat.zero_le _⟩)

theorem keeps_vcEvaluate (s : State) : Keeps s (vcEvaluate s) := by
  unfold vcEvaluate
  split
  · exact .refl s
  · dsimp only
    split
    · exact .after (keeps_vcGood _) (.of_counted rfl)
    · exact .after (keeps_settle _) (.after (keeps_vcFailed _) (.of_counted rfl))

/-- On the change to MANUAL band and fast counters and the fast condition come to rest (R98, R110). -/
theorem keeps_setMode (auto : Bool) (s : State) : Keeps s (setMode auto s) := by
  unfold setMode
  split
  · exact .refl s
  · split
    · refine keeps_vc rfl fun ⟨alone, low, high, fast, dead, _⟩ => ?_
      exact ⟨alone, low, high, fast, dead, nofun⟩
    · have rested : Keeps s (withdrawVc (clearFastCondition
          { clearBand s with vc.auto := false, vc.fastAcc := 0, vc.fastDue := false })) := by
        rw [clearFastCondition_eq]
        refine keeps_vc rfl fun ⟨_, _, _, _, dead, _⟩ => ?_
        exact ⟨.inl rfl, Nat.zero_le _, Nat.zero_le _, Nat.zero_le _, dead,
          fun _ => ⟨rfl, rfl, rfl, rfl, rfl, rfl, rfl⟩⟩
      have reported (t : State) (r : VcRequestState) : Keeps t { t with vc.noCandidate := false, vc.request := r } :=
        .calm (.of_vc rfl ⟨rfl, le_rfl, le_rfl, id, id, le_rfl, id, id, le_rfl⟩)
      exact .after (keeps_settle _) (.after (reported _ _) (.after (.calm (calm_vcWithdrawClose _)) rested))

end Sys2Proof.Proofs

namespace Sys2Proof.Proofs

open Sys2Proof.Machine Sys2Proof.Safety Sys2Proof.Laws

/-! ### The harmonic supervisor keeps list and counters -/

theorem calm_alarmEdge (k : AlarmKind) (sub : Subject) (was now : Bool) (s : State) :
    Calm s (alarmEdge k sub was now s) := by
  unfold alarmEdge
  split
  · exact calm_raise k sub s
  · split
    · exact calm_endCause k sub s
    · exact .refl s

/-- An alarm stage keeps its counter within the delay (R121, R141). -/
theorem alarmStage_le (level : Option Nat) (setting : Nat) {delay count : Nat} (active : Bool) (h : count ≤ delay) :
    (alarmStage level setting delay count active).1 ≤ delay := by
  unfold alarmStage
  split
  · exact h
  · split
    · exact Nat.min_le_right _ _
    · split
      · exact h
      · exact Nat.zero_le _

theorem keeps_hsStageV (s : State) : Keeps s (hsStageV s) := by
  have counted : Keeps s (alarmEdge .harmAlarmV .yard s.hs.vActive
      (alarmStage s.hs.dv s.cfg.yard.dvAlarm s.cfg.yard.harmAlarmDelay s.hs.vCount s.hs.vActive).2
      { s with
        hs.vCount := (alarmStage s.hs.dv s.cfg.yard.dvAlarm s.cfg.yard.harmAlarmDelay s.hs.vCount s.hs.vActive).1,
        hs.vActive := (alarmStage s.hs.dv s.cfg.yard.dvAlarm s.cfg.yard.harmAlarmDelay s.hs.vCount s.hs.vActive).2 }) :=
    .after (.calm (calm_alarmEdge _ _ _ _ _))
      (keeps_hs rfl fun ⟨v, i, trip⟩ => ⟨alarmStage_le _ _ _ v, i, trip⟩)
  unfold hsStageV
  dsimp only
  split
  · exact .after (.calm (calm_vcWithdrawClose _)) counted
  · exact counted

theorem keeps_hsStageI (s : State) : Keeps s (hsStageI s) :=
  .after (.calm (calm_alarmEdge _ _ _ _ _)) (keeps_hs rfl fun ⟨v, i, trip⟩ => ⟨v, alarmStage_le _ _ _ i, trip⟩)

theorem keeps_hsWatch (s : State) : Keeps s (hsWatch s) := by
  unfold hsWatch
  split
  · exact .refl s
  · split
    · have marked := fun i => (keeps_markSuspect i _).after
        (Keeps.of_counted (s := s) (t := { s with hs.watch := none }) rfl)
      dsimp only
      split
      · exact .after (.calm (calm_raise _ _ _)) (marked _)
      · exact marked _
    · exact .refl s

/-- A shed starts the next interval with the trip counter at 0 (R125, R126). -/
theorem keeps_shed (i : StepId) (s : State) : Keeps s (shed i s) := by
  have opened := (keeps_protectiveOpen i _).after (.calm (calm_armHoldoff i s))
  have started (t : State) : Keeps t { raise .harmTrip .yard t with hs.shedding := true, hs.tripCount := 0 } :=
    keeps_hs rfl fun ⟨v, i, _⟩ => ⟨v, i, Nat.zero_le _⟩
  exact (started _).after opened

theorem keeps_hsTrip (s : State) : Keeps s (hsTrip s) := by
  have timed : Keeps s { s with hs.tripCount := min (s.hs.tripCount + 1) (tripThreshold s.cfg.yard s.hs) } :=
    keeps_hs rfl fun ⟨v, i, _⟩ => ⟨v, i, Nat.min_le_right _ _⟩
  unfold hsTrip
  split
  · exact .refl s
  · dsimp only
    split
    · split
      · split
        · exact timed
        · exact .after (keeps_shed _ _) timed
      · exact timed
    · rw [endShedding_eq]
      exact keeps_hs rfl fun ⟨v, i, _⟩ => ⟨v, i, Nat.zero_le _⟩

theorem keeps_hsFailed (s : State) : Keeps s (hsFailed s) := by
  by_cases hm : s.rx.meas = .holding
  · rw [hsFailed_holding hm]
    exact .refl s
  · rw [hsFailed_clears hm]
    exact keeps_hs rfl fun _ => ⟨Nat.zero_le _, Nat.zero_le _, Nat.zero_le _⟩

theorem keeps_hsEvaluate (s : State) : Keeps s (hsEvaluate s) := by
  unfold hsEvaluate
  split
  · exact .refl s
  · refine .after (keeps_settle _) ?_
    split
    · exact .after (keeps_hsTrip _) (.after (keeps_hsWatch _) (.after (keeps_hsStageI _)
        (.after (keeps_hsStageV _) (.of_counted rfl))))
    · exact .after (keeps_hsFailed _) (.of_counted rfl)

/-! ### The unbalance protection unit keeps list and counters -/

theorem keeps_armStep (i : StepId) (s : State) : Keeps s (armStep i s) := by
  unfold armStep
  split
  · exact keeps_modUnb fun ⟨_, alarm, trip⟩ => ⟨Nat.min_le_right _ _, alarm, trip⟩
  · exact .refl s

theorem keeps_ubAlarm (i : StepId) (u : Nat) (s : State) : Keeps s (ubAlarm i u s) :=
  .after (.calm (calm_alarmEdge _ _ _ _ _))
    (keeps_modUnb fun ⟨arm, alarm, trip⟩ => ⟨arm, alarmStage_le _ _ _ alarm, trip⟩)

/-- The trip counter stays within its delay (R142). -/
theorem ubTripStage_ok (u : Nat) {c : StepSettings} {x : Unbalance} (h : UnbOk c x) : UnbOk c (ubTripStage u c x) := by
  obtain ⟨arm, alarm, trip⟩ := h
  unfold ubTripStage
  split
  · exact ⟨arm, alarm, Nat.min_le_right _ _⟩
  · split
    · exact ⟨arm, alarm, trip⟩
    · exact ⟨arm, alarm, Nat.zero_le _⟩

/-- Both stages of an armed step keep their counters within their delays (R141, R142). -/
theorem keeps_ubTimed (i : StepId) (u : Nat) (s : State) :
    Keeps s ((ubAlarm i u s).modUnb i (ubTripStage u (s.stepCfg i))) := by
  have cfg : (ubAlarm i u s).cfg = s.cfg := (calm_alarmEdge _ _ _ _ _).cfg
  have same : (ubAlarm i u s).stepCfg i = s.stepCfg i := by rw [State.stepCfg, cfg]; rfl
  refine .after (keeps_modUnb fun h => ?_) (keeps_ubAlarm i u s)
  rw [same] at h ⊢
  exact ubTripStage_ok u h

theorem calm_ubTrip (i : StepId) (s : State) : Calm s (ubTrip i s) :=
  .after (calm_raise _ _ _) (.after (calm_modUnb ⟨le_rfl, le_rfl, le_rfl⟩) (calm_clearStages i s))

theorem keeps_ubStages (i : StepId) (s : State) : Keeps s (ubStages i s).1 := by
  unfold ubStages
  dsimp only
  split
  · have formed : Keeps s (s.modUnb i fun x => { x with lastU := stepU s i }) :=
      .calm (calm_modUnb ⟨le_rfl, le_rfl, le_rfl⟩)
    split
    · exact formed
    · have timed := (keeps_ubTimed i (stepU s i) _).after formed
      split
      · exact .after (.calm (calm_ubTrip i _)) timed
      · exact timed
  · exact .refl s

/-- A baseline is stored beside the delays (R149). -/
theorem keeps_storedBaseline (i : StepId) (sumRe sumIm : Int) (s : State) :
    Keeps s (storedBaseline i sumRe sumIm s) where
  order h := h
  counters h := by
    obtain ⟨vc, hs, ub, ops⟩ := (countersOk_iff s).mp h
    refine (countersOk_iff _).mpr ⟨vc, hs, fun j => ?_, ops⟩
    have stored : (storedBaseline i sumRe sumIm s).stepCfg j = if j = i then
          stepSettingWrite (stepSettingWrite (s.stepCfg i) .baselineRe (roundDiv sumRe 16)) .baselineIm
            (roundDiv sumIm 16)
        else s.stepCfg j := look_put _ _ _ _
    rw [stored]
    split
    · next e => exact e ▸ ub i
    · exact ub j

theorem keeps_completeLearning (i : StepId) (sumRe sumIm : Int) (s : State) :
    Keeps s (completeLearning i sumRe sumIm s) := by
  rw [completeLearning_eq]
  exact .after (.calm (.after (calm_finishExecuting _ _ _) (.after (calm_modUnb ⟨le_rfl, le_rfl, le_rfl⟩)
    (calm_clearStages i _)))) (keeps_storedBaseline i sumRe sumIm s)

theorem keeps_learnWindow (i : StepId) (s : State) : Keeps s (learnWindow i s) := by
  unfold learnWindow
  split
  · exact .refl s
  · dsimp only
    split
    · exact .calm (calm_interruptLearning i s)
    · split
      · exact keeps_completeLearning i _ _ s
      · exact .calm (calm_modUnb ⟨le_rfl, le_rfl, le_rfl⟩)

theorem keeps_ubStep (i : StepId) (s : State) : Keeps s (ubStep i s) := by
  have evaluated := (Keeps.calm (calm_takeDeparture i _)).after
    ((keeps_learnWindow i _).after ((keeps_ubStages i _).after (keeps_armStep i s)))
  unfold ubStep
  dsimp only
  split
  · exact .after (keeps_protectiveOpen i _) (.after (.calm (calm_addLockout i _ _)) evaluated)
  · exact evaluated

theorem calm_ubFailedStep (i : StepId) (s : State) : Calm s (ubFailedStep i s) := by
  have interrupted := calm_interruptLearning i s
  by_cases hm : s.rx.meas = .holding
  · rw [ubFailedStep_holding hm]
    exact interrupted
  · have begun : Calm s (if (s.unb i).armed then interruptLearning i s
        else (interruptLearning i s).modUnb i fun u => { u with armCount := 0 }) := by
      split
      · exact interrupted
      · exact .after (calm_modUnb ⟨Nat.zero_le _, le_rfl, le_rfl⟩) interrupted
    rw [ubFailedStep_clears hm]
    dsimp only
    generalize (if (s.unb i).armed then interruptLearning i s
        else (interruptLearning i s).modUnb i fun u => { u with armCount := 0 }) = t at begun ⊢
    split
    · exact begun
    · exact .after (calm_clearStages i t) begun

theorem keeps_ubEvaluate (s : State) : Keeps s (ubEvaluate s) := by
  unfold ubEvaluate
  split
  · exact .refl s
  · refine .after (keeps_settle _) (.after (keeps_forEach (fun i t => ?_) _ _) (.of_counted rfl))
    split
    · exact keeps_ubStep i t
    · exact .calm (calm_ubFailedStep i t)

/-! ### Expiries and inputs keep list and counters -/

theorem keeps_cooldownExpiry (i : StepId) (s : State) : Keeps s (cooldownExpiry i s) := by
  unfold cooldownExpiry
  split
  · exact .after (keeps_settle _) (.calm (calm_stopCooldown i s))
  · exact .refl s

theorem keeps_holdoffExpiry (i : StepId) (s : State) : Keeps s (holdoffExpiry i s) := by
  unfold holdoffExpiry
  split
  · exact .after (keeps_settle _) (.calm (.after (calm_modStep fun _ => rfl) (.of_counted rfl)))
  · exact .refl s

theorem keeps_closeConfirmExpiry (i : StepId) (s : State) : Keeps s (closeConfirmExpiry i s) := by
  unfold closeConfirmExpiry
  split
  · split
    · refine .after (keeps_settle _) ?_
      split
      · exact keeps_closeFailure i _ s
      · exact keeps_closeNoIndication i _ s
    · exact .refl s
  · exact .refl s

theorem keeps_openConfirmExpiry (i : StepId) (s : State) : Keeps s (openConfirmExpiry i s) := by
  unfold openConfirmExpiry
  split
  · split
    · exact .after (keeps_settle _) (keeps_openFailure i _ s)
    · exact .refl s
  · exact .refl s

theorem keeps_syncWaitExpiry (s : State) : Keeps s (syncWaitExpiry s) := by
  have ended (t : State) : Keeps t (endAwaiting t) := by
    unfold endAwaiting
    split
    · exact .refl t
    · split
      · exact .calm (calm_abandonClose _ _ _ t)
      · exact .refl t
  unfold syncWaitExpiry
  split
  · exact .after (keeps_settle _) (.after (ended _) (.of_counted rfl))
  · exact .refl s

theorem keeps_settleExpiry (s : State) : Keeps s (settleExpiry s) := by
  unfold settleExpiry
  split
  · exact .after (keeps_settle _) (.of_counted rfl)
  · exact .refl s

theorem keeps_notBeforeElapsed (i : SlotId) (s : State) : Keeps s (notBeforeElapsed i s) := by
  unfold notBeforeElapsed
  split
  · exact .after (keeps_settle _) (.of_counted rfl)
  · exact .refl s

theorem keeps_deadlineExpiry (i : SlotId) (s : State) : Keeps s (deadlineExpiry i s) := by
  unfold deadlineExpiry
  split
  · exact .after (keeps_settle _) (.of_counted rfl)
  · exact .refl s

theorem keeps_returnAll (s : State) : Keeps s (returnAll s) :=
  keeps_forEach (fun i t => by unfold returnDirect; split <;> exact .of_counted rfl) _ s

theorem keeps_setInput (n : InputLine) (f : InputFilter) (s : State) : Keeps s (s.setInput n f) := by
  cases n <;> exact .of_counted rfl

theorem keeps_levelEffect (n : InputLine) (level : Bool) (s : State) : Keeps s (levelEffect n level s) := by
  unfold levelEffect
  split
  · exact .after (keeps_settle _) (keeps_forEach (fun i t => .calm (calm_watchClose i t)) _ s)
  · exact .after (keeps_settle _) (.after (.calm (calm_raise _ _ _)) (.after (keeps_openAll _) (keeps_returnAll s)))
  · exact .calm (calm_endCause _ _ s)
  · exact .refl s
  · unfold permitLoss
    split
    · exact .after (.calm (calm_raise _ _ _)) (keeps_returnAll s)
    · exact .refl s

theorem keeps_levelChange (n : InputLine) (level : Bool) (s : State) : Keeps s (levelChange n level s) := by
  unfold levelChange
  split
  · exact .refl s
  · exact .after (keeps_levelEffect n level _) (keeps_setInput n _ s)

end Sys2Proof.Proofs

namespace Sys2Proof.Proofs

open Sys2Proof.Machine Sys2Proof.Safety Sys2Proof.Laws

/-! ### Settings written with their counters capped -/

/-- Counters that are not raised stay within delays that they are found within. -/
theorem VcOk.capped {y z : YardSettings} {v w : VoltageControl} (h : VcOk y v) (c : VcCalm v w)
    (low : w.lowAcc ≤ z.delayIn * z.nominalFrequency) (high : w.highAcc ≤ z.delayOut * z.nominalFrequency)
    (fast : w.fastAcc ≤ z.fastDelay) (dead : w.deadAcc ≤ z.deadDelay) : VcOk z w := by
  obtain ⟨alone, -, -, -, -, manual⟩ := h.calm c
  exact ⟨alone, low, high, fast, dead, manual⟩

/-- A counter capped to a new delay, or kept where the delay stands. -/
theorem ite_min_le {p : Prop} [Decidable p] {n m b : Nat} (stored : p → m ≤ b) (kept : ¬p → n ≤ b) :
    (if p then min n m else n) ≤ b := by
  split
  · next h => exact (Nat.min_le_right n m).trans (stored h)
  · next h => exact kept h

theorem ite_min_le_self {p : Prop} [Decidable p] (n m : Nat) : (if p then min n m else n) ≤ n := by
  split
  · exact Nat.min_le_left n m
  · exact le_rfl

/-- A stored yard setting caps the counters whose delay it is (R116, R133). -/
theorem keeps_storeYard (y : YardId) (v : Nat) (s : State) : Keeps s (storeYard y v s) := by
  have wrote : yardRead (yardWrite s.cfg.yard y v) y = v := by rw [yardRead_yardWrite, if_pos rfl]
  have kept {z : YardId} (h : ¬y = z) : yardRead (yardWrite s.cfg.yard y v) z = yardRead s.cfg.yard z := by
    rw [yardRead_yardWrite, if_neg (Ne.symm h)]
  have beside : counted (storeYard y v s) = counted { s with
      cfg.yard := yardWrite s.cfg.yard y v, vc := (storeYard y v s).vc, hs := (storeYard y v s).hs } :=
    congrArg counted (storeYard_frame y v s)
  refine .after (.of_counted beside) ⟨fun h => h, fun h => ?_⟩
  obtain ⟨vc, ⟨vCount, iCount, trip⟩, ub, ops⟩ := (countersOk_iff s).mp h
  obtain ⟨-, low, high, fast, dead, -⟩ := id vc
  refine (countersOk_iff _).mpr ⟨?vc, ?hs, ub, ops⟩
  case vc =>
    dsimp only
    rw [storeYard_vc]
    refine vc.capped ⟨rfl, ite_min_le_self _ _, ite_min_le_self _ _, id, id, ite_min_le_self _ _, id, id,
      ite_min_le_self _ _⟩ (ite_min_le (fun _ => le_rfl) fun h => ?_) (ite_min_le (fun _ => le_rfl) fun h => ?_)
      (ite_min_le (fun h => ?_) fun h => ?_) (ite_min_le (fun h => ?_) fun h => ?_)
    · obtain ⟨frequency, delayIn, -⟩ := not_or.mp h |>.imp_right not_or.mp
      exact low.trans (congrArg₂ (· * ·) (kept delayIn) (kept frequency)).ge
    · obtain ⟨frequency, -, delayOut⟩ := not_or.mp h |>.imp_right not_or.mp
      exact high.trans (congrArg₂ (· * ·) (kept delayOut) (kept frequency)).ge
    · subst h
      exact wrote.ge
    · exact fast.trans (kept h).ge
    · subst h
      exact wrote.ge
    · exact dead.trans (kept h).ge
  case hs =>
    dsimp only
    rw [storeYard_hs]
    refine ⟨ite_min_le (fun h => ?_) fun h => ?_, ite_min_le (fun h => ?_) fun h => ?_, ?_⟩
    · subst h
      exact wrote.ge
    · exact vCount.trans (kept h).ge
    · subst h
      exact wrote.ge
    · exact iCount.trans (kept h).ge
    · cases shed : s.hs.shedding
      · rw [shed] at trip
        refine ite_min_le (fun h => ?_) fun h => ?_
        · obtain ⟨rfl, -⟩ := h.resolve_right fun h => absurd h.2 (by decide)
          exact wrote.ge
        · exact Nat.le_trans trip (kept fun e => h (.inl ⟨e, rfl⟩)).ge
      · rw [shed] at trip
        refine ite_min_le (fun h => ?_) fun h => ?_
        · obtain ⟨rfl, -⟩ := h.resolve_left fun h => absurd h.2 (by decide)
          exact wrote.ge
        · exact Nat.le_trans trip (kept fun e => h (.inr ⟨e, rfl⟩)).ge

/-- A per-step setting that is stored goes to the store; OPERATION_COUNT goes to the step record (R58, R196). -/
theorem storeStep_operationCount (i : StepId) (v : Int) (s : State) :
    storeStep i .operationCount v s = s.modStep i fun c => { c with opCount := v.toNat } := rfl

theorem storeStep_eq {p : StepSettingId} (hp : p ≠ .operationCount) (i : StepId) (v : Int) (s : State) :
    storeStep i p v s =
      stepStored p i { s with cfg.perStep := put s.cfg.perStep i (stepSettingWrite (s.stepCfg i) p v) } := by
  cases p
  case operationCount => exact absurd rfl hp
  all_goals rfl

/-- A stored delay caps the step's counter (R152). -/
theorem stepStored_eq (p : StepSettingId) (i : StepId) (s : State) :
    stepStored p i s = s.modUnb i fun u => { u with
      alarmCount := if p = .unbAlarmDelay then min u.alarmCount (s.stepCfg i).unbAlarmDelay else u.alarmCount,
      tripCount := if p = .unbTripDelay then min u.tripCount (s.stepCfg i).unbTripDelay else u.tripCount } := by
  have nothing : s.modUnb i (fun u => u) = s := by
    simp [State.modUnb, put, look]
  cases p
  case unbAlarmDelay | unbTripDelay => rfl
  all_goals exact nothing.symm

/-- The store after a write: the step's own value, the other steps' as they were. -/
theorem stepCfg_put (i j : StepId) (c : StepSettings) (s : State) :
    ({ s with cfg.perStep := put s.cfg.perStep i c } : State).stepCfg j = if j = i then c else s.stepCfg j :=
  look_put _ _ _ _

/-- A stored per-step setting caps the counter whose delay it is; the operation count stops at its limit (R58,
R152, R196). -/
theorem keeps_storeStep (i : StepId) (p : StepSettingId) (x : Int) (s : State) :
    Keeps s (storeStep i p (stepClamp p x) s) := by
  by_cases hp : p = .operationCount
  · subst hp
    rw [storeStep_operationCount]
    refine keeps_modStep rfl fun _ => ?_
    have range := stepClamp_range .operationCount x
    simp only [stepRange] at range
    show (stepClamp .operationCount x).toNat ≤ 65535
    omega
  · rw [storeStep_eq hp, stepStored_eq]
    refine ⟨fun h => h, fun h => ?_⟩
    obtain ⟨vc, hs, ub, ops⟩ := (countersOk_iff s).mp h
    refine (countersOk_iff _).mpr ⟨vc, hs, fun j => ?_, ops⟩
    rw [State.modUnb_unb]
    by_cases e : j = i
    · subst e
      obtain ⟨arm, alarm, trip⟩ := ub j
      rw [if_pos rfl]
      have own := stepCfg_put j j (stepSettingWrite (s.stepCfg j) p (stepClamp p x)) s
      rw [if_pos rfl] at own
      refine ⟨arm, ite_min_le (fun _ => le_rfl) fun h => ?_, ite_min_le (fun _ => le_rfl) fun h => ?_⟩
      · refine alarm.trans (Eq.ge ?_)
        refine (congrArg StepSettings.unbAlarmDelay own).trans ?_
        cases p <;> first | rfl | exact absurd rfl h
      · refine trip.trans (Eq.ge ?_)
        refine (congrArg StepSettings.unbTripDelay own).trans ?_
        cases p <;> first | rfl | exact absurd rfl h
    · have other := stepCfg_put i j (stepSettingWrite (s.stepCfg i) p (stepClamp p x)) s
      rw [if_neg e] at other
      rw [if_neg e]
      exact other.symm ▸ ub j

/-- Voltage control and the supervisor with every counter capped to new delays (R197). -/
def cappedTo (c : Settings) (s : State) : State :=
  capHarmTrip (capHarmAlarm (capDead (capFast (capBand { s with cfg := c }))))

theorem cappedTo_ok {c : Settings} {s : State} (vc : VcOk s.cfg.yard s.vc) :
    VcOk c.yard (cappedTo c s).vc ∧ HarmonicOk c.yard (cappedTo c s).hs :=
  ⟨vc.capped
    ⟨rfl, Nat.min_le_left _ _, Nat.min_le_left _ _, id, id, Nat.min_le_left _ _, id, id, Nat.min_le_left _ _⟩
    (Nat.min_le_right _ _) (Nat.min_le_right _ _) (Nat.min_le_right _ _) (Nat.min_le_right _ _),
    Nat.min_le_right _ _, Nat.min_le_right _ _, Nat.min_le_right _ _⟩

theorem cappedTo_rest (c : Settings) (s : State) :
    (cappedTo c s).tbl = s.tbl ∧ (cappedTo c s).cfg = c ∧ (cappedTo c s).ub = s.ub := by
  simp [cappedTo, capHarmTrip, capHarmAlarm, capDead, capFast, capBand]

/-- The work of DEFAULT_SETTINGS (R197). -/
theorem defaultSettings_eq (s : State) :
    defaultSettings s = { cappedTo Settings.default s with
      ub := (cappedTo Settings.default s).ub.map (capUnbalance StepSettings.default) } := by
  unfold defaultSettings cappedTo
  rfl

/-- The defaults are stored with every counter capped (R197). -/
theorem keeps_defaultSettings (s : State) : Keeps s (defaultSettings s) := by
  obtain ⟨tbl, cfg, ub⟩ := cappedTo_rest Settings.default s
  have caps (vc : VcOk s.cfg.yard s.vc) := cappedTo_ok (c := Settings.default) vc
  rw [defaultSettings_eq]
  generalize cappedTo Settings.default s = t at *
  have recs (j : StepId) : t.stepRec j = s.stepRec j := by rw [State.stepRec, tbl]; rfl
  refine ⟨(closedOrderOk_congr (congrArg StepTable.closedOrder tbl) fun j => congrArg Laws.core (recs j)).mpr,
    fun h => ?_⟩
  obtain ⟨vc, -, units, ops⟩ := (countersOk_iff s).mp h
  obtain ⟨vcOk, hsOk⟩ := caps vc
  refine (countersOk_iff _).mpr ⟨by rw [cfg]; exact vcOk, by rw [cfg]; exact hsOk, fun j => ?_, fun j => ?_⟩
  · have capped : look (t.ub.map (capUnbalance StepSettings.default)) j =
        capUnbalance StepSettings.default (s.unb j) := by rw [look_map, ub]; rfl
    have default : t.stepCfg j = StepSettings.default := by rw [State.stepCfg, cfg]; exact look_replicate _ j
    show UnbOk (t.stepCfg j) (look (t.ub.map (capUnbalance StepSettings.default)) j)
    rw [capped, default]
    exact ⟨(units j).1, Nat.min_le_right _ _, Nat.min_le_right _ _⟩
  · exact (congrArg StepRec.opCount (recs j)).symm ▸ ops j

end Sys2Proof.Proofs

namespace Sys2Proof.Proofs

open Sys2Proof.Machine Sys2Proof.Safety Sys2Proof.Laws

/-! ### Requests keep list and counters -/

/-- A request keeps what its work keeps, whether it is taken, answered by a filler frame or ignored (R190, R191,
R203). -/
theorem keeps_takeRequest {work : Handler} (hw : ∀ s, Keeps s (work s).1) (code tag : Byte) (s : State) :
    Keeps s (takeRequest code tag work s) := by
  unfold takeRequest
  split
  · exact .of_counted rfl
  · split
    · have worked := (hw (consume s)).after (Keeps.of_counted (s := s) rfl)
      exact ⟨fun h => worked.order h, fun h => worked.counters h⟩
    · exact .of_counted rfl

/-- A refusal draws free bytes (log 9). -/
theorem keeps_refuseOpen (st : Status) (echo : List Byte) (n : Nat) (s : State) :
    Keeps s (refuseOpen st echo n s).1 := .of_counted rfl

theorem keeps_readStep (step page : Byte) (s : State) : Keeps s (readStep step page s).1 := by
  unfold readStep
  (repeat' split) <;> exact .of_counted rfl

theorem keeps_readChannel (channel page : Byte) (s : State) : Keeps s (readChannel channel page s).1 := by
  unfold readChannel
  (repeat' split) <;> exact .of_counted rfl

theorem keeps_readYard (page : Byte) (s : State) : Keeps s (readYard page s).1 := by
  unfold readYard
  (repeat' split) <;> exact .refl s

theorem keeps_readSetting (ident : Byte) (s : State) : Keeps s (readSetting ident s).1 := by
  unfold readSetting
  split <;> exact .of_counted rfl

theorem keeps_writeSetting (ident : Byte) (value : Word) (s : State) : Keeps s (writeSetting ident value s).1 := by
  unfold writeSetting
  split
  · exact keeps_refuseOpen _ _ _ s
  · dsimp only
    split
    · exact keeps_storeYard _ _ s
    · exact .refl s

theorem keeps_readStepSetting (step ident : Byte) (s : State) : Keeps s (readStepSetting step ident s).1 := by
  unfold readStepSetting
  split <;> exact .of_counted rfl

theorem keeps_writeStepSetting (step ident : Byte) (value : Word) (s : State) :
    Keeps s (writeStepSetting step ident value s).1 := by
  unfold writeStepSetting
  split
  · dsimp only
    split
    · exact keeps_storeStep _ _ _ s
    · exact .refl s
  · exact keeps_refuseOpen _ _ _ s

theorem keeps_requestMode (mode : Byte) (s : State) : Keeps s (requestMode mode s).1 := by
  unfold requestMode
  split
  · exact keeps_setMode false s
  · split
    · exact keeps_setMode true s
    · exact .refl s

theorem keeps_readAlarm (index : Byte) (s : State) : Keeps s (readAlarm index s).1 := by
  unfold readAlarm
  split <;> exact .refl s

theorem keeps_ackAlarm (kind subject : Byte) (s : State) : Keeps s (ackAlarm kind subject s).1 := by
  unfold ackAlarm
  dsimp only
  (repeat' split) <;> exact .of_counted rfl

theorem keeps_byHandle {work : SlotId → State → State × Answer} (hw : ∀ i s, Keeps s (work i s).1)
    (slot gen : Byte) (s : State) : Keeps s (byHandle slot gen work s).1 := by
  unfold byHandle
  split
  · exact .refl s
  · split
    · exact hw _ s
    · exact .refl s

theorem keeps_takeSlot (s : State) : Keeps s (takeSlot s).1 := by
  unfold takeSlot
  split <;> exact .of_counted rfl

theorem keeps_fillSlot (kind step timing : Byte) (notBefore deadline : Half) (i : SlotId) (s : State) :
    Keeps s (fillSlot kind step timing notBefore deadline i s).1 := by
  unfold fillSlot
  split <;> exact .of_counted rfl

theorem keeps_postSlot (i : SlotId) (s : State) : Keeps s (postSlot i s).1 := by
  unfold postSlot
  split
  · exact .refl s
  · split
    · exact .refl s
    · split
      · exact .refl s
      · exact .after (keeps_settle (placeOrder i s)) (.of_counted rfl)

theorem keeps_withdrawSlot (i : SlotId) (s : State) : Keeps s (withdrawSlot i s).1 := by
  unfold withdrawSlot
  split
  · exact .after (keeps_settle (finishSlot i .withdrawn none (leavePosted i s))) (.of_counted rfl)
  · exact .refl s
  · exact .refl s

theorem keeps_retireSlot (i : SlotId) (s : State) : Keeps s (retireSlot i s).1 := by
  unfold retireSlot
  split <;> exact .of_counted rfl

theorem keeps_readOrder (mode slot generation page : Byte) (s : State) :
    Keeps s (readOrder mode slot generation page s).1 := by
  unfold readOrder
  (repeat' split) <;> exact .of_counted rfl

theorem keeps_stageLines (step close trip : Byte) (s : State) : Keeps s (stageLines step close trip s).1 := by
  unfold stageLines
  split <;> exact .of_counted rfl

/-- Who commanded a step last decides on neither promise (R183). -/
theorem calm_noteDirect (i : StepId) (rises : Bool) (s : State) : Calm s (noteDirect i rises s) := by
  unfold noteDirect
  split
  · exact calm_modStep fun _ => rfl
  · exact .refl s

theorem keeps_handover (step : Byte) (s : State) : Keeps s (handover step s).1 := by
  unfold handover
  split
  · exact keeps_refuseOpen _ _ _ s
  · next i _ =>
    split
    · show Keeps s (if (s.lines i).direct then s else becomeDirect i s)
      split
      · exact .refl s
      · exact .calm (.after (calm_noteDirect i _ _) (.of_counted rfl))
    · exact .refl s

theorem keeps_driveLines (step close trip : Byte) (s : State) : Keeps s (driveLines step close trip s).1 := by
  unfold driveLines
  split
  · exact .refl s
  · split
    · exact .calm (.after (calm_noteDirect _ _ _) (.of_counted rfl))
    · exact .refl s

theorem keeps_returnLines (step : Byte) (s : State) : Keeps s (returnLines step s).1 := by
  unfold returnLines giveBack returnDirect
  dsimp only
  (repeat' split) <;> exact .of_counted rfl

theorem keeps_frameAbort (bits : Nat) (s : State) : Keeps s (frameAbort bits s) := by
  unfold frameAbort
  (repeat' split) <;> exact .of_counted rfl

theorem keeps_fillerFrame (s : State) : Keeps s (fillerFrame s) := by
  unfold fillerFrame
  (repeat' split) <;> exact .of_counted rfl

theorem keeps_responseLoad (s : State) : Keeps s (responseLoad s) := by
  unfold responseLoad
  split <;> exact .of_counted rfl

/-! ### Every command and every step keeps list and counters -/

/-- A command outside reset keeps what its effect keeps; while RESET is held it has none. -/
theorem keeps_live {f : State → State} {s t : State} (run : live s f = .next t) (hf : ∀ s, Keeps s (f s)) :
    Keeps s t := by
  cases run
  split
  · exact .refl s
  · exact hf s

/-- Every command keeps list and counters. -/
theorem exec_keeps (c : Instr) {s t : State} (run : exec c s = .next t) : Keeps s t := by
  cases c with
  | resetAssert =>
    cases run
    exact .of_counted rfl
  | resetRelease pins =>
    cases run
    exact ⟨fun _ => released_closedOrderOk pins s.pending s.freeDraws s.extraBits,
      fun _ => released_countersOk pins s.pending s.freeDraws s.extraBits⟩
  | frameEnd f => exact keeps_live run (keeps_frameEnd f)
  | scheduledClosePulse => exact keeps_live run keeps_scheduledPulse
  | windowTimerExpiry => exact keeps_live run fun _ => .of_counted rfl
  | feedTimerExpiry => exact keeps_live run keeps_feedExpiry
  | windowEnd => exact keeps_live run keeps_takeWindowEnd
  | publication => exact keeps_live run keeps_publish
  | vcEvaluation => exact keeps_live run keeps_vcEvaluate
  | harmonicEvaluation => exact keeps_live run keeps_hsEvaluate
  | unbalanceEvaluation => exact keeps_live run keeps_ubEvaluate
  | cooldownExpiry i => exact keeps_live run (keeps_cooldownExpiry i)
  | holdoffExpiry i => exact keeps_live run (keeps_holdoffExpiry i)
  | closePulseEnd i => exact keeps_live (f := fun s => s.modLane i _) run fun _ => .of_counted rfl
  | tripPulseEnd i => exact keeps_live (f := fun s => s.modLane i _) run fun _ => .of_counted rfl
  | closeConfirmExpiry i => exact keeps_live run (keeps_closeConfirmExpiry i)
  | openConfirmExpiry i => exact keeps_live run (keeps_openConfirmExpiry i)
  | yardTripEnd => exact keeps_live (f := fun s => { s with seq.yardTrip := 0 }) run fun _ => .of_counted rfl
  | syncWaitExpiry => exact keeps_live run keeps_syncWaitExpiry
  | settleExpiry => exact keeps_live run keeps_settleExpiry
  | resonanceWatchExpiry => exact keeps_live (f := fun s => { s with hs.watch := none }) run fun _ => .of_counted rfl
  | notBeforeElapsed i => exact keeps_live run (keeps_notBeforeElapsed i)
  | deadlineExpiry i => exact keeps_live run (keeps_deadlineExpiry i)
  | inputLevelChange n level => exact keeps_live run (keeps_levelChange n level)
  | frameAbort bits => exact keeps_live run (keeps_frameAbort bits)
  | fillerFrame => exact keeps_live run keeps_fillerFrame
  | responseLoad => exact keeps_live run keeps_responseLoad
  | badCode code tag => exact keeps_live run (keeps_takeRequest (fun _ => .refl _) _ tag)
  | poll tag => exact keeps_live run (keeps_takeRequest (fun _ => .refl _) _ tag)
  | readIdent tag => exact keeps_live run (keeps_takeRequest (fun _ => .refl _) _ tag)
  | readStep tag step page => exact keeps_live run (keeps_takeRequest (keeps_readStep step page) _ tag)
  | readChannel tag channel page =>
    exact keeps_live run (keeps_takeRequest (keeps_readChannel channel page) _ tag)
  | readYard tag page => exact keeps_live run (keeps_takeRequest (keeps_readYard page) _ tag)
  | readSetting tag ident => exact keeps_live run (keeps_takeRequest (keeps_readSetting ident) _ tag)
  | writeSetting tag ident value =>
    exact keeps_live run (keeps_takeRequest (keeps_writeSetting ident value) _ tag)
  | readStepSetting tag step ident =>
    exact keeps_live run (keeps_takeRequest (keeps_readStepSetting step ident) _ tag)
  | writeStepSetting tag step ident value =>
    exact keeps_live run (keeps_takeRequest (keeps_writeStepSetting step ident value) _ tag)
  | defaultSettings tag => exact keeps_live run (keeps_takeRequest (keeps_defaultSettings) _ tag)
  | setMode tag mode => exact keeps_live run (keeps_takeRequest (keeps_requestMode mode) _ tag)
  | readAlarm tag index => exact keeps_live run (keeps_takeRequest (keeps_readAlarm index) _ tag)
  | ackAlarm tag kind subject => exact keeps_live run (keeps_takeRequest (keeps_ackAlarm kind subject) _ tag)
  | ackAll tag => exact keeps_live run (keeps_takeRequest (fun _ => .of_counted rfl) _ tag)
  | takeSlot tag => exact keeps_live run (keeps_takeRequest (keeps_takeSlot) _ tag)
  | fillOrder tag slot generation kind step timing notBefore deadline =>
    exact keeps_live run
      (keeps_takeRequest (keeps_byHandle (keeps_fillSlot kind step timing notBefore deadline) slot generation) _ tag)
  | postOrder tag slot generation =>
    exact keeps_live run (keeps_takeRequest (keeps_byHandle keeps_postSlot slot generation) _ tag)
  | withdrawOrder tag slot generation =>
    exact keeps_live run (keeps_takeRequest (keeps_byHandle keeps_withdrawSlot slot generation) _ tag)
  | retireOrder tag slot generation =>
    exact keeps_live run (keeps_takeRequest (keeps_byHandle keeps_retireSlot slot generation) _ tag)
  | readOrder tag mode slot generation page =>
    exact keeps_live run (keeps_takeRequest (keeps_readOrder mode slot generation page) _ tag)
  | stageLines tag step close trip =>
    exact keeps_live run (keeps_takeRequest (keeps_stageLines step close trip) _ tag)
  | handover tag step => exact keeps_live run (keeps_takeRequest (keeps_handover step) _ tag)
  | driveLines tag step close trip =>
    exact keeps_live run (keeps_takeRequest (keeps_driveLines step close trip) _ tag)
  | returnLines tag step => exact keeps_live run (keeps_takeRequest (keeps_returnLines step) _ tag)
  | readLines tag => exact keeps_live run (keeps_takeRequest (fun _ => .refl _) _ tag)
  | firstFrameSync => exact keeps_live run keeps_firstSync

/-- A property that every command keeps, and that queue, countdowns and input filters do not touch, is kept by every
step: a step is a command, or a tick, whose expiries and level changes are commands (log 1, log 2, log 4). -/
theorem step_invariant {P : State → Prop} (command : ∀ c s t, P s → exec c s = .next t → P t)
    (queue : ∀ s rest, P s → P { s with pending := rest }) (counts : ∀ s, P s → P (countDown s))
    (filter : ∀ n f s, P s → P (s.setInput n f)) {s t : State} (h : P s) (run : step s = .next t) : P t := by
  have expiry (c : Instr) (s t : State) (h : P s) (run : takeExpiry c s = .next t) : P t := by
    unfold takeExpiry at run
    split at run
    · exact command c s t h run
    · cases run
      exact h
  have sampled (n : InputLine) (s t : State) (h : P s) (run : sampleInput n s = .next t) : P t := by
    unfold sampleInput at run
    dsimp only at run
    split at run
    · exact command _ s t h run
    · cases run
      exact filter n _ s h
  have ticked (run : tick s = .next t) : P t := by
    refine andThen_invariant (fun u => inTurn_invariant expiry _ (counts s h)) (fun u t hu => ?_) run
    refine andThen_invariant (fun v => sampled .inp0 u v hu) fun v t hv => ?_
    exact andThen_invariant (fun w => sampled .inp1 v w hv) fun w t hw => sampled .inp2 w t hw
  unfold step at run
  split at run
  · unfold idle at run
    split at run
    · cases run
      exact h
    · split at run
      · exact command _ s t h run
      · exact ticked run
  · exact command _ _ t (queue s _ h) run

/-- Every step keeps list and counters. -/
theorem step_keeps {s t : State} (run : step s = .next t) : Keeps s t :=
  step_invariant (P := Keeps s) (fun c _ _ h run => (exec_keeps c run).after h) (fun u rest h =>
    (Keeps.of_counted (s := u) (t := { u with pending := rest }) rfl).after h)
    (fun u h => (Keeps.of_counted (s := u) (t := countDown u) rfl).after h)
    (fun n f u h => (keeps_setInput n f u).after h) (.refl s) run

/-- Settles O8: every step keeps the closed-order list (R59). -/
theorem closedOrderListHoldsServingSteps : Obligations.ClosedOrderListHoldsServingSteps := by
  unfold Obligations.ClosedOrderListHoldsServingSteps
  exact fun s t h run => (step_keeps run).order h

/-- Settles O13: every step keeps every counter within its delay. -/
theorem countersStayWithinTheirDelays : Obligations.CountersStayWithinTheirDelays := by
  unfold Obligations.CountersStayWithinTheirDelays
  exact fun s t h run => (step_keeps run).counters h

end Sys2Proof.Proofs

namespace Sys2Proof.Proofs

open Sys2Proof.Machine Sys2Proof.Safety Sys2Proof.Laws

/-! ### The choice of a candidate (R104) -/

/-- A step comes before another in the choice of an add candidate: fewer operations, or as many and a lower or equal
number (R104). -/
def Before (s : State) (i j : StepId) : Prop :=
  (s.stepRec i).opCount < (s.stepRec j).opCount ∨ ((s.stepRec i).opCount = (s.stepRec j).opCount ∧ i ≤ j)

/-- The choice among the steps looked at so far. -/
def BestOf (s : State) (seen : StepId → Prop) : Option StepId → Prop
  | none => ∀ j, seen j → isAddCandidate s j = false
  | some b => seen b ∧ isAddCandidate s b = true ∧ ∀ j, seen j → isAddCandidate s j = true → Before s b j

theorem Before.refl (s : State) (i : StepId) : Before s i i := .inr ⟨rfl, le_rfl⟩

theorem Before.trans {s : State} {i j k : StepId} (a : Before s i j) (b : Before s j k) : Before s i k := by
  obtain fewer | ⟨same, le⟩ := a <;> obtain fewer' | ⟨same', le'⟩ := b
  · exact .inl (fewer.trans fewer')
  · exact .inl (same' ▸ fewer)
  · exact .inl (same ▸ fewer')
  · exact .inr ⟨same.trans same', le.trans le'⟩

theorem Before.antisymm {s : State} {i j : StepId} (a : Before s i j) (b : Before s j i) : i = j := by
  obtain fewer | ⟨same, le⟩ := a <;> obtain fewer' | ⟨same', le'⟩ := b
  · exact absurd fewer fewer'.asymm
  · exact absurd fewer (same' ▸ lt_irrefl _)
  · exact absurd fewer' (same ▸ lt_irrefl _)
  · exact le_antisymm le le'

/-- One more step, of a higher number than those looked at, is looked at. -/
theorem betterAdd_best {s : State} {seen : StepId → Prop} {best : Option StepId} {i : StepId}
    (h : BestOf s seen best) (above : ∀ j, seen j → j < i) :
    BestOf s (fun j => seen j ∨ j = i) (betterAdd s best i) := by
  unfold betterAdd
  cases hc : isAddCandidate s i
  · rw [if_neg Bool.false_ne_true]
    cases best with
    | none => exact fun j hj => hj.elim (h j) fun e => e ▸ hc
    | some b =>
      obtain ⟨hs, hb, first⟩ := h
      exact ⟨.inl hs, hb, fun j hj cj => hj.elim (first j · cj) fun e => by rw [e, hc] at cj; cases cj⟩
  · rw [if_pos rfl]
    cases best with
    | none =>
      refine ⟨.inr rfl, hc, fun j hj cj => hj.elim (fun seen => ?_) fun e => e ▸ .refl s j⟩
      rw [h j seen] at cj
      cases cj
    | some b =>
      obtain ⟨hs, hb, first⟩ := h
      dsimp only
      split
      · next fewer =>
        refine ⟨.inr rfl, hc, fun j hj cj => hj.elim (fun seen => ?_) fun e => e ▸ .refl s j⟩
        exact Before.trans (.inl fewer) (first j seen cj)
      · next more =>
        refine ⟨.inl hs, hb, fun j hj cj => hj.elim (first j · cj) fun e => ?_⟩
        subst e
        exact (Nat.lt_or_eq_of_le (Nat.le_of_not_lt more)).imp id fun same => ⟨same, (above b hs).le⟩

/-- The steps of an ascending list are looked at. -/
theorem foldl_betterAdd_best {s : State} {l : List StepId} (ascending : l.Pairwise (· < ·)) {seen : StepId → Prop}
    {best : Option StepId} (h : BestOf s seen best) (above : ∀ j, seen j → ∀ i ∈ l, j < i) :
    BestOf s (fun j => seen j ∨ j ∈ l) (l.foldl (betterAdd s) best) := by
  induction l generalizing seen best with
  | nil => simpa using h
  | cons i l ih =>
    obtain ⟨lowest, ascending⟩ := List.pairwise_cons.mp ascending
    have next := betterAdd_best h fun j hj => above j hj i List.mem_cons_self
    have all := ih ascending next fun j hj k hk => hj.elim (above j · k (List.mem_cons_of_mem i hk)) fun e =>
      e ▸ lowest k hk
    simpa only [List.foldl_cons, List.mem_cons, or_assoc] using all

/-- The add candidate chosen is the best of all steps (R104). -/
theorem addCandidate_best (s : State) : BestOf s (fun _ => True) (addCandidate s) := by
  have every : ∀ j, j ∈ allSteps := by decide
  have ascending : allSteps.Pairwise (· < ·) := by decide
  have all := foldl_betterAdd_best (s := s) ascending (seen := fun _ => False) (best := none) nofun nofun
  simp only [every, or_true] at all
  exact all

/-- A step is an add candidate when it is eligible and the predicted voltage stays within the band in force (R57,
R103, R104, R116). -/
theorem isAddCandidate_iff (s : State) (i : StepId) :
    isAddCandidate s i = true ↔
      (s.stepRec i).retired = false ∧ (s.stepRec i).state = .opened ∧ (s.lines i).direct = false ∧
      (s.stepRec i).cooling = false ∧ (s.stepRec i).holdoff = false ∧ (s.stepRec i).lockout = none ∧
      (s.stepRec i).hold = false ∧
      s.vc.vctrl + (s.stepCfg i).rating * s.cfg.yard.sensitivity / 100 + s.cfg.yard.margin ≤ s.vc.bandHigh := by
  simp only [isAddCandidate, eligible, predictedChange, Bool.and_eq_true, Bool.not_eq_true', decide_eq_true_iff,
    Option.isNone_iff_eq_none, and_assoc]
  iterate 7 refine and_congr_right' ?_
  exact ⟨of_decide_eq_true, decide_eq_true⟩

/-- A step is a remove candidate when it is CLOSED without HOLD and the predicted voltage stays within the band in
force (R103, R104, R116). -/
theorem isRemoveCandidate_iff (s : State) (i : StepId) :
    isRemoveCandidate s i = true ↔
      (s.stepRec i).state = .closed ∧ (s.stepRec i).hold = false ∧
      s.vc.bandLow + s.cfg.yard.margin + (s.stepCfg i).rating * s.cfg.yard.sensitivity / 100 ≤ s.vc.vctrl := by
  simp only [isRemoveCandidate, predictedChange, Bool.and_eq_true, Bool.not_eq_true', decide_eq_true_iff, and_assoc]
  iterate 2 refine and_congr_right' ?_
  exact ⟨of_decide_eq_true, decide_eq_true⟩

/-- Settles O26: the fold over the steps keeps the best add candidate; the remove candidate is found in list order. -/
theorem selectionTakesTheBestCandidate : Obligations.SelectionTakesTheBestCandidate := by
  unfold Obligations.SelectionTakesTheBestCandidate
  intro s
  dsimp only
  simp only [← isAddCandidate_iff, ← isRemoveCandidate_iff]
  have best := addCandidate_best s
  refine ⟨⟨fun h i => ?_, fun h => ?_⟩, fun i => ⟨fun h => ?_, fun ⟨ci, first⟩ => ?_⟩, ?_, fun i h => ?_⟩
  · rw [h] at best
    exact ne_true_of_eq_false (best i trivial)
  · cases hc : addCandidate s with
    | none => rfl
    | some b =>
      rw [hc] at best
      exact absurd best.2.1 (h b)
  · rw [h] at best
    exact ⟨best.2.1, fun j => best.2.2 j trivial⟩
  · cases hc : addCandidate s with
    | none =>
      rw [hc] at best
      exact absurd ci (ne_true_of_eq_false (best i trivial))
    | some b =>
      rw [hc] at best
      obtain ⟨-, cb, least⟩ := best
      exact congrArg some (Before.antisymm (least i trivial ci) (first b cb))
  · simp [removeCandidate]
  · obtain ⟨ci, before, after, list, earlier⟩ := List.find?_eq_some_iff_append.mp h
    exact ⟨before, after, list, ci, fun j hj => by simpa using earlier j hj⟩

/-! ### The resonance suspect mark (R60) -/

/-- Settles O29: both branches of the mark. -/
theorem suspectMarkMovesToTheHead : Obligations.SuspectMarkMovesToTheHead := by
  unfold Obligations.SuspectMarkMovesToTheHead
  intro i s
  dsimp only
  split
  · next applies =>
    obtain ⟨service, closed, listed⟩ := applies
    have marked : markSuspect i s = ({ s.modStep i fun c => { c with suspect := true } with
        tbl.closedOrder := i :: s.tbl.closedOrder.filter (· ≠ i) }, true) := by
      simp [markSuspect, service, closed, listed]
    rw [marked]
    refine ⟨rfl, rfl, (State.modStep_stepRec_self i (fun c => { c with suspect := true }) s : _),
      fun j hj => ?_, rfl, fun rest head fresh => ?_⟩
    · exact (State.modStep_stepRec i j (fun c => { c with suspect := true }) s).trans (if_neg hj)
    · show i :: s.tbl.closedOrder.filter (· ≠ i) = s.tbl.closedOrder
      rw [head, List.filter_cons_of_neg (by simp), List.filter_eq_self.mpr]
      exact fun j hj => decide_eq_true fun e => fresh (e ▸ hj)
  · next refused =>
    have closed : (!(s.stepRec i).retired && decide ((s.stepRec i).state = .closed) &&
        decide (i ∈ s.tbl.closedOrder)) = false := by
      simpa [and_assoc] using refused
    simp only [markSuspect, closed, Bool.false_eq_true, if_false]

end Sys2Proof.Proofs

namespace Sys2Proof.Proofs

open Sys2Proof.Machine Sys2Proof.Safety Sys2Proof.Laws

/-! ### READ_STEP_SETTING and WRITE_STEP_SETTING (R196) -/

/-- A step byte in range names its step. -/
theorem stepOfByte_of_val {a : Byte} {i : StepId} (h : a.toNat = i.val) : stepOfByte a = some i := by
  have range : a.toNat < 8 := h ▸ i.isLt
  rw [stepOfByte, dif_pos range]
  exact congrArg some (Fin.ext h)

/-- A step byte out of range names none. -/
theorem stepOfByte_of_ge {a : Byte} (h : 8 ≤ a.toNat) : stepOfByte a = none := dif_neg (Nat.not_lt.mpr h)

/-- The value a write stores, by its limits (R196 step 1). -/
theorem stepClamp_eq (p : StepSettingId) (v : Int) :
    stepClamp p v = max (stepRange p).1 (min (stepRange p).2 v) := clampInt_eq (stepRange_le p) v

/-- The two unbalance levels have to agree, whichever is written (R151). -/
theorem stepConsistent_iff (c : StepSettings) (p : StepSettingId) (v : Int) :
    stepConsistent c p v = true ↔
      ¬((p = .unbAlarm ∧ (c.unbTrip : Int) ≤ v) ∨ (p = .unbTrip ∧ v ≤ (c.unbAlarm : Int))) := by
  cases p <;> simp [stepConsistent]

/-- A step, an identifier and a value of four bytes are followed by seven 0 bytes (R192). -/
theorem pad13_stepValue (a ident : Byte) (v : Int) :
    pad13 (a :: ident :: sbe32 v) = [a, ident] ++ sbe32 v ++ List.replicate 7 0 := rfl

/-- A step, an identifier and four free bytes are followed by seven 0 bytes (R192, log 9). -/
theorem pad13_stepUnstated (a ident : Byte) (k : Nat) :
    pad13 ([a, ident] ++ unstated k 4) = a :: ident :: (unstated k 4 ++ List.replicate 7 0) := rfl

section
variable {tag a ident : Byte} {s : State} {i : StepId} {p : StepSettingId}

/-- The answer to READ_STEP_SETTING on a step and an identifier of the table. -/
theorem exec_readStepSetting (hr : Ready s) (hi : a.toNat = i.val) (hp : stepSettingIdOf ident = some p) :
    exec (.readStepSetting tag a ident) s = .next (respond 0x08 tag .ok
      ([a, ident] ++ sbe32 (stepSettingRead (s.stepCfg i) (s.stepRec i).opCount p) ++ List.replicate 7 0)
      (consume s)) := by
  refine (live_takeRequest hr 0x08 tag (readStepSetting a ident)).trans ?_
  rw [readStepSetting, stepOfByte_of_val hi, hp, ← pad13_stepValue]
  rfl

/-- The answer to WRITE_STEP_SETTING on a step and an identifier of the table, by the check of R196 step 2. -/
theorem exec_writeStepSetting (value : Word) (hr : Ready s) (hi : a.toNat = i.val)
    (hp : stepSettingIdOf ident = some p) :
    exec (.writeStepSetting tag a ident value) s =
      if stepConsistent (s.stepCfg i) p (stepClamp p value.toInt) then
        .next (respond 0x09 tag (clampStatus value.toInt (stepClamp p value.toInt))
          ([a, ident] ++ sbe32 (stepClamp p value.toInt) ++ List.replicate 7 0)
          (storeStep i p (stepClamp p value.toInt) (consume s)))
      else
        .next (respond 0x09 tag .inconsistent
          ([a, ident] ++ sbe32 (stepSettingRead (s.stepCfg i) (s.stepRec i).opCount p) ++ List.replicate 7 0)
          (consume s)) := by
  refine (live_takeRequest hr 0x09 tag (writeStepSetting a ident value)).trans ?_
  rw [writeStepSetting, stepOfByte_of_val hi, hp, ← pad13_stepValue, ← pad13_stepValue]
  dsimp only
  split
  · next agrees => exact (if_pos agrees).symm
  · next differs => exact (if_neg differs).symm

/-- A step or an identifier that is not there is refused, its value bytes free (log 9). -/
theorem exec_stepSetting_refused (value : Word) (hr : Ready s) (h : 8 ≤ a.toNat ∨ stepSettingIdOf ident = none) :
    exec (.readStepSetting tag a ident) s = .next (respond 0x08 tag .badArg
      (a :: ident :: (unstated s.freeDraws 4 ++ List.replicate 7 0)) { consume s with freeDraws := s.freeDraws + 1 }) ∧
    exec (.writeStepSetting tag a ident value) s = .next (respond 0x09 tag .badArg
      (a :: ident :: (unstated s.freeDraws 4 ++ List.replicate 7 0))
      { consume s with freeDraws := s.freeDraws + 1 }) := by
  have unnamed : ∀ i p, stepOfByte a = some i → stepSettingIdOf ident = some p → False := fun i p hi hp =>
    h.elim (fun high => by rw [stepOfByte_of_ge high] at hi; cases hi) fun none => by rw [none] at hp; cases hp
  have read : readStepSetting a ident (consume s) = refuseOpen .badArg [a, ident] 4 (consume s) := by
    unfold readStepSetting
    split
    · next i p hi hp => exact (unnamed i p hi hp).elim
    · rfl
  have write : writeStepSetting a ident value (consume s) = refuseOpen .badArg [a, ident] 4 (consume s) := by
    unfold writeStepSetting
    split
    · next i p hi hp => exact (unnamed i p hi hp).elim
    · rfl
  constructor
  · refine (live_takeRequest hr 0x08 tag (readStepSetting a ident)).trans ?_
    rw [read, compose_refuseOpen, pad13_stepUnstated]
    rfl
  · refine (live_takeRequest hr 0x09 tag (writeStepSetting a ident value)).trans ?_
    rw [write, compose_refuseOpen, pad13_stepUnstated]
    rfl

end

/-- What storing a per-step value does (R58, R152, R196). -/
structure StepStored (i : StepId) (p : StepSettingId) (v : Int) (s t : State) : Prop where
  frame : t = { s with cfg.perStep := t.cfg.perStep, tbl.recs := t.tbl.recs, ub := t.ub }
  own : stepSettingRead (t.stepCfg i) (t.stepRec i).opCount p = v
  rest : ∀ q, q ≠ p → stepSettingRead (t.stepCfg i) (t.stepRec i).opCount q =
    stepSettingRead (s.stepCfg i) (s.stepRec i).opCount q
  others : ∀ j, j ≠ i → t.stepCfg j = s.stepCfg j ∧ t.stepRec j = s.stepRec j ∧ t.unb j = s.unb j
  record : t.stepRec i = { s.stepRec i with opCount := (t.stepRec i).opCount }
  capped : t.unb i = { s.unb i with
    alarmCount := if p = .unbAlarmDelay then min (s.unb i).alarmCount v.toNat else (s.unb i).alarmCount,
    tripCount := if p = .unbTripDelay then min (s.unb i).tripCount v.toNat else (s.unb i).tripCount }

/-- OPERATION_COUNT is stored in the step record (R58). -/
theorem storeStep_count (i : StepId) {v : Int} (low : 0 ≤ v) (s : State) :
    StepStored i .operationCount v s (storeStep i .operationCount v s) := by
  rw [storeStep_operationCount]
  have own := State.modStep_stepRec_self i (fun c => { c with opCount := v.toNat }) s
  refine ⟨rfl, ?_, fun q hq => ?_, fun j hj => ⟨rfl, ?_, rfl⟩, ?_, rfl⟩
  · rw [own]
    exact Int.toNat_of_nonneg low
  · cases q
    case operationCount => exact absurd rfl hq
    all_goals rfl
  · rw [State.modStep_stepRec, if_neg hj]
  · rw [own]

/-- Any other setting is stored in the store, and caps the counter whose delay it is (R152). -/
theorem storeStep_setting (i : StepId) {p : StepSettingId} (hp : p ≠ .operationCount) {v : Int}
    (low : (stepRange p).1 ≤ v) (s : State) : StepStored i p v s (storeStep i p v s) := by
  rw [storeStep_eq hp, stepStored_eq]
  have cfg (j : StepId) := stepCfg_put i j (stepSettingWrite (s.stepCfg i) p v) s
  have read (q : StepSettingId) := stepSettingRead_write (s.stepCfg i) (s.stepRec i).opCount hp q low
  refine ⟨rfl, ?_, fun q hq => ?_, fun j hj => ⟨?_, rfl, ?_⟩, rfl, ?_⟩
  · refine Eq.trans ?_ ((read p).trans (if_pos rfl))
    exact congrArg (stepSettingRead · (s.stepRec i).opCount p) ((cfg i).trans (if_pos rfl))
  · refine Eq.trans ?_ ((read q).trans (if_neg hq))
    exact congrArg (stepSettingRead · (s.stepRec i).opCount q) ((cfg i).trans (if_pos rfl))
  · exact (cfg j).trans (if_neg hj)
  · exact (State.modUnb_unb _ _ _ _).trans (if_neg hj)
  · refine (State.modUnb_unb_self _ _ _).trans ?_
    rw [cfg, if_pos rfl]
    cases p <;> rfl

/-- Settles O45: the two requests on a step and an identifier of the tables and on others. -/
theorem stepSettingsReadAndWrite : Obligations.StepSettingsReadAndWrite := by
  unfold Obligations.StepSettingsReadAndWrite
  intro tag a ident value s hr
  refine ⟨fun i p hi hp => ⟨exec_readStepSetting hr hi hp, ?_⟩, fun h => ⟨_, rfl, exec_stepSetting_refused value hr h⟩⟩
  dsimp only
  rw [← stepClamp_eq]
  have write := exec_writeStepSetting (tag := tag) value hr hi hp
  obtain ⟨low, -⟩ := stepClamp_range p value.toInt
  split
  · next differs =>
    exact write.trans (if_neg fun agrees => (stepConsistent_iff _ _ _).mp agrees differs)
  · next agrees =>
    have stored : StepStored i p (stepClamp p value.toInt) (consume s)
        (storeStep i p (stepClamp p value.toInt) (consume s)) := by
      by_cases count : p = .operationCount
      · subst count
        exact storeStep_count i low _
      · exact storeStep_setting i count low _
    exact ⟨_, write.trans (if_pos ((stepConsistent_iff _ _ _).mpr agrees)), stored.frame, stored.own, stored.rest,
      stored.others, stored.record, stored.capped⟩

end Sys2Proof.Proofs

namespace Sys2Proof.Proofs

open Sys2Proof.Machine Sys2Proof.Safety Sys2Proof.Laws

/-! ### The record reads (R188, R194, R195) -/

/-- Data bytes of a layout are followed by as many 0 bytes as bring them to 13 (R192). -/
theorem pad13_of_length {d : List Byte} {k : Nat} (h : d.length + k = 13) :
    pad13 d = d ++ List.replicate k 0 := by
  have zeros : 13 - d.length = k := by omega
  rw [pad13, List.take_append, List.take_of_length_le (by omega), zeros, List.take_replicate]
  congr 2
  omega

@[simp] theorem unstated_length (k n : Nat) : (unstated k n).length = n := by simp [unstated]

@[simp] theorem level16_length (d : Option Nat) : (level16 d).length = 2 := by cases d <;> rfl

/-- A level in 16 bits, by whether it is defined. -/
theorem level16_eq (d : Option Nat) : level16 d = match d with | some d => be16 d | none => [0xFF, 0xFF] := by
  cases d <;> rfl

/-- A byte of a number in range is the number's byte. -/
theorem byteOf_eq {a : Byte} {n : Nat} (h : a.toNat = n) : byteOf n = a := by
  rw [byteOf, ← h, BitVec.ofNat_toNat, BitVec.setWidth_eq]

/-- A channel byte in range names its channel. -/
theorem chanOfByte_of_val {a : Byte} {c : ChanId} (h : a.toNat = c.val) : chanOfByte a = some c := by
  have range : a.toNat < 14 := h ▸ c.isLt
  rw [chanOfByte, dif_pos range]
  exact congrArg some (Fin.ext h)

/-- A channel byte out of range names none. -/
theorem chanOfByte_of_ge {a : Byte} (h : 14 ≤ a.toNat) : chanOfByte a = none := dif_neg (Nat.not_lt.mpr h)

section
variable {tag a page : Byte} {s : State}

/-- READ_STEP on a step and a page that are there. -/
theorem exec_readStep (hr : Ready s) {i : StepId} (hi : a.toNat = i.val) (hp : page.toNat ≤ 1) :
    exec (.readStep tag a page) s = .next (respond 0x03 tag .ok
      (pad13 (if page = 0 then stepPage0 s i else stepPage1 s i)) (consume s)) := by
  refine (live_takeRequest hr 0x03 tag (readStep a page)).trans ?_
  rw [readStep, if_neg (Nat.not_lt.mpr hp), stepOfByte_of_val hi]
  rfl

/-- READ_CHANNEL on a channel and a page that are there. -/
theorem exec_readChannel (hr : Ready s) {c : ChanId} (hc : a.toNat = c.val) (hp : page.toNat ≤ 1) :
    exec (.readChannel tag a page) s = .next (respond 0x04 tag .ok
      (pad13 (if page = 0 then channelPage0 s c else channelPage1 s c)) (consume s)) := by
  refine (live_takeRequest hr 0x04 tag (readChannel a page)).trans ?_
  rw [readChannel, if_neg (Nat.not_lt.mpr hp), chanOfByte_of_val hc]
  rfl

/-- A page that is not there is refused, its data 0 (R192). -/
theorem exec_readPage_refused (hr : Ready s) (hp : 2 ≤ page.toNat) :
    exec (.readStep tag a page) s = .next (respond 0x03 tag .badArg (List.replicate 13 0) (consume s)) ∧
    exec (.readChannel tag a page) s = .next (respond 0x04 tag .badArg (List.replicate 13 0) (consume s)) := by
  constructor
  · refine (live_takeRequest hr 0x03 tag (readStep a page)).trans ?_
    rw [readStep, if_pos (show 1 < page.toNat from hp)]
    rfl
  · refine (live_takeRequest hr 0x04 tag (readChannel a page)).trans ?_
    rw [readChannel, if_pos (show 1 < page.toNat from hp)]
    rfl

/-- A step that is not there is refused, the bytes of the page's layout free (log 9). -/
theorem exec_readStep_refused (hr : Ready s) (ha : 8 ≤ a.toNat) (hp : page.toNat ≤ 1) :
    exec (.readStep tag a page) s = .next (respond 0x03 tag .badArg
      (pad13 (unstated s.freeDraws (if page = 0 then 13 else 10)))
      { consume s with freeDraws := s.freeDraws + 1 }) := by
  refine (live_takeRequest hr 0x03 tag (readStep a page)).trans ?_
  rw [readStep, if_neg (Nat.not_lt.mpr hp), stepOfByte_of_ge ha]
  rfl

/-- A channel that is not there is refused, the bytes of the page's layout free (log 9). -/
theorem exec_readChannel_refused (hr : Ready s) (ha : 14 ≤ a.toNat) (hp : page.toNat ≤ 1) :
    exec (.readChannel tag a page) s = .next (respond 0x04 tag .badArg
      (pad13 (unstated s.freeDraws (if page = 0 then 13 else 12)))
      { consume s with freeDraws := s.freeDraws + 1 }) := by
  refine (live_takeRequest hr 0x04 tag (readChannel a page)).trans ?_
  rw [readChannel, if_neg (Nat.not_lt.mpr hp), chanOfByte_of_ge ha]
  rfl

/-- READ_YARD on any page. -/
theorem exec_readYard (hr : Ready s) :
    exec (.readYard tag page) s = .next (
      if page = 0 then respond 0x05 tag .ok (pad13 (yardPage0 s)) (consume s)
      else if page = 1 then respond 0x05 tag .ok (pad13 (yardPage1 s)) (consume s)
      else if page = 2 then respond 0x05 tag .ok (pad13 (yardPage2 s)) (consume s)
      else respond 0x05 tag .badArg (List.replicate 13 0) (consume s)) := by
  refine (live_takeRequest hr 0x05 tag (readYard page)).trans ?_
  unfold readYard
  split
  · rfl
  · split
    · rfl
    · split <;> rfl

/-- Page 2 of READ_YARD has 13 bytes. -/
theorem yardPage2_length (s : State) : (yardPage2 s).length = 13 := by
  simp only [yardPage2, List.length_take, List.length_append, List.length_cons, List.length_map, List.length_replicate]
  omega

/-- Both lines of a step while RESET is not held (R183). -/
theorem lineByte_eq (run : s.resetHeld = false) (i : StepId) :
    lineByte s i = byteOf ((if (s.lines i).direct then 1 else 0) +
      (if (if (s.lines i).direct then (s.lines i).directClose else decide (0 < (s.lane i).closePulse)) then 2 else 0) +
      (if (if (s.lines i).direct then (s.lines i).directTrip else decide (0 < (s.lane i).tripPulse)) then 4 else 0) +
      (if (s.lines i).stagedClose then 8 else 0) + (if (s.lines i).stagedTrip then 16 else 0)) := by
  simp only [lineByte, closeLine, tripLine, run, Bool.not_false, Bool.true_and]
  rfl

/-- READ_LINES. -/
theorem exec_readLines (hr : Ready s) :
    exec (.readLines tag) s = .next (respond 0x24 tag .ok (pad13 (linesData s)) (consume s)) := by
  refine (live_takeRequest hr 0x24 tag fun s => answer .ok (linesData s) s).trans ?_
  rfl

end

/-- Settles O42: each page byte by byte, each refusal and each table of codes. -/
theorem recordReadsGiveTheRecord : Obligations.RecordReadsGiveTheRecord := by
  unfold Obligations.RecordReadsGiveTheRecord
  refine ⟨fun tag a page s hr => ⟨fun i hi => ⟨fun hp => ?step0, fun hp => ?step1⟩,
    fun c hc => ⟨fun hp => ?channel0, fun hp => ?channel1⟩, fun hp => ?yard, exec_readPage_refused hr,
    fun hp => ?yardRefused, fun ha hp => ?stepRefused, fun ha hp => ?channelRefused⟩, fun tag s hr => ?lines, ?codes⟩
  case step0 =>
    subst hp
    rw [exec_readStep hr hi (by decide), if_pos rfl, stepPage0, byteOf_eq hi, stepFlags]
    have lockout : flagBit 5 (s.stepRec i).lockout.isSome = if (s.stepRec i).lockout ≠ none then 32 else 0 := by
      cases (s.stepRec i).lockout <;> rfl
    rw [lockout]
    rfl
  case step1 =>
    subst hp
    rw [exec_readStep hr hi (by decide), if_neg (by decide), stepPage1, byteOf_eq hi]
    have owner : byteOf (flagBit 0 (s.lines i).direct) = if (s.lines i).direct then 1 else 0 := by
      cases (s.lines i).direct <;> rfl
    rw [owner]
    rfl
  case channel0 =>
    subst hp
    rw [exec_readChannel hr hc (by decide), if_pos rfl, channelPage0, channelHead, byteOf_eq hc]
    rfl
  case channel1 =>
    subst hp
    rw [exec_readChannel hr hc (by decide), if_neg (by decide), channelPage1, channelHead, byteOf_eq hc]
    rw [level16_eq]
    cases (look s.mu.entries c).d <;> rfl
  case yard =>
    rw [exec_readYard hr]
    by_cases h0 : page = 0
    · rw [if_pos h0, if_pos h0]
      rfl
    rw [if_neg h0, if_neg h0]
    by_cases h1 : page = 1
    · rw [if_pos h1, if_pos h1, pad13_of_length (k := 2) (by simp [yardPage1, be16])]
      simp only [yardPage1, List.append_assoc]
      rfl
    have h2 : page = 2 := by
      clear hr
      bv_omega
    rw [if_neg h1, if_neg h1, if_pos h2, pad13_of_length (k := 0) (yardPage2_length s)]
    simp only [yardPage2, List.replicate_zero, List.append_nil]
  case yardRefused =>
    have h0 : page ≠ 0 := by rintro rfl; exact absurd hp (by decide)
    have h1 : page ≠ 1 := by rintro rfl; exact absurd hp (by decide)
    have h2 : page ≠ 2 := by rintro rfl; exact absurd hp (by decide)
    rw [exec_readYard hr, if_neg h0, if_neg h1, if_neg h2]
  case stepRefused =>
    refine ⟨_, unstated_length s.freeDraws _, (exec_readStep_refused hr ha hp).trans ?_⟩
    rw [pad13_of_length]
    rw [unstated_length]
    split <;> rfl
  case channelRefused =>
    refine ⟨_, unstated_length s.freeDraws _, (exec_readChannel_refused hr ha hp).trans ?_⟩
    rw [pad13_of_length]
    rw [unstated_length]
    split <;> rfl
  case lines =>
    have running : s.resetHeld = false := hr.1
    have trip : yardTripLine s = decide (0 < s.seq.yardTrip) := by simp [yardTripLine, running]
    dsimp only
    simp only [← lineByte_eq running]
    rw [exec_readLines hr, linesData, trip]
    have yard : flagBit 3 (decide (0 < s.seq.yardTrip)) = if 0 < s.seq.yardTrip then 8 else 0 := by
      simp [flagBit]
    rw [yard]
    rfl
  case codes =>
    refine ⟨rfl, rfl, rfl, rfl, by decide, rfl, fun u => ?_⟩
    by_cases h : u.alarmCount = 0 <;> simp [unbalanceStage, h, Nat.pos_iff_ne_zero]

end Sys2Proof.Proofs

namespace Sys2Proof.Proofs

open Sys2Proof.Machine Sys2Proof.Safety Sys2Proof.Laws

/-! ### The step records after a change of a step's state (R51, R52, R70) -/

/-- Records go by the table. -/
theorem stepRec_congr {s t : State} (h : t.tbl.recs = s.tbl.recs) (j : StepId) : t.stepRec j = s.stepRec j :=
  congrArg (look · j) h

/-- Timers go by the discharge timers. -/
theorem timers_congr {s t : State} (h : t.dt = s.dt) (j : StepId) : t.timers j = s.timers j := congrArg (look · j) h

/-- Unbalance records go by the unit. -/
theorem unb_congr {s t : State} (h : t.ub = s.ub) (j : StepId) : t.unb j = s.unb j := congrArg (look · j) h

/-- The lanes go by the sequencer. -/
theorem lane_congr {s t : State} (h : t.seq = s.seq) (j : StepId) : t.lane j = s.lane j :=
  congrArg (fun q : Sequencer => look q.lanes j) h

/-- A due holdoff start has a holdoff to start (R70). -/
def holdoffRuns (i : StepId) (s : State) : Bool :=
  ((s.stepRec i).suspect || (s.timers i).arming) && decide (0 < s.cfg.yard.harmHoldoff)

/-- The record of a step that leaves a state (R51). -/
def leftRec (old : StepState) (r : StepRec) : StepRec :=
  match old with
  | .opened => { r with cooling := false }
  | _ => r

/-- The record of a step that enters a state; `runs`: a holdoff starts (R51, R52, R70). -/
def enteredRec (new : StepState) (runs : Bool) (r : StepRec) : StepRec :=
  match new with
  | .opened => { r with suspect := false, cooling := true, holdoff := runs || r.holdoff }
  | .faulted _ => { r with suspect := false }
  | _ => r

/-- The watch changes no record. -/
theorem watchClose_stepRec (i j : StepId) (s : State) : (watchClose i s).stepRec j = s.stepRec j :=
  stepRec_congr (congrArg StepTable.recs (watchClose_frame i s).2.2.2.2.1) j

theorem clearSuspect_stepRec (i j : StepId) (s : State) :
    (clearSuspect i s).stepRec j = if j = i then { s.stepRec i with suspect := false } else s.stepRec j := by
  unfold clearSuspect
  split
  · exact State.modStep_stepRec i j (fun c => { c with suspect := false }) s
  · next clear =>
    split
    · next e => rw [e, ← Bool.eq_false_iff.mpr clear]
    · rfl

theorem startCooldown_stepRec (i j : StepId) (s : State) :
    (startCooldown i s).stepRec j = if j = i then { s.stepRec i with cooling := true } else s.stepRec j :=
  (watchClose_stepRec i j _).trans (State.modStep_stepRec i j (fun c => { c with cooling := true })
    (s.modTimers i fun t => { t with cooldown := 1000 * (s.stepCfg i).dischargeTime }))

theorem startHoldoff_stepRec (i j : StepId) (s : State) :
    (startHoldoff i s).stepRec j =
      if j = i ∧ 0 < s.cfg.yard.harmHoldoff then { s.stepRec i with holdoff := true } else s.stepRec j := by
  unfold startHoldoff
  dsimp only
  split
  · next runs =>
    have runs : 0 < s.cfg.yard.harmHoldoff := runs
    refine (watchClose_stepRec i j _).trans ((State.modStep_stepRec i j (fun c => { c with holdoff := true })
      ((s.modTimers i fun t => { t with arming := false }).modTimers i
        fun t => { t with holdoffMs := 1000 * s.cfg.yard.harmHoldoff })).trans ?_)
    simp only [runs, and_true]
    rfl
  · next none =>
    have none : ¬0 < s.cfg.yard.harmHoldoff := none
    simp only [none, and_false, if_false]
    rfl

theorem leaveState_stepRec (i j : StepId) (old : StepState) (s : State) :
    (leaveState i old s).stepRec j = if j = i then leftRec old (s.stepRec i) else s.stepRec j := by
  have same {t : State} (h : t.tbl = s.tbl) : t.stepRec j = if j = i then s.stepRec i else s.stepRec j := by
    refine (stepRec_congr (congrArg StepTable.recs h) j).trans ?_
    split
    · next e => rw [e]
    · rfl
  unfold leaveState
  split
  · exact State.modStep_stepRec i j (fun c => { c with cooling := false }) s
  · exact same (by simp)
  · exact same rfl
  · next h _ _ => cases old <;> first | exact same rfl | exact absurd rfl h

/-- The record of a step entering OPEN. -/
theorem enterOpened_stepRec (i j : StepId) (s : State) :
    (enterOpened i s).stepRec j =
      if j = i then enteredRec .opened (holdoffRuns i s) (s.stepRec i) else s.stepRec j := by
  have cooled (j : StepId) : (startCooldown i (clearSuspect i s)).stepRec j =
      if j = i then { s.stepRec i with suspect := false, cooling := true } else s.stepRec j := by
    rw [startCooldown_stepRec, clearSuspect_stepRec, clearSuspect_stepRec, if_pos rfl]
    split <;> rfl
  have cfg : (startCooldown i (clearSuspect i s)).cfg = s.cfg := by simp
  unfold enterOpened
  dsimp only
  split
  · next due =>
    rw [startHoldoff_stepRec, cooled, cooled, cfg, if_pos rfl]
    by_cases e : j = i <;> by_cases runs : 0 < s.cfg.yard.harmHoldoff <;>
      simp [e, runs, enteredRec, holdoffRuns, due]
  · next due =>
    rw [cooled]
    simp [enteredRec, holdoffRuns, due]

theorem enterFaulted_stepRec (i j : StepId) (c : FaultCause) (s : State) :
    (enterFaulted i c s).stepRec j = if j = i then { s.stepRec i with suspect := false } else s.stepRec j := by
  have armed (t : State) (h : t.tbl = s.tbl) : (clearSuspect i t).stepRec j =
      if j = i then { s.stepRec i with suspect := false } else s.stepRec j := by
    rw [clearSuspect_stepRec, stepRec_congr (congrArg StepTable.recs h), stepRec_congr (congrArg StepTable.recs h)]
  unfold enterFaulted
  dsimp only
  split <;> split <;> exact armed _ (by simp)

theorem enterState_stepRec (i j : StepId) (new : StepState) (s : State) :
    (enterState i new s).stepRec j =
      if j = i then enteredRec new (holdoffRuns i s) (s.stepRec i) else s.stepRec j := by
  have same {t : State} (h : t.tbl = s.tbl) : t.stepRec j = if j = i then s.stepRec i else s.stepRec j := by
    refine (stepRec_congr (congrArg StepTable.recs h) j).trans ?_
    split
    · next e => rw [e]
    · rfl
  cases new with
  | opened => exact enterOpened_stepRec i j s
  | closed => exact same (by simp [enterState])
  | faulted c => exact enterFaulted_stepRec i j c s
  | _ => exact same rfl

/-! ### The discharge timers (R51, R64, R70, R71) -/

/-- The timers of a step that leaves a state (R51). -/
def leftTimer (old : StepState) (t : DischargeTimer) : DischargeTimer :=
  match old with
  | .opened => { t with cooldown := 0 }
  | _ => t

/-- The timers of a step that enters a state (R51, R52, R64, R70, R71). -/
def enteredTimer (new : StepState) (i : StepId) (s : State) : DischargeTimer :=
  let t := s.timers i
  match new with
  | .opened =>
    { t with cooldown := 1000 * (s.stepCfg i).dischargeTime, arming := false,
             holdoffMs := if holdoffRuns i s then 1000 * s.cfg.yard.harmHoldoff else t.holdoffMs }
  | .closed => { t with arming := false }
  | .faulted _ => { t with arming := (s.stepRec i).suspect || t.arming }
  | _ => t

/-- The watch changes no timer of a step. -/
theorem watchClose_timers (i j : StepId) (s : State) : (watchClose i s).timers j = s.timers j :=
  timers_congr (watchClose_frame i s).2.2.2.2.2.1 j

theorem startCooldown_timers (i j : StepId) (s : State) :
    (startCooldown i s).timers j =
      if j = i then { s.timers i with cooldown := 1000 * (s.stepCfg i).dischargeTime } else s.timers j :=
  (timers_congr (by simp [startCooldown]) j).trans
    (State.modTimers_timers i j (fun t => { t with cooldown := 1000 * (s.stepCfg i).dischargeTime }) s)

theorem startHoldoff_timers (i j : StepId) (s : State) :
    (startHoldoff i s).timers j =
      if j = i then { s.timers i with
        arming := false,
        holdoffMs := if 0 < s.cfg.yard.harmHoldoff then 1000 * s.cfg.yard.harmHoldoff else (s.timers i).holdoffMs }
      else s.timers j := by
  let disarmed := s.modTimers i fun t => { t with arming := false }
  have dropped (j : StepId) : disarmed.timers j = if j = i then { s.timers i with arming := false } else s.timers j :=
    State.modTimers_timers i j (fun t => { t with arming := false }) s
  unfold startHoldoff
  dsimp only
  split
  · next runs =>
    have runs : 0 < s.cfg.yard.harmHoldoff := runs
    refine (watchClose_timers i j _).trans ((State.modTimers_timers i j
      (fun t => { t with holdoffMs := 1000 * s.cfg.yard.harmHoldoff }) disarmed).trans ?_)
    rw [dropped, dropped, if_pos rfl, if_pos runs]
    split <;> rfl
  · next none =>
    have none : ¬0 < s.cfg.yard.harmHoldoff := none
    exact (dropped j).trans (by rw [if_neg none])

theorem leaveState_timers (i j : StepId) (old : StepState) (s : State) :
    (leaveState i old s).timers j = if j = i then leftTimer old (s.timers i) else s.timers j := by
  have same {t : State} (h : t.dt = s.dt) : t.timers j = if j = i then s.timers i else s.timers j := by
    refine (timers_congr h j).trans ?_
    split
    · next e => rw [e]
    · rfl
  unfold leaveState
  split
  · exact State.modTimers_timers i j (fun t => { t with cooldown := 0 }) s
  · exact same (by simp)
  · exact same rfl
  · next h _ _ => cases old <;> first | exact same rfl | exact absurd rfl h

theorem enterOpened_timers (i j : StepId) (s : State) :
    (enterOpened i s).timers j = if j = i then enteredTimer .opened i s else s.timers j := by
  have cooled (j : StepId) : (startCooldown i (clearSuspect i s)).timers j =
      if j = i then { s.timers i with cooldown := 1000 * (s.stepCfg i).dischargeTime } else s.timers j := by
    have frame : (clearSuspect i s).dt = s.dt ∧ (clearSuspect i s).cfg = s.cfg := by simp
    rw [startCooldown_timers, timers_congr frame.1, timers_congr frame.1, State.stepCfg, frame.2]
    rfl
  have cfg : (startCooldown i (clearSuspect i s)).cfg = s.cfg := by simp
  unfold enterOpened
  dsimp only
  split
  · next due =>
    rw [startHoldoff_timers, cooled, cooled, cfg, if_pos rfl]
    simp only [enteredTimer, holdoffRuns, due, Bool.true_and, decide_eq_true_eq]
    split <;> rfl
  · next due =>
    rw [cooled]
    obtain ⟨clear, arming⟩ := Bool.or_eq_false_iff.mp (Bool.eq_false_iff.mpr due)
    simp only [enteredTimer, holdoffRuns, clear, arming, Bool.or_false, Bool.false_and, Bool.false_eq_true, if_false]

theorem enterFaulted_timers (i j : StepId) (c : FaultCause) (s : State) :
    (enterFaulted i c s).timers j =
      if j = i then { s.timers i with arming := (s.stepRec i).suspect || (s.timers i).arming } else s.timers j := by
  have armed : (if (s.stepRec i).suspect then s.modTimers i fun t => { t with arming := true } else s).timers j =
      if j = i then { s.timers i with arming := (s.stepRec i).suspect || (s.timers i).arming } else s.timers j := by
    cases h : (s.stepRec i).suspect
    · simp only [Bool.false_eq_true, if_false, Bool.false_or]
      split
      · next e => rw [e]
      · rfl
    · exact State.modTimers_timers i j (fun t => { t with arming := true }) s
  refine Eq.trans (timers_congr ?_ j) armed
  unfold enterFaulted
  dsimp only
  split <;> simp

theorem enterState_timers (i j : StepId) (new : StepState) (s : State) :
    (enterState i new s).timers j = if j = i then enteredTimer new i s else s.timers j := by
  have same : s.timers j = if j = i then s.timers i else s.timers j := by
    split
    · next e => rw [e]
    · rfl
  cases new with
  | opened => exact enterOpened_timers i j s
  | closed =>
    exact State.modTimers_timers i j (fun t => { t with arming := false }) s
  | faulted c => exact enterFaulted_timers i j c s
  | _ => exact same

/-! ### The unbalance records (R136, R138) -/

/-- The unbalance record of a disarmed step (R138, R150). -/
def disarmedUnb (u : Unbalance) : Unbalance :=
  { u with armed := false, armCount := 0, alarmCount := 0, alarmActive := false, tripTiming := false, tripCount := 0,
           learning := none }

/-- The departure reaches the unit at once: no good window end waits there (R138, log 37). -/
def departsNow (old : StepState) (s : State) : Bool :=
  decide (old = .closed) && !decide (dueFor InHand.ub s = some true)

/-- The unbalance record of a step that leaves a state (R138, log 37). -/
def leftUnb (old : StepState) (i : StepId) (s : State) : Unbalance :=
  if old = .closed then
    if departsNow old s then disarmedUnb (s.unb i) else { s.unb i with departed := true }
  else s.unb i

/-- The unbalance record of a step that enters a state (R136). -/
def enteredUnb (new : StepState) (u : Unbalance) : Unbalance :=
  if new = .closed then (if u.departed then u else u.entered) else u

theorem disarm_unb_of (i j : StepId) (s : State) :
    (disarm i s).unb j = if j = i then disarmedUnb (s.unb i) else s.unb j := by
  split
  · next e => rw [e, disarm_unb]; rfl
  · next ne =>
    unfold disarm
    rw [interruptLearning_unb_of, if_neg ne, State.modUnb_unb, if_neg ne, clearStages_unb, if_neg ne]

theorem leaveState_unb (i j : StepId) (old : StepState) (s : State) :
    (leaveState i old s).unb j = if j = i then leftUnb old i s else s.unb j := by
  have same {t : State} (h : t.ub = s.ub) (hn : old ≠ .closed) :
      t.unb j = if j = i then leftUnb old i s else s.unb j := by
    rw [unb_congr h, leftUnb, if_neg hn]
    split
    · next e => rw [e]
    · rfl
  unfold leaveState
  split
  · exact same rfl nofun
  · simp only [leaveClosed, leftUnb, departsNow]
    by_cases h : dueFor InHand.ub s = some true
    · simp only [h, if_true, decide_true, Bool.not_true, Bool.and_false, Bool.false_eq_true, if_false]
      exact State.modUnb_unb i j (fun u => { u with departed := true }) s
    · simp only [h, if_false, if_true, decide_true, decide_false, Bool.not_false, Bool.and_true]
      exact disarm_unb_of i j s
  · exact same rfl nofun
  · next _ h _ => exact same rfl h

theorem enterState_unb (i j : StepId) (new : StepState) (s : State) :
    (enterState i new s).unb j = if j = i then enteredUnb new (s.unb i) else s.unb j := by
  have same {t : State} (h : t.ub = s.ub) (hn : new ≠ .closed) :
      t.unb j = if j = i then enteredUnb new (s.unb i) else s.unb j := by
    rw [unb_congr h, enteredUnb, if_neg hn]
    split
    · next e => rw [e]
    · rfl
  cases new with
  | opened => exact same (by simp [enterState]) nofun
  | closed =>
    exact State.modUnb_unb i j (fun u => if u.departed then u else u.entered)
      (s.modTimers i fun t => { t with arming := false })
  | faulted c => exact same (by simp [enterState]) nofun
  | _ => exact same rfl nofun

end Sys2Proof.Proofs

namespace Sys2Proof.Proofs

open Sys2Proof.Machine Sys2Proof.Safety Sys2Proof.Laws

/-! ### The whole of a change of a step's state -/

/-- The state in which a step's record and its place in the list have changed (R59). -/
def relisted (i : StepId) (new : StepState) (s : State) : State :=
  relist i (s.modStep i fun c => { c with state := new })

theorem moveStep_eq (i : StepId) (new : StepState) (s : State) :
    moveStep i new s = watchClose i (enterState i new (leaveState i (s.stepRec i).state (relisted i new s))) := rfl

@[simp] theorem relisted_frame (i : StepId) (new : StepState) (s : State) :
    (relisted i new s).clock = s.clock ∧ (relisted i new s).rx = s.rx ∧ (relisted i new s).mu = s.mu ∧
    (relisted i new s).dt = s.dt ∧ (relisted i new s).seq = s.seq ∧ (relisted i new s).arb = s.arb ∧
    (relisted i new s).vc = s.vc ∧ (relisted i new s).hs = s.hs ∧ (relisted i new s).ub = s.ub ∧
    (relisted i new s).oe = s.oe ∧ (relisted i new s).io = s.io ∧ (relisted i new s).link = s.link ∧
    (relisted i new s).cfg = s.cfg := by
  simp [relisted]

theorem relisted_stepRec (i j : StepId) (new : StepState) (s : State) :
    (relisted i new s).stepRec j = if j = i then { s.stepRec i with state := new } else s.stepRec j :=
  (stepRec_congr (relist_frame i _).2.2.2.2.1 j).trans (State.modStep_stepRec i j (fun c => { c with state := new }) s)

/-- Whether a holdoff starts goes by the state before the change (R70). -/
theorem holdoffRuns_left (i : StepId) (new old : StepState) (s : State) :
    holdoffRuns i (leaveState i old (relisted i new s)) = holdoffRuns i s := by
  have frame : (leaveState i old (relisted i new s)).cfg = s.cfg := by simp
  rw [holdoffRuns, frame, leaveState_stepRec, leaveState_timers, if_pos rfl, if_pos rfl, relisted_stepRec, if_pos rfl,
    timers_congr (by simp : (relisted i new s).dt = s.dt)]
  cases old <;> rfl

/-- The records after a change of a step's state (R51, R52, R70). -/
theorem moveStep_stepRec (i j : StepId) (new : StepState) (s : State) :
    (moveStep i new s).stepRec j =
      if j = i then
        enteredRec new (holdoffRuns i s) (leftRec (s.stepRec i).state { s.stepRec i with state := new })
      else s.stepRec j := by
  rw [moveStep_eq, watchClose_stepRec, enterState_stepRec, holdoffRuns_left, leaveState_stepRec, leaveState_stepRec,
    relisted_stepRec, relisted_stepRec, if_pos rfl, if_pos rfl]
  split <;> rfl

theorem moveStep_stepRec_self (i : StepId) (new : StepState) (s : State) :
    (moveStep i new s).stepRec i =
      enteredRec new (holdoffRuns i s) (leftRec (s.stepRec i).state { s.stepRec i with state := new }) :=
  (moveStep_stepRec i i new s).trans (if_pos rfl)

/-- A step's timers after a change of its state (R51, R52, R64, R70, R71). -/
def movedTimer (i : StepId) (new : StepState) (s : State) : DischargeTimer where
  cooldown :=
    if new = .opened then 1000 * (s.stepCfg i).dischargeTime
    else if (s.stepRec i).state = .opened then 0 else (s.timers i).cooldown
  holdoffMs := if new = .opened ∧ holdoffRuns i s = true then 1000 * s.cfg.yard.harmHoldoff else (s.timers i).holdoffMs
  arming :=
    match new with
    | .opened | .closed => false
    | .faulted _ => (s.stepRec i).suspect || (s.timers i).arming
    | _ => (s.timers i).arming

theorem enteredTimer_left {i : StepId} {new : StepState} {s t : State} (cfg : t.cfg = s.cfg)
    (runs : holdoffRuns i t = holdoffRuns i s) (own : t.timers i = leftTimer (s.stepRec i).state (s.timers i))
    (suspect : (t.stepRec i).suspect = (s.stepRec i).suspect) : enteredTimer new i t = movedTimer i new s := by
  simp only [enteredTimer, movedTimer, State.stepCfg, cfg, runs, own, suspect]
  cases new <;> cases (s.stepRec i).state <;> simp [leftTimer]

theorem moveStep_timers (i j : StepId) (new : StepState) (s : State) :
    (moveStep i new s).timers j = if j = i then movedTimer i new s else s.timers j := by
  have cfg : (leaveState i (s.stepRec i).state (relisted i new s)).cfg = s.cfg := by simp
  have dt : (relisted i new s).dt = s.dt := by simp
  have own := leaveState_timers i i (s.stepRec i).state (relisted i new s)
  rw [if_pos rfl, timers_congr dt] at own
  have suspect : ((leaveState i (s.stepRec i).state (relisted i new s)).stepRec i).suspect = (s.stepRec i).suspect := by
    rw [leaveState_stepRec, if_pos rfl, relisted_stepRec, if_pos rfl]
    cases (s.stepRec i).state <;> rfl
  rw [moveStep_eq, watchClose_timers, enterState_timers, leaveState_timers, timers_congr dt j,
    enteredTimer_left cfg (holdoffRuns_left i new _ s) own suspect]
  split
  · rfl
  · rfl

/-- Whether a departure reaches the unit at once goes by the window end in hand (log 37). -/
theorem departsNow_congr {s t : State} (rx : t.rx = s.rx) (mu : t.mu = s.mu) (old : StepState) :
    departsNow old t = departsNow old s := by
  have due : dueFor InHand.ub t = dueFor InHand.ub s := by rw [dueFor, rx, mu, dueFor]
  rw [departsNow, due, departsNow]

/-- The watch changes no unbalance record. -/
theorem watchClose_unb (i j : StepId) (s : State) : (watchClose i s).unb j = s.unb j := unb_congr (by simp) j

/-- The unbalance records after a change of a step's state (R136, R138). -/
theorem moveStep_unb (i j : StepId) (new : StepState) (s : State) :
    (moveStep i new s).unb j = if j = i then enteredUnb new (leftUnb (s.stepRec i).state i s) else s.unb j := by
  have frame : (relisted i new s).ub = s.ub ∧ (relisted i new s).rx = s.rx ∧ (relisted i new s).mu = s.mu := by simp
  obtain ⟨ub, rx, mu⟩ := frame
  have left : leftUnb (s.stepRec i).state i (relisted i new s) = leftUnb (s.stepRec i).state i s := by
    rw [leftUnb, departsNow_congr rx mu, unb_congr ub, leftUnb]
  rw [moveStep_eq, watchClose_unb, enterState_unb, leaveState_unb, leaveState_unb, left, unb_congr ub j, if_pos rfl]
  split <;> rfl

/-! ### The alarm entries (R51, R52, R62, R138) -/

/-- The alarm set after a step has left a state (R62, R138). -/
def leftAlarms (old : StepState) (i : StepId) (s : State) : List AlarmEntry :=
  match old with
  | .closed => droppedIf (departsNow .closed s && (s.unb i).alarmActive) .unbalanceAlarm (.step i) s.link.alarms
  | .faulted .positionInvalid => droppedIf true .positionInvalid (.step i) s.link.alarms
  | _ => s.link.alarms

/-- The alarm set after a step has entered a state (R51, R52, R62, R130). -/
def enteredAlarms (new : StepState) (i : StepId) (suspect : Bool) (now : Word) (as : List AlarmEntry) :
    List AlarmEntry :=
  match new with
  | .opened => causeOverIf suspect .resonance (.step i) as
  | .faulted .positionInvalid =>
    raiseIn now .positionInvalid (.step i) false (causeOverIf suspect .resonance (.step i) as)
  | .faulted _ => causeOverIf suspect .resonance (.step i) as
  | _ => as

theorem disarm_alarms (i : StepId) (s : State) :
    (disarm i s).link.alarms = droppedIf (s.unb i).alarmActive .unbalanceAlarm (.step i) s.link.alarms := by
  unfold disarm
  rw [clearStages_eq]
  simp

theorem leaveState_alarms (i : StepId) (old : StepState) (s : State) :
    (leaveState i old s).link.alarms = leftAlarms old i s := by
  cases old with
  | opened => simp [leaveState, leftAlarms]
  | closed =>
    simp only [leaveState, leaveClosed, leftAlarms, departsNow]
    by_cases h : dueFor InHand.ub s = some true
    · simp [h]
    · simp only [h, if_false, decide_true, decide_false, Bool.not_false, Bool.and_true, Bool.true_and]
      exact disarm_alarms i s
  | faulted c =>
    cases c with
    | positionInvalid => exact congrArg (·.link.alarms) (endCause_nonLatching (k := .positionInvalid) rfl _ s)
    | _ => rfl
  | _ => rfl

theorem clearSuspect_alarms (i : StepId) (s : State) :
    (clearSuspect i s).link.alarms = causeOverIf (s.stepRec i).suspect .resonance (.step i) s.link.alarms := by
  unfold clearSuspect
  cases h : (s.stepRec i).suspect
  · simp
  · exact congrArg (·.link.alarms) (endCause_latching (k := .resonance) rfl _ _)

theorem enterState_alarms (i : StepId) (new : StepState) (s : State) :
    (enterState i new s).link.alarms =
      enteredAlarms new i (s.stepRec i).suspect s.clock.seconds s.link.alarms := by
  have armed : (clearSuspect i (if (s.stepRec i).suspect then s.modTimers i fun t => { t with arming := true }
      else s)).link.alarms = causeOverIf (s.stepRec i).suspect .resonance (.step i) s.link.alarms := by
    refine (clearSuspect_alarms i _).trans ?_
    split <;> rfl
  have clock : (clearSuspect i (if (s.stepRec i).suspect then s.modTimers i fun t => { t with arming := true }
      else s)).clock = s.clock := by
    split <;> simp
  cases new with
  | opened =>
    refine Eq.trans ?_ (clearSuspect_alarms i s)
    simp only [enterState, enterOpened]
    split <;> simp
  | closed => simp [enterState, enteredAlarms]
  | faulted c =>
    cases c with
    | positionInvalid =>
      simp only [enterState, enterFaulted, if_true, raise, State.modAlarms_alarms, armed, clock, enteredAlarms]
    | _ => exact armed
  | _ => rfl

/-- The watch sends no alarm notice. -/
theorem watchClose_link (i : StepId) (s : State) : (watchClose i s).link = s.link := by simp

/-- The alarm set after a change of a step's state. -/
theorem moveStep_alarms (i : StepId) (new : StepState) (s : State) :
    (moveStep i new s).link.alarms =
      enteredAlarms new i (s.stepRec i).suspect s.clock.seconds (leftAlarms (s.stepRec i).state i s) := by
  have frame : (relisted i new s).ub = s.ub ∧ (relisted i new s).rx = s.rx ∧ (relisted i new s).mu = s.mu ∧
    (relisted i new s).link = s.link := by simp
  obtain ⟨ub, rx, mu, link⟩ := frame
  have left : leftAlarms (s.stepRec i).state i (relisted i new s) = leftAlarms (s.stepRec i).state i s := by
    unfold leftAlarms
    rw [departsNow_congr rx mu, link, unb_congr ub]
  have suspect : ((leaveState i (s.stepRec i).state (relisted i new s)).stepRec i).suspect = (s.stepRec i).suspect := by
    rw [leaveState_stepRec, if_pos rfl, relisted_stepRec, if_pos rfl]
    cases (s.stepRec i).state <;> rfl
  have clock : (leaveState i (s.stepRec i).state (relisted i new s)).clock = s.clock := by simp
  rw [moveStep_eq]
  refine (congrArg Link.alarms (watchClose_link i _)).trans ?_
  rw [enterState_alarms, leaveState_alarms, left, suspect, clock]

/-! ### The sequencer, the arbiter and the requesters -/

/-- No close without a pulse stands on the step. -/
def Quiet (i : StepId) (s : State) : Prop := (s.lane i).op.any Operation.unpulsed = false

theorem quiet_congr {i : StepId} {s t : State} (h : t.seq = s.seq) : Quiet i t ↔ Quiet i s := by
  rw [Quiet, lane_congr h, Quiet]

theorem Quiet.watch {i : StepId} {s t : State} (q : Quiet i s) (h : t.seq = s.seq) : watchClose i t = t :=
  watchClose_eq_self ((quiet_congr h).mpr q)

/-- From one state to another nothing reaches the sequencer, the arbiter or voltage control. -/
structure Still (s t : State) : Prop where
  seq : t.seq = s.seq
  arb : t.arb = s.arb
  vc : t.vc = s.vc

theorem Still.trans {s t u : State} (a : Still s t) (b : Still t u) : Still s u :=
  ⟨b.seq.trans a.seq, b.arb.trans a.arb, b.vc.trans a.vc⟩

theorem still_startCooldown {i : StepId} {s : State} (q : Quiet i s) :
    Still s (startCooldown i s) ∧ (startCooldown i s).oe = s.oe := by
  rw [startCooldown, q.watch (by simp)]
  exact ⟨⟨by simp, by simp, by simp⟩, by simp⟩

theorem still_startHoldoff {i : StepId} {s : State} (q : Quiet i s) :
    Still s (startHoldoff i s) ∧ (startHoldoff i s).oe = s.oe := by
  unfold startHoldoff
  dsimp only
  split
  · rw [q.watch (by simp)]
    exact ⟨⟨by simp, by simp, by simp⟩, by simp⟩
  · exact ⟨⟨by simp, by simp, by simp⟩, by simp⟩

theorem still_enterState {i : StepId} {s : State} (q : Quiet i s) (new : StepState) :
    Still s (enterState i new s) ∧ (enterState i new s).oe = s.oe := by
  cases new with
  | opened =>
    have cleared : Still s (clearSuspect i s) ∧ (clearSuspect i s).oe = s.oe :=
      ⟨⟨by simp, by simp, by simp⟩, by simp⟩
    have cooled := still_startCooldown ((quiet_congr cleared.1.seq).mpr q)
    simp only [enterState, enterOpened]
    split
    · have held := still_startHoldoff (i := i) ((quiet_congr (cleared.1.trans cooled.1).seq).mpr q)
      exact ⟨(cleared.1.trans cooled.1).trans held.1, held.2.trans (cooled.2.trans cleared.2)⟩
    · exact ⟨cleared.1.trans cooled.1, cooled.2.trans cleared.2⟩
  | closed => exact ⟨⟨by simp [enterState], by simp [enterState], by simp [enterState]⟩, by simp [enterState]⟩
  | faulted c => exact ⟨⟨by simp [enterState], by simp [enterState], by simp [enterState]⟩, by simp [enterState]⟩
  | _ => exact ⟨⟨rfl, rfl, rfl⟩, rfl⟩

/-- A departure alone can end an order (R150). -/
theorem leaveState_oe {old : StepState} (h : old ≠ .closed) (i : StepId) (s : State) :
    (leaveState i old s).oe = s.oe := by
  unfold leaveState
  split
  · simp
  · exact absurd rfl h
  · simp
  · rfl

/-- Without a close that waits, a change of a step's state reaches neither the sequencer nor the requesters; from
CLOSED it may end a learning (R77, R150). -/
theorem still_moveStep {i : StepId} {s : State} (q : Quiet i s) (new : StepState) :
    Still s (moveStep i new s) ∧ ((s.stepRec i).state ≠ .closed → (moveStep i new s).oe = s.oe) := by
  have left : Still s (leaveState i (s.stepRec i).state (relisted i new s)) := ⟨by simp, by simp, by simp⟩
  have entered := still_enterState ((quiet_congr left.seq).mpr q) new
  have whole := left.trans entered.1
  rw [moveStep_eq, q.watch whole.seq]
  refine ⟨whole, fun h => entered.2.trans ((leaveState_oe h i _).trans ?_)⟩
  simp

end Sys2Proof.Proofs

namespace Sys2Proof.Proofs

open Sys2Proof.Machine Sys2Proof.Safety Sys2Proof.Laws

/-! ### A trip pulse that starts (R86) -/

/-- The state in which the trip pulse of a step runs and its source is noted (R48, R86). -/
def tripPulsed (i : StepId) (o : Operation) (s : State) : State :=
  (s.modLane i fun l => { l with
    op := some { o with phase := .inMotion }, closePulse := 0, tripPulse := s.cfg.yard.tripPulse,
    confirm := some s.cfg.yard.confirmTime }).modStep i fun c => { c with lastSource := sourceOf o.source }

section
variable (i j : StepId) (o : Operation) (s : State)

theorem startTripPulse_eq : startTripPulse i o s = moveStep i .opening (tripPulsed i o s) := rfl

theorem tripPulsed_stepRec :
    (tripPulsed i o s).stepRec j =
      if j = i then { s.stepRec i with lastSource := sourceOf o.source } else s.stepRec j :=
  State.modStep_stepRec i j (fun c => { c with lastSource := sourceOf o.source }) _

/-- The lane of a step whose trip pulse runs. -/
def tripLane (o : Operation) (y : YardSettings) : Lane :=
  ⟨some { o with phase := .inMotion }, 0, y.tripPulse, some y.confirmTime⟩

theorem tripPulsed_lane :
    (tripPulsed i o s).lane j = if j = i then tripLane o s.cfg.yard else s.lane j :=
  State.modLane_lane i j (fun l => { l with
    op := some { o with phase := .inMotion }, closePulse := 0, tripPulse := s.cfg.yard.tripPulse,
    confirm := some s.cfg.yard.confirmTime }) s

theorem tripPulsed_quiet : Quiet i (tripPulsed i o s) := by
  rw [Quiet, tripPulsed_lane, if_pos rfl]
  exact unpulsed_inMotion rfl

theorem startTripPulse_lane :
    (startTripPulse i o s).lane j = if j = i then tripLane o s.cfg.yard else s.lane j :=
  (lane_congr (still_moveStep (tripPulsed_quiet i o s) .opening).1.seq j).trans (tripPulsed_lane i j o s)

theorem startTripPulse_stepRec :
    (startTripPulse i o s).stepRec j =
      if j = i then leftRec (s.stepRec i).state { s.stepRec i with state := .opening, lastSource := sourceOf o.source }
      else s.stepRec j := by
  rw [startTripPulse_eq, moveStep_stepRec, tripPulsed_stepRec, tripPulsed_stepRec, if_pos rfl]
  split <;> rfl

/-- The busy period and voltage control are left as they are. -/
theorem startTripPulse_still :
    (startTripPulse i o s).arb = s.arb ∧ (startTripPulse i o s).vc = s.vc ∧
    ((s.stepRec i).state ≠ .closed → (startTripPulse i o s).oe = s.oe) := by
  obtain ⟨still, oe⟩ := still_moveStep (tripPulsed_quiet i o s) .opening
  have own : ((tripPulsed i o s).stepRec i).state = (s.stepRec i).state := by
    rw [tripPulsed_stepRec, if_pos rfl]
  exact ⟨still.arb, still.vc, fun h => oe (own ▸ h)⟩

/-- A step that is not OPEN keeps its timers. -/
theorem startTripPulse_timers (h : (s.stepRec i).state ≠ .opened) :
    (startTripPulse i o s).timers j = s.timers j := by
  have own : ((tripPulsed i o s).stepRec i).state ≠ .opened := by
    rwa [tripPulsed_stepRec, if_pos rfl]
  rw [startTripPulse_eq, moveStep_timers]
  split
  · next e =>
    rw [e]
    simp only [movedTimer, reduceCtorEq, own, false_and, if_false]
    rfl
  · rfl

theorem startTripPulse_closedOrder :
    (startTripPulse i o s).tbl.closedOrder =
      if (s.stepRec i).retired = false then
        if i ∈ s.tbl.closedOrder then s.tbl.closedOrder else s.tbl.closedOrder ++ [i]
      else s.tbl.closedOrder.filter (· ≠ i) := by
  rw [startTripPulse_eq, moveStep_closedOrder, tripPulsed_stepRec, if_pos rfl]
  simp only [or_true, and_true]
  rfl

end

/-! ### The end report of an operation (R75, R108, R168) -/

/-- What an end report says to its requester, from one state to another. -/
structure Reported (src : Requester) (out : OrderOutcome) (r : Option Reason) (s t : State) : Prop where
  vc : src = .vc → t.oe = s.oe ∧ t.vc = (vcEndReport s).vc
  oe : src = .oe → t.vc = s.vc ∧ (s.oe.executing = none → t.oe = s.oe) ∧
    ∀ j, s.oe.executing = some j → t.oe.executing = none ∧ (t.slot j).state = .finished ∧
      (t.slot j).outcome = some out ∧ (t.slot j).reason = r
  protection : src = .protection → t.oe = s.oe ∧ t.vc = s.vc

theorem endReport_reported (src : Requester) (out : OrderOutcome) (r : Option Reason) (s : State) :
    Reported src out r s (endReport src out r s) := by
  cases src with
  | vc => exact ⟨fun _ => ⟨rfl, rfl⟩, nofun, nofun⟩
  | protection => exact ⟨nofun, nofun, fun _ => ⟨rfl, rfl⟩⟩
  | oe =>
    refine ⟨nofun, fun _ => ⟨by simp [endReport], fun idle => ?_, fun j busy => ?_⟩, nofun⟩
    · simp [endReport, finishExecuting, idle]
    · simp [endReport, finishExecuting, busy, finishSlot, State.slot, State.modSlot]

/-- The report goes by the requesters and the right. -/
theorem Reported.congr {src : Requester} {out : OrderOutcome} {r : Option Reason} {s s' t t' : State}
    (h : Reported src out r s t) (oe : s'.oe = s.oe) (vc : s'.vc = s.vc) (arb : s'.arb = s.arb) (oe' : t'.oe = t.oe)
    (vc' : t'.vc = t.vc) : Reported src out r s' t' where
  vc e := by
    obtain ⟨order, vc''⟩ := h.vc e
    refine ⟨oe'.trans (order.trans oe.symm), vc'.trans (vc''.trans ?_)⟩
    simp only [vcEndReport, clearBand, vc, arb]
  oe e := by
    obtain ⟨vc'', idle, busy⟩ := h.oe e
    simp only [State.slot, oe, oe', vc, vc'] at *
    exact ⟨vc'', idle, busy⟩
  protection e := by
    obtain ⟨order, vc''⟩ := h.protection e
    exact ⟨oe'.trans (order.trans oe.symm), vc'.trans (vc''.trans vc.symm)⟩

/-- The right after an operation that ended with a pulse: a settle of some centiseconds, or none (R92, R95). -/
theorem passIfUnder_arb (o : Operation) (k : Nat) (s : State) :
    (passIfUnder o (1000 * k) s).arb =
      if o.underRight = true then
        { s.arb with busy := if s.arb.vcRequest = .urgent ∨ k = 0 then .notBusy else .settling (1000 * k) }
      else s.arb := by
  unfold passIfUnder passBusy settleOf
  by_cases under : o.underRight = true <;> by_cases urgent : s.arb.vcRequest = .urgent <;> by_cases none : k = 0 <;>
    simp [under, urgent, none]

/-! ### LOCKOUT on a step without a close that waits (R54) -/

theorem addLockout_quiet {i : StepId} {s : State} (q : Quiet i s) (r : LockoutReason) :
    addLockout i r s = s.modStep i fun c => { c with lockout := some (c.lockout.getD r) } := q.watch rfl

end Sys2Proof.Proofs

namespace Sys2Proof.Proofs

open Sys2Proof.Machine Sys2Proof.Safety Sys2Proof.Laws

/-! ### The entries of one kind (R199) -/

/-- The entries of a kind. -/
def ofKind (k : AlarmKind) (as : List AlarmEntry) : List AlarmEntry := as.filter fun e => decide (e.kind = k)

/-- A selection of one kind's entries passes another kind's by. -/
theorem passes_ofKind {k k' : AlarmKind} (h : k' ≠ k) (sub : Subject) :
    Passes (fun e => decide (e.kind = k)) k' sub := fun _ own _ => decide_eq_false (own ▸ h)

/-- The renewal of entries leaves a selection that passes them by. -/
theorem map_filter_of_passes {p : AlarmEntry → Bool} {k : AlarmKind} {sub : Subject} (hp : Passes p k sub)
    {f : AlarmEntry → AlarmEntry} (same : ∀ e, ¬(e.kind = k ∧ e.subject = sub) → f e = e)
    (own : ∀ e, (f e).kind = e.kind ∧ (f e).subject = e.subject) (as : List AlarmEntry) :
    (as.map f).filter p = as.filter p := by
  induction as with
  | nil => rfl
  | cons e as ih =>
    rw [List.map_cons, List.filter_cons, List.filter_cons, ih]
    by_cases its : e.kind = k ∧ e.subject = sub
    · rw [hp e its.1 its.2, hp (f e) ((own e).1.trans its.1) ((own e).2.trans its.2)]
      rfl
    · rw [same e its]

/-- A raise notice, with its detail, leaves a selection that passes its entry by. -/
theorem raiseIn_filter {p : AlarmEntry → Bool} {k : AlarmKind} {sub : Subject} (hp : Passes p k sub) (now : Word)
    (cut : Bool) (as : List AlarmEntry) : (raiseIn now k sub cut as).filter p = as.filter p := by
  unfold raiseIn
  split
  · refine map_filter_of_passes hp (fun e others => if_neg ?_) (fun e => ?_) as
    · simpa [AlarmEntry.isFor] using others
    · split <;> exact ⟨rfl, rfl⟩
  · have fresh := hp ⟨k, sub, now, false, !k.momentary, cut⟩ rfl rfl
    rw [List.filter_append, List.filter_cons_of_neg (by rw [fresh]; exact Bool.false_ne_true), List.filter_nil,
      List.append_nil]

/-- A cause-end notice of a latching kind leaves a selection that passes its entry by. -/
theorem causeOverIf_filter {p : AlarmEntry → Bool} {k : AlarmKind} {sub : Subject} (hp : Passes p k sub) (b : Bool)
    (as : List AlarmEntry) : (causeOverIf b k sub as).filter p = as.filter p := by
  refine map_filter_of_passes hp (fun e others => if_neg fun h => others h.2) (fun e => ?_) as
  split <;> exact ⟨rfl, rfl⟩

/-- A cause-end notice of a non-latching kind leaves a selection that passes its entry by. -/
theorem droppedIf_filter {p : AlarmEntry → Bool} {k : AlarmKind} {sub : Subject} (hp : Passes p k sub) (b : Bool)
    (as : List AlarmEntry) : (droppedIf b k sub as).filter p = as.filter p := by
  rw [droppedIf, List.filter_filter]
  refine List.filter_congr fun e _ => ?_
  by_cases own : e.kind = k ∧ e.subject = sub
  · simp [hp e own.1 own.2]
  · simp [own]

/-- The entries of a latching kind after its cause-end notice. -/
theorem ofKind_causeOverIf (b : Bool) (k : AlarmKind) (sub : Subject) (as : List AlarmEntry) :
    ofKind k (causeOverIf b k sub as) =
      (ofKind k as).map fun e => if b = true ∧ e.subject = sub then { e with cause := false } else e := by
  have kept : ((fun e : AlarmEntry => decide (e.kind = k)) ∘ fun e =>
      if b = true ∧ e.kind = k ∧ e.subject = sub then { e with cause := false } else e) =
      fun e => decide (e.kind = k) := by
    funext e
    dsimp only [Function.comp_apply]
    split <;> rfl
  rw [ofKind, causeOverIf, List.filter_map, kept]
  refine List.map_congr_left fun e he => ?_
  have kind : e.kind = k := by simpa using (List.mem_filter.mp he).2
  simp only [kind, true_and]

theorem ofKind_leftAlarms {k : AlarmKind} (unbalance : k ≠ .unbalanceAlarm) (position : k ≠ .positionInvalid)
    (old : StepState) (i : StepId) (s : State) : ofKind k (leftAlarms old i s) = ofKind k s.link.alarms := by
  unfold leftAlarms
  split
  · exact droppedIf_filter (passes_ofKind unbalance.symm _) _ _
  · exact droppedIf_filter (passes_ofKind position.symm _) _ _
  · rfl

/-- Whether an entry into a state clears the suspect flag (R51, R52, R130). -/
def clearsSuspect : StepState → Bool
  | .opened | .faulted _ => true
  | _ => false

theorem ofKind_resonance_entered (new : StepState) (i : StepId) (suspect : Bool) (now : Word) (as : List AlarmEntry) :
    ofKind .resonance (enteredAlarms new i suspect now as) =
      ofKind .resonance (causeOverIf (clearsSuspect new && suspect) .resonance (.step i) as) := by
  cases new with
  | opened => rfl
  | faulted c =>
    cases c with
    | positionInvalid => exact raiseIn_filter (passes_ofKind (k := .resonance) (k' := .positionInvalid) nofun _) _ _ _
    | _ => rfl
  | _ => simp [enteredAlarms, clearsSuspect]

/-- A change of a step's state ends the cause of RESONANCE with the suspect flag (R51, R52, R130). -/
theorem moveStep_resonance (i : StepId) (new : StepState) (s : State) :
    CauseOver .resonance (.step i) (clearsSuspect new && (s.stepRec i).suspect) s (moveStep i new s) := by
  show ofKind .resonance (moveStep i new s).link.alarms = (ofKind .resonance s.link.alarms).map _
  rw [moveStep_alarms, ofKind_resonance_entered, ofKind_causeOverIf, ofKind_leftAlarms (k := .resonance) nofun nofun]

/-- The entries of a latching kind go by the entries of that kind. -/
theorem CauseOver.congr {k : AlarmKind} {sub : Subject} {b : Bool} {s s' t t' : State} (h : CauseOver k sub b s t)
    (hs : ofKind k s'.link.alarms = ofKind k s.link.alarms) (ht : ofKind k t'.link.alarms = ofKind k t.link.alarms) :
    CauseOver k sub b s' t' :=
  ht.trans (h.trans (congrArg (List.map _) hs.symm))

/-- Where no cause ends, no entry of the kind changes, whatever the subject. -/
theorem causeOver_false {k : AlarmKind} {s t : State} (h : ofKind k t.link.alarms = ofKind k s.link.alarms)
    (sub : Subject) : CauseOver k sub false s t := by
  refine Eq.trans h ?_
  simp [ofKind]

theorem CauseOver.same {k : AlarmKind} {sub : Subject} {s t : State} (h : CauseOver k sub false s t) :
    ofKind k t.link.alarms = ofKind k s.link.alarms := by
  refine Eq.trans h ?_
  simp [ofKind]

/-- An entry into FAULTED: the suspect flag, the arming and a running holdoff (R52, R71, R130). -/
theorem moveStep_faultedNotice (i : StepId) (c : FaultCause) (s : State) :
    FaultedNotice i s (moveStep i (.faulted c) s) := by
  have own := moveStep_stepRec_self i (.faulted c) s
  have timers := moveStep_timers i i (.faulted c) s
  rw [if_pos rfl] at timers
  refine ⟨⟨?_, moveStep_resonance i (.faulted c) s⟩, ?_, ?_, ?_⟩
  · rw [own]
    rfl
  · rw [timers]
    rfl
  · rw [timers]
    simp [movedTimer]
  · rw [own]
    cases (s.stepRec i).state <;> rfl

/-- The notice goes by the step's flags and timers and the entries of RESONANCE. -/
theorem FaultedNotice.congr {i : StepId} {s s' t t' : State} (h : FaultedNotice i s t)
    (hs : s'.stepRec i = s.stepRec i) (hst : s'.timers i = s.timers i)
    (hsa : ofKind .resonance s'.link.alarms = ofKind .resonance s.link.alarms)
    (suspect : (t'.stepRec i).suspect = (t.stepRec i).suspect)
    (holdoff : (t'.stepRec i).holdoff = (t.stepRec i).holdoff)
    (ht : t'.timers i = t.timers i) (hta : ofKind .resonance t'.link.alarms = ofKind .resonance t.link.alarms) :
    FaultedNotice i s' t' := by
  obtain ⟨⟨clear, ended⟩, arming, ms, held⟩ := h
  refine ⟨⟨suspect.trans clear, ?_⟩, ?_, ?_, ?_⟩
  · rw [hs]
    exact CauseOver.congr ended hsa hta
  · rw [ht, hs, hst, arming]
  · rw [ht, hst, ms]
  · rw [holdoff, hs, held]

end Sys2Proof.Proofs

namespace Sys2Proof.Proofs

open Sys2Proof.Machine Sys2Proof.Safety Sys2Proof.Laws

/-! ### A confirm timer that expires (R83, R84, R87, R88) -/

/-- What follows the end report and the passing of the right leaves as it is. -/
theorem ended_frame (o : Operation) (out : OrderOutcome) (r : Option Reason) (ms : Nat) (s : State) :
    (passIfUnder o ms (endReport o.source out r s)).tbl = s.tbl ∧
    (passIfUnder o ms (endReport o.source out r s)).dt = s.dt ∧
    (passIfUnder o ms (endReport o.source out r s)).seq = s.seq ∧
    (passIfUnder o ms (endReport o.source out r s)).hs = s.hs ∧
    (passIfUnder o ms (endReport o.source out r s)).ub = s.ub ∧
    (passIfUnder o ms (endReport o.source out r s)).io = s.io ∧
    (passIfUnder o ms (endReport o.source out r s)).link = s.link := by
  simp

/-- The requester's report and the right after an operation that ended with a pulse. -/
theorem ended_spec (o : Operation) (out : OrderOutcome) (r : Option Reason) (k : Nat) (s : State) :
    Reported o.source out r s (passIfUnder o (1000 * k) (endReport o.source out r s)) ∧
    (passIfUnder o (1000 * k) (endReport o.source out r s)).arb =
      if o.underRight = true then
        { s.arb with busy := if s.arb.vcRequest = .urgent ∨ k = 0 then .notBusy else .settling (1000 * k) }
      else s.arb := by
  refine ⟨(endReport_reported o.source out r s).congr rfl rfl rfl (by simp) (by simp), ?_⟩
  rw [passIfUnder_arb]
  simp

section
variable {i : StepId} {o : Operation} {s : State}

/-- The state in which the operation is gone from its lane, with its confirm timer and pulses as they are left. -/
def laneCut (i : StepId) (f : Lane → Lane) (s : State) : State := (dropOperation i s).modLane i f

theorem laneCut_lane (i j : StepId) (f : Lane → Lane) (s : State) :
    (laneCut i f s).lane j = if j = i then f { s.lane i with op := none, confirm := none } else s.lane j := by
  refine (State.modLane_lane i j f _).trans ?_
  have dropped (j : StepId) : (dropOperation i s).lane j =
      if j = i then { s.lane i with op := none, confirm := none } else s.lane j :=
    State.modLane_lane i j (fun l => { l with op := none, confirm := none }) s
  rw [dropped, dropped, if_pos rfl]
  split <;> rfl

theorem laneCut_quiet {f : Lane → Lane} (h : ∀ l, (f l).op = l.op) : Quiet i (laneCut i f s) := by
  rw [Quiet, laneCut_lane, if_pos rfl, h]
  rfl

/-- A step that becomes FAULTED after its operation has gone: its record, lane and place in the list, and what is left
as it was. -/
structure FaultedAfter (i : StepId) (c : FaultCause) (f : Lane → Lane) (s t : State) : Prop where
  notice : FaultedNotice i s t
  own : t.stepRec i = { leftRec (s.stepRec i).state { s.stepRec i with state := .faulted c } with suspect := false }
  lane : ∀ j, t.lane j = if j = i then f { s.lane i with op := none, confirm := none } else s.lane j
  others : ∀ j, j ≠ i → t.stepRec j = s.stepRec j
  list : i ∉ t.tbl.closedOrder
  yardTrip : t.seq.yardTrip = s.seq.yardTrip
  arb : t.arb = s.arb
  vc : t.vc = s.vc
  oe : t.oe = s.oe

theorem faultedAfter (c : FaultCause) {f : Lane → Lane} (h : ∀ l, (f l).op = l.op)
    (old : (s.stepRec i).state ≠ .closed) :
    FaultedAfter i c f s (moveStep i (.faulted c) (laneCut i f s)) := by
  obtain ⟨still, oe⟩ := still_moveStep (laneCut_quiet h (s := s)) (.faulted c)
  refine ⟨(moveStep_faultedNotice i c (laneCut i f s) :),
    moveStep_stepRec_self i (.faulted c) _, fun j => (lane_congr still.seq j).trans (laneCut_lane i j f s),
    fun j hj => (moveStep_stepRec i j (.faulted c) _).trans (if_neg hj), ?_,
    (congrArg Sequencer.yardTrip still.seq).trans rfl, still.arb, still.vc, oe old⟩
  rw [moveStep_closedOrder, if_neg fun both => by simpa using both.2]
  simp

/-- The expiry of an open's confirm timer on a step whose open is in motion. -/
theorem exec_openConfirmExpiry {n : Nat} (hr : s.resetHeld = false) (ho : (s.lane i).op = some o)
    (hk : o.kind = .trip) (hc : (s.lane i).confirm = some n) :
    exec (.openConfirmExpiry i) s = .next (settle (openFailure i o s)) := by
  refine (live_running s (openConfirmExpiry i) hr).trans ?_
  simp [openConfirmExpiry, ho, hc, hk]

/-- The expiry of a close's confirm timer on a step whose close is in motion. -/
theorem exec_closeConfirmExpiry {n : Nat} {tm : Timing} (hr : s.resetHeld = false) (ho : (s.lane i).op = some o)
    (hk : o.kind = .close tm) (hc : (s.lane i).confirm = some n) :
    exec (.closeConfirmExpiry i) s =
      .next (settle (if s.rx.feedLive then closeFailure i o s else closeNoIndication i o s)) := by
  refine (live_running s (closeConfirmExpiry i) hr).trans ?_
  simp [closeConfirmExpiry, ho, hc, hk]

end

/-- The cut trip pulse of an unconfirmed open. -/
def tripCut (l : Lane) : Lane := { l with tripPulse := 0 }

/-- The state in which an unconfirmed open has faulted its step (R87, R88). -/
def openFaulted (i : StepId) (s : State) : State :=
  let cut := laneCut i tripCut s
  if s.rx.feedLive then
    { raise .switchFail (.step i) (addLockout i .switchFailure (moveStep i (.faulted .switchFailure) cut)) with
      seq.yardTrip := s.cfg.yard.backupPulse }
  else moveStep i (.faulted .noIndication) cut

theorem openFailure_eq (i : StepId) (o : Operation) (s : State) :
    openFailure i o s = passIfUnder o (1000 * s.cfg.yard.settleOpen)
      (endReport o.source .failed (some (if s.rx.feedLive then .position else .noIndication)) (openFaulted i s)) := by
  unfold openFailure openFaulted laneCut tripCut
  cases live : s.rx.feedLive <;> simp

/-- What an unconfirmed open brings about before its end report (R52, R87, R88). -/
structure OpenFaulted (i : StepId) (s t : State) : Prop where
  notice : FaultedNotice i s t
  lane : ∀ j, t.lane j = if j = i then ⟨none, (s.lane i).closePulse, 0, none⟩ else s.lane j
  others : ∀ j, j ≠ i → t.stepRec j = s.stepRec j
  list : i ∉ t.tbl.closedOrder
  arb : t.arb = s.arb
  vc : t.vc = s.vc
  oe : t.oe = s.oe
  outcome :
    if s.rx.feedLive then
      (t.stepRec i).state = .faulted .switchFailure ∧
      (t.stepRec i).lockout = some ((s.stepRec i).lockout.getD .switchFailure) ∧
      AlarmStands .switchFail (.step i) t ∧ t.seq.yardTrip = s.cfg.yard.backupPulse
    else
      (t.stepRec i).state = .faulted .noIndication ∧ (t.stepRec i).lockout = (s.stepRec i).lockout ∧
      t.seq.yardTrip = s.seq.yardTrip

theorem openFaulted_spec {i : StepId} {s : State} (hs : (s.stepRec i).state = .opening) :
    OpenFaulted i s (openFaulted i s) := by
  have faulted (c : FaultCause) := faultedAfter (i := i) (s := s) c (f := tripCut) (fun _ => rfl) (by simp [hs])
  cases live : s.rx.feedLive
  · have eq : openFaulted i s = moveStep i (.faulted .noIndication) (laneCut i tripCut s) := by
      simp only [openFaulted, live, Bool.false_eq_true, if_false]
    obtain ⟨notice, own, lane, others, list, yardTrip, arb, vc, oe⟩ := faulted .noIndication
    rw [eq]
    refine ⟨notice, lane, others, list, arb, vc, oe, ?_⟩
    rw [live, if_neg Bool.false_ne_true, own, hs]
    exact ⟨rfl, rfl, yardTrip⟩
  · obtain ⟨notice, own, lane, others, list, yardTrip, arb, vc, oe⟩ := faulted .switchFailure
    generalize hm : moveStep i (.faulted .switchFailure) (laneCut i tripCut s) = m at *
    have quiet : Quiet i m := by
      rw [Quiet, lane i, if_pos rfl]
      rfl
    have eq : openFaulted i s = { raise .switchFail (.step i)
        (m.modStep i fun c => { c with lockout := some (c.lockout.getD .switchFailure) }) with
        seq.yardTrip := s.cfg.yard.backupPulse } := by
      rw [← addLockout_quiet quiet, ← hm]
      simp only [openFaulted, live, if_true]
    have recs (j : StepId) : (openFaulted i s).stepRec j = if j = i then
        { m.stepRec i with lockout := some ((m.stepRec i).lockout.getD .switchFailure) } else m.stepRec j := by
      rw [eq]
      exact State.modStep_stepRec i j (fun c => { c with lockout := some (c.lockout.getD .switchFailure) }) m
    have self := recs i
    rw [if_pos rfl] at self
    refine ⟨FaultedNotice.congr notice rfl rfl rfl ?_ ?_ ?_ ?_, fun j => ?_, fun j hj => ?_, ?_, ?_, ?_, ?_, ?_⟩
    · rw [self]
    · rw [self]
    · rw [eq]
      rfl
    · rw [eq]
      exact raiseIn_filter (passes_ofKind (k := .resonance) (k' := .switchFail) nofun _) _ _ _
    · rw [eq]
      exact lane j
    · rw [recs, if_neg hj, others j hj]
    · rw [eq]
      exact list
    · rw [eq]
      exact arb
    · rw [eq]
      exact vc
    · rw [eq]
      exact oe
    · rw [live, if_pos rfl, self, own, hs]
      refine ⟨rfl, rfl, ?_, by rw [eq]⟩
      rw [eq]
      exact alarmStands_raise _ _ _

/-- Settles O36: the step is FAULTED in both cases of the feed, then come the report and the right. -/
theorem openConfirmExpiryFaultsTheStep : Obligations.OpenConfirmExpiryFaultsTheStep := by
  unfold Obligations.OpenConfirmExpiryFaultsTheStep
  intro i o n s hr hs ho hk hc
  obtain ⟨notice, lane, others, list, arb, vc, oe, outcome⟩ := openFaulted_spec (i := i) hs
  have cfg : (openFaulted i s).cfg = s.cfg := by
    unfold openFaulted laneCut
    cases s.rx.feedLive <;> simp
  refine ⟨_, exec_openConfirmExpiry hr ho hk hc, ?_⟩
  rw [openFailure_eq]
  generalize openFaulted i s = x at *
  generalize hw : some (if s.rx.feedLive then Reason.position else .noIndication) = why
  obtain ⟨report, right⟩ := ended_spec o .failed why s.cfg.yard.settleOpen x
  obtain ⟨tbl, dt, seq, -, -, -, link⟩ := ended_frame o .failed why (1000 * s.cfg.yard.settleOpen) x
  generalize passIfUnder o (1000 * s.cfg.yard.settleOpen) (endReport o.source .failed why x) = p at *
  have recs (j : StepId) : p.stepRec j = x.stepRec j := stepRec_congr (congrArg StepTable.recs tbl) j
  refine ⟨?_, FaultedNotice.congr notice rfl rfl rfl ?_ ?_ ?_ ?_, fun j hj => ⟨?_, ?_⟩, ?_, ?_, ?_,
    fun j source busy => ?_⟩
  · rw [lane_congr seq, lane, if_pos rfl]
  · rw [recs]
  · rw [recs]
  · rw [timers_congr dt]
  · rw [link]
  · rw [lane_congr seq, lane, if_neg hj]
  · rw [recs, others j hj]
  · rw [tbl]
    exact list
  · have alarms : AlarmStands .switchFail (.step i) p = AlarmStands .switchFail (.step i) x := by
      rw [AlarmStands, link, AlarmStands]
    rw [recs, seq, alarms]
    exact outcome
  · rw [right, arb]
  · obtain ⟨-, -, order⟩ := (report.congr oe.symm vc.symm arb.symm rfl rfl).oe source
    exact hw ▸ order j busy

/-! ### An unconfirmed close (R83, R84) -/

/-- The cut close pulse of an unconfirmed close. -/
def closeCut (l : Lane) : Lane := { l with closePulse := 0 }

theorem closeNoIndication_eq (i : StepId) (o : Operation) (s : State) :
    closeNoIndication i o s = passIfUnder o (1000 * s.cfg.yard.settleClose)
      (endReport o.source .failed (some .noIndication)
        (moveStep i (.faulted .noIndication) (laneCut i closeCut s))) := by
  unfold closeNoIndication laneCut closeCut
  simp

/-- The state in which the failure chain of a close has tripped its step and locked it out (R84). -/
def closeTripped (i : StepId) (o : Operation) (s : State) : State :=
  raise .closeFail (.step i) (addLockout i .closeFailure
    (startTripPulse i ⟨.trip, .protection, .inMotion, o.underRight⟩ s))

theorem closeFailure_eq (i : StepId) (o : Operation) (s : State) :
    closeFailure i o s = endReport o.source .failed (some .position) (closeTripped i o s) := rfl

/-- What the failure chain brings about before the close's end report (R50, R54, R84). -/
structure CloseTripped (i : StepId) (o : Operation) (s t : State) : Prop where
  own : t.stepRec i = { s.stepRec i with
    state := .opening, lastSource := .protection, lockout := some ((s.stepRec i).lockout.getD .closeFailure) }
  lane : ∀ j, t.lane j = if j = i then tripLane ⟨.trip, .protection, .inMotion, o.underRight⟩ s.cfg.yard else s.lane j
  others : ∀ j, j ≠ i → t.stepRec j = s.stepRec j
  dt : t.dt = s.dt
  alarm : AlarmStands .closeFail (.step i) t
  resonance : ofKind .resonance t.link.alarms = ofKind .resonance s.link.alarms
  list : (s.stepRec i).retired = false → i ∈ t.tbl.closedOrder
  yardTrip : t.seq.yardTrip = s.seq.yardTrip
  arb : t.arb = s.arb
  vc : t.vc = s.vc
  oe : t.oe = s.oe

/-- A trip that cuts a close leaves the discharge timers (R67). -/
theorem startTripPulse_dt {i : StepId} {o : Operation} {s : State} (hs : (s.stepRec i).state = .closing) :
    (startTripPulse i o s).dt = s.dt := by
  have own : ((tripPulsed i o s).stepRec i).state = .closing := by
    rw [tripPulsed_stepRec, if_pos rfl]
    exact hs
  rw [startTripPulse_eq, moveStep_eq, own, (tripPulsed_quiet i o s).watch (by simp [enterState, leaveState])]
  simp [enterState, leaveState, tripPulsed]

theorem closeTripped_spec {i : StepId} {s : State} (o : Operation) (hs : (s.stepRec i).state = .closing) :
    CloseTripped i o s (closeTripped i o s) := by
  let trip : Operation := ⟨.trip, .protection, .inMotion, o.underRight⟩
  have lane (j : StepId) := startTripPulse_lane i j trip s
  have recs (j : StepId) := startTripPulse_stepRec i j trip s
  obtain ⟨arb, vc, oe⟩ := startTripPulse_still i trip s
  have dt := startTripPulse_dt (o := trip) hs
  have list := startTripPulse_closedOrder i trip s
  have yardTrip : (startTripPulse i trip s).seq.yardTrip = s.seq.yardTrip := by simp
  have resonance := CauseOver.same (moveStep_resonance i .opening (tripPulsed i trip s))
  have eq : closeTripped i o s =
      raise .closeFail (.step i) (addLockout i .closeFailure (startTripPulse i trip s)) := rfl
  rw [← startTripPulse_eq] at resonance
  generalize startTripPulse i trip s = m at *
  have quiet : Quiet i m := by
    rw [Quiet, lane i, if_pos rfl]
    rfl
  rw [addLockout_quiet quiet] at eq
  have recs' (j : StepId) : (closeTripped i o s).stepRec j = if j = i then
      { m.stepRec i with lockout := some ((m.stepRec i).lockout.getD .closeFailure) } else m.stepRec j := by
    rw [eq]
    exact State.modStep_stepRec i j (fun c => { c with lockout := some (c.lockout.getD .closeFailure) }) m
  rw [eq] at recs' ⊢
  refine ⟨?_, lane, fun j hj => ?_, dt, alarmStands_raise _ _ _, ?_, fun retired => ?_, yardTrip, arb, vc,
    oe (by simp [hs])⟩
  · rw [recs' i, if_pos rfl, recs, if_pos rfl, hs]
    rfl
  · rw [recs' j, if_neg hj, recs, if_neg hj]
  · exact (raiseIn_filter (passes_ofKind (k := .resonance) (k' := .closeFail) nofun _) _ _ _).trans resonance
  · show i ∈ m.tbl.closedOrder
    rw [list, if_pos retired]
    split
    · assumption
    · simp

/-- Settles O35: the two feeds, each with its end report. -/
theorem closeConfirmExpiryFailsTheClose : Obligations.CloseConfirmExpiryFailsTheClose := by
  unfold Obligations.CloseConfirmExpiryFailsTheClose
  intro i o tm n s hr hs ho hk hc
  refine ⟨_, exec_closeConfirmExpiry hr ho hk hc, ?_⟩
  cases live : s.rx.feedLive
  · simp only [Bool.false_eq_true, if_false]
    rw [closeNoIndication_eq]
    obtain ⟨notice, own, lane, others, list, yardTrip, arb, vc, oe⟩ :=
      faultedAfter (i := i) (s := s) .noIndication (f := closeCut) (fun _ => rfl) (by simp [hs])
    generalize moveStep i (.faulted .noIndication) (laneCut i closeCut s) = x at *
    obtain ⟨report, right⟩ := ended_spec o .failed (some .noIndication) s.cfg.yard.settleClose x
    obtain ⟨tbl, dt, seq, -, -, -, link⟩ :=
      ended_frame o .failed (some .noIndication) (1000 * s.cfg.yard.settleClose) x
    generalize passIfUnder o (1000 * s.cfg.yard.settleClose)
      (endReport o.source .failed (some .noIndication) x) = p at *
    have recs (j : StepId) : p.stepRec j = x.stepRec j := stepRec_congr (congrArg StepTable.recs tbl) j
    have self : p.lane i = closeCut { s.lane i with op := none, confirm := none } := by
      rw [lane_congr seq, lane, if_pos rfl]
    rw [recs, self, seq, tbl, right, arb]
    refine ⟨rfl, fun j hj => ⟨?_, ?_⟩, ⟨?_, ?_, rfl, rfl, rfl, list, rfl⟩, fun j source busy => ?_, ?_, yardTrip⟩
    · rw [lane_congr seq, lane, if_neg hj]
    · rw [recs, others j hj]
    · rw [own, hs]
      rfl
    · exact FaultedNotice.congr notice rfl rfl rfl (by rw [recs]) (by rw [recs]) (timers_congr dt i) (by rw [link])
    · obtain ⟨-, -, order⟩ := (report.congr oe.symm vc.symm arb.symm rfl rfl).oe source
      exact order j busy
    · rw [own, hs]
      rfl
  · simp only [if_true]
    rw [closeFailure_eq]
    obtain ⟨own, lane, others, dt, alarm, resonance, list, yardTrip, arb, vc, oe⟩ := closeTripped_spec (s := s) o hs
    generalize closeTripped i o s = x at *
    have report := endReport_reported o.source .failed (some .position) x
    have frame : (endReport o.source .failed (some .position) x).tbl = x.tbl ∧
        (endReport o.source .failed (some .position) x).dt = x.dt ∧
        (endReport o.source .failed (some .position) x).seq = x.seq ∧
        (endReport o.source .failed (some .position) x).arb = x.arb ∧
        (endReport o.source .failed (some .position) x).link = x.link := by simp
    obtain ⟨tbl, dt', seq, right, link⟩ := frame
    generalize endReport o.source .failed (some .position) x = p at *
    have recs (j : StepId) : p.stepRec j = x.stepRec j := stepRec_congr (congrArg StepTable.recs tbl) j
    have self : p.lane i = tripLane ⟨.trip, .protection, .inMotion, o.underRight⟩ s.cfg.yard := by
      rw [lane_congr seq, lane, if_pos rfl]
    rw [recs, self, own, seq, tbl]
    refine ⟨rfl, fun j hj => ⟨?_, ?_⟩, ⟨rfl, rfl, rfl, rfl, ?_, right.trans arb, dt'.trans dt, rfl, ?_, list⟩,
      fun j source busy => ?_, rfl, yardTrip⟩
    · rw [lane_congr seq, lane, if_neg hj]
    · rw [recs, others j hj]
    · rwa [AlarmStands, link]
    · exact causeOver_false (by rw [link, resonance]) _
    · obtain ⟨-, -, order⟩ := (report.congr oe.symm vc.symm arb.symm rfl rfl).oe source
      exact order j busy

end Sys2Proof.Proofs

namespace Sys2Proof.Proofs

open Sys2Proof.Machine Sys2Proof.Safety Sys2Proof.Laws

/-! ### A protective open (R89, R90) -/

/-- The trip that a protective open starts. -/
def protectiveTrip (under : Bool) : Operation := ⟨.trip, .protection, .inMotion, under⟩

/-- Whether the trip of a protective open is under the right: as the close it cuts was (R90). -/
def cutUnderRight (i : StepId) (s : State) : Bool :=
  match (s.stepRec i).state, (s.lane i).op with
  | .closing, some o => o.underRight
  | _, _ => false

section
variable {i : StepId} {s : State}

theorem protectiveOpen_closed (hs : (s.stepRec i).state = .closed) :
    protectiveOpen i s = if (s.lines i).direct then s else startTripPulse i (protectiveTrip false) s := by
  simp [protectiveOpen, hs, protectiveTrip]

theorem protectiveOpen_closing {o : Operation} (hs : (s.stepRec i).state = .closing) (ho : (s.lane i).op = some o) :
    protectiveOpen i s = endReport o.source .preempted none (startTripPulse i (protectiveTrip o.underRight) s) := by
  simp [protectiveOpen, hs, ho, protectiveTrip]

theorem protectiveOpen_closing_bare (hs : (s.stepRec i).state = .closing) (ho : (s.lane i).op = none) :
    protectiveOpen i s = startTripPulse i (protectiveTrip false) s := by
  simp [protectiveOpen, hs, ho, protectiveTrip]

theorem protectiveOpen_other (closed : (s.stepRec i).state ≠ .closed) (closing : (s.stepRec i).state ≠ .closing) :
    protectiveOpen i s = s := by
  unfold protectiveOpen
  split
  · exact absurd ‹_› closed
  · exact absurd ‹_› closing
  · rfl

/-- A step that a protective open trips: its record and its lane, and what is left as it was (R50, R86, R90). -/
structure Tripped (i : StepId) (under : Bool) (s t : State) : Prop where
  own : t.stepRec i = { s.stepRec i with state := .opening, lastSource := .protection }
  lane : ∀ j, t.lane j = if j = i then tripLane (protectiveTrip under) s.cfg.yard else s.lane j
  others : ∀ j, j ≠ i → t.stepRec j = s.stepRec j
  timers : ∀ j, t.timers j = s.timers j
  arb : t.arb = s.arb

theorem startTripPulse_tripped (under : Bool) (hs : (s.stepRec i).state ≠ .opened) :
    Tripped i under s (startTripPulse i (protectiveTrip under) s) := by
  have recs (j : StepId) := startTripPulse_stepRec i j (protectiveTrip under) s
  obtain ⟨arb, -, -⟩ := startTripPulse_still i (protectiveTrip under) s
  refine ⟨?_, fun j => startTripPulse_lane i j _ s, fun j hj => (recs j).trans (if_neg hj),
    fun j => startTripPulse_timers i j _ s hs, arb⟩
  rw [recs, if_pos rfl]
  cases h : (s.stepRec i).state with
  | opened => exact absurd h hs
  | _ => rfl

/-- The cut close's report changes nothing of the step. -/
theorem Tripped.reported {under : Bool} {t : State} (h : Tripped i under s t) (src : Requester) (out : OrderOutcome)
    (r : Option Reason) : Tripped i under s (endReport src out r t) := by
  have frame : (endReport src out r t).tbl = t.tbl ∧ (endReport src out r t).dt = t.dt ∧
      (endReport src out r t).seq = t.seq ∧ (endReport src out r t).arb = t.arb := by simp
  obtain ⟨tbl, dt, seq, arb⟩ := frame
  have recs (j : StepId) := stepRec_congr (congrArg StepTable.recs tbl) j
  exact ⟨(recs i).trans h.own, fun j => (lane_congr seq j).trans (h.lane j), fun j hj => (recs j).trans (h.others j hj),
    fun j => (timers_congr dt j).trans (h.timers j), arb.trans h.arb⟩

/-- A protective open of a CLOSED or CLOSING step that is not DIRECT-owned trips it. -/
theorem protectiveOpen_tripped (hs : (s.stepRec i).state = .closed ∧ (s.lines i).direct = false ∨
    (s.stepRec i).state = .closing) : Tripped i (cutUnderRight i s) s (protectiveOpen i s) := by
  rcases hs with ⟨closed, controlled⟩ | closing
  · rw [protectiveOpen_closed closed, controlled, if_neg Bool.false_ne_true,
      show cutUnderRight i s = false by simp [cutUnderRight, closed]]
    exact startTripPulse_tripped false (by simp [closed])
  · cases ho : (s.lane i).op with
    | none =>
      rw [protectiveOpen_closing_bare closing ho, show cutUnderRight i s = false by simp [cutUnderRight, ho]]
      exact startTripPulse_tripped false (by simp [closing])
    | some o =>
      rw [protectiveOpen_closing closing ho, show cutUnderRight i s = o.underRight by simp [cutUnderRight, closing, ho]]
      exact (startTripPulse_tripped o.underRight (by simp [closing])).reported _ _ _

/-- A protective open does nothing to a step in any other state, or trips it. -/
theorem protectiveOpen_cases (i : StepId) (s : State) :
    protectiveOpen i s = s ∨ Tripped i (cutUnderRight i s) s (protectiveOpen i s) := by
  by_cases closing : (s.stepRec i).state = .closing
  · exact .inr (protectiveOpen_tripped (.inr closing))
  by_cases closed : (s.stepRec i).state = .closed
  · cases direct : (s.lines i).direct
    · exact .inr (protectiveOpen_tripped (.inl ⟨closed, direct⟩))
    · exact .inl (by rw [protectiveOpen_closed closed, direct, if_pos rfl])
  · exact .inl (protectiveOpen_other closed closing)

/-- A protective open of one step leaves the records, lanes and timers of the others, and the right. -/
theorem protectiveOpen_others (i : StepId) (s : State) :
    (∀ j, j ≠ i → (protectiveOpen i s).stepRec j = s.stepRec j ∧ (protectiveOpen i s).lane j = s.lane j ∧
      (protectiveOpen i s).timers j = s.timers j) ∧ (protectiveOpen i s).arb = s.arb := by
  rcases protectiveOpen_cases i s with same | trip
  · rw [same]
    exact ⟨fun _ _ => ⟨rfl, rfl, rfl⟩, rfl⟩
  · exact ⟨fun j hj => ⟨trip.others j hj, (trip.lane j).trans (if_neg hj), trip.timers j⟩, trip.arb⟩

end

/-! ### One round for each step -/

/-- A property of one step that the rounds of the other steps keep. -/
theorem forEach_without {α : Type} {f : α → State → State} {a : α} {P : State → Prop}
    (others : ∀ b s, b ≠ a → P s → P (f b s)) {l : List α} (absent : a ∉ l) {s : State} (h : P s) :
    P (forEach f l s) := by
  induction l generalizing s with
  | nil => exact h
  | cons b l ih =>
    rw [List.mem_cons, not_or] at absent
    exact ih absent.2 (others b s (Ne.symm absent.1) h)

/-- A property of one step that its own round brings about and the other rounds keep. -/
theorem forEach_once {α : Type} [DecidableEq α] {f : α → State → State} {a : α} {P Q : State → Prop}
    (before : ∀ b s, b ≠ a → P s → P (f b s)) (own : ∀ s, P s → Q (f a s)) (after : ∀ b s, b ≠ a → Q s → Q (f b s))
    {l : List α} (nodup : l.Nodup) (mem : a ∈ l) {s : State} (h : P s) : Q (forEach f l s) := by
  induction l generalizing s with
  | nil => cases mem
  | cons b l ih =>
    obtain ⟨absent, nodup⟩ := List.nodup_cons.mp nodup
    by_cases e : b = a
    · subst e
      exact forEach_without after absent (own s h)
    · exact ih nodup ((List.mem_cons.mp mem).resolve_left (Ne.symm e)) (before b s e h)

theorem allSteps_nodup : allSteps.Nodup := by decide

theorem mem_allSteps (i : StepId) : i ∈ allSteps := by revert i; decide

/-! ### The emergency edge (R181) -/

/-- The lines after every DIRECT-owned step is returned. -/
theorem returnAll_lines (i : StepId) (s : State) :
    (returnAll s).lines i = if (s.lines i).direct then ⟨false, false, false, false, false⟩ else s.lines i := by
  have others (b : StepId) (t : State) (ne : b ≠ i) : (returnDirect b t).lines i = t.lines i := by
    unfold returnDirect
    split
    · exact (State.modLines_lines b i (fun _ => ⟨false, false, false, false, false⟩) t).trans (if_neg (Ne.symm ne))
    · rfl
  refine forEach_once (P := fun t => t.lines i = s.lines i)
    (Q := fun t => t.lines i = if (s.lines i).direct then ⟨false, false, false, false, false⟩ else s.lines i)
    (fun b t ne h => (others b t ne).trans h) (fun t h => ?_) (fun b t ne h => (others b t ne).trans h)
    allSteps_nodup (mem_allSteps i) rfl
  unfold returnDirect
  rw [h]
  split
  · exact State.modLines_lines_self i (fun _ => ⟨false, false, false, false, false⟩) t
  · exact h

/-- Everything but the lines is left by their return. -/
theorem returnAll_keeps {β : Type} (g : State → β) (h : ∀ i f s, g (State.modLines s i f) = g s) (s : State) :
    g (returnAll s) = g s := by
  refine forEach_keeps g returnDirect (fun i t => ?_) allSteps s
  unfold returnDirect
  split
  · exact h i _ t
  · rfl

/-- The steps that the emergency edge opens (R181). -/
def openable (s : State) : List StepId :=
  allSteps.filter fun i => decide ((s.stepRec i).state = .closed) || decide ((s.stepRec i).state = .closing)

theorem openAll_eq (s : State) : openAll s = forEach protectiveOpen (openable s) s := rfl

theorem mem_openable (i : StepId) (s : State) :
    i ∈ openable s ↔ (s.stepRec i).state = .closed ∨ (s.stepRec i).state = .closing := by
  simp [openable, mem_allSteps]

theorem openable_nodup (s : State) : (openable s).Nodup := allSteps_nodup.filter _

/-- What a protective open leaves as it is, a protective open of every step leaves so. -/
theorem openAll_keeps {β : Type} (g : State → β) (h : ∀ i s, g (protectiveOpen i s) = g s) (s : State) :
    g (openAll s) = g s := forEach_keeps g protectiveOpen h (openable s) s

/-- A step that is neither CLOSED nor CLOSING is left as it is. -/
theorem openAll_stays {i : StepId} {s : State}
    (stays : ¬((s.stepRec i).state = .closed ∨ (s.stepRec i).state = .closing)) :
    (openAll s).stepRec i = s.stepRec i ∧ (openAll s).lane i = s.lane i := by
  rw [openAll_eq]
  refine forEach_without (a := i) (P := fun t => t.stepRec i = s.stepRec i ∧ t.lane i = s.lane i) (fun b t ne h => ?_)
    (fun mem => stays ((mem_openable i s).mp mem)) ⟨rfl, rfl⟩
  obtain ⟨recs, lane, -⟩ := (protectiveOpen_others b t).1 i (Ne.symm ne)
  exact ⟨recs.trans h.1, lane.trans h.2⟩

/-- A CLOSED or CLOSING step that is not DIRECT-owned is tripped. -/
theorem openAll_trips {i : StepId} {s : State} (controlled : (s.lines i).direct = false)
    (trips : (s.stepRec i).state = .closed ∨ (s.stepRec i).state = .closing) :
    (openAll s).stepRec i = { s.stepRec i with state := .opening, lastSource := .protection } ∧
    (openAll s).lane i = tripLane (protectiveTrip (cutUnderRight i s)) s.cfg.yard := by
  have others (b : StepId) (t : State) (ne : b ≠ i) := (protectiveOpen_others b t).1 i (Ne.symm ne)
  rw [openAll_eq]
  refine forEach_once
    (P := fun t => t.stepRec i = s.stepRec i ∧ t.lane i = s.lane i ∧ t.io = s.io ∧ t.cfg = s.cfg)
    (Q := fun t => t.stepRec i = { s.stepRec i with state := .opening, lastSource := .protection } ∧
      t.lane i = tripLane (protectiveTrip (cutUnderRight i s)) s.cfg.yard)
    (fun b t ne h => ?_) (fun t h => ?_) (fun b t ne h => ?_) (openable_nodup s) ((mem_openable i s).mpr trips)
    ⟨rfl, rfl, rfl, rfl⟩
  · obtain ⟨recs, lane, -⟩ := others b t ne
    obtain ⟨recs', lane', io, cfg⟩ := h
    have frame : (protectiveOpen b t).io = t.io ∧ (protectiveOpen b t).cfg = t.cfg := by simp
    exact ⟨recs.trans recs', lane.trans lane', frame.1.trans io, frame.2.trans cfg⟩
  · obtain ⟨recs, lane, io, cfg⟩ := h
    have lines : (t.lines i).direct = false := by
      rw [State.lines, io]
      exact controlled
    have under : cutUnderRight i t = cutUnderRight i s := by rw [cutUnderRight, recs, lane, cutUnderRight]
    have trip := protectiveOpen_tripped (i := i) (s := t) (recs ▸ trips.imp (⟨·, lines⟩) id)
    rw [under] at trip
    exact ⟨by rw [trip.own, recs], by rw [trip.lane, if_pos rfl, cfg]⟩
  · obtain ⟨recs, lane, -⟩ := others b t ne
    exact ⟨recs.trans h.1, lane.trans h.2⟩

/-- The entry that a raise notice leaves: not acknowledged, with the cause and detail of its kind (R199). -/
theorem raiseIn_mem (now : Word) (k : AlarmKind) (sub : Subject) (cut : Bool) (as : List AlarmEntry) :
    ∃ e ∈ raiseIn now k sub cut as,
      e.kind = k ∧ e.subject = sub ∧ e.acked = false ∧ e.cause = !k.momentary ∧ e.cooldownCut = cut := by
  unfold raiseIn
  split
  · next there =>
    obtain ⟨e, he, hf⟩ := List.any_eq_true.mp there
    have own : e.kind = k ∧ e.subject = sub := by simpa [AlarmEntry.isFor] using hf
    exact ⟨_, List.mem_map.mpr ⟨e, he, if_pos hf⟩, own.1, own.2, rfl, rfl, rfl⟩
  · exact ⟨_, List.mem_append_right _ (List.mem_singleton_self _), rfl, rfl, rfl, rfl, rfl⟩

/-- The state in which the input's level has changed and every DIRECT-owned step is returned (R181). -/
def edgeReturned (s : State) : State := returnAll { s with io.inp1 := ⟨true, true, none, 0⟩ }

theorem edgeReturned_keeps {β : Type} (g : State → β) (h : ∀ i f s, g (State.modLines s i f) = g s) (s : State) :
    g (edgeReturned s) = g { s with io.inp1 := ⟨true, true, none, 0⟩ } := returnAll_keeps g h _

theorem edgeReturned_lines (i : StepId) (s : State) : (edgeReturned s).lines i =
    if (s.lines i).direct then ⟨false, false, false, false, false⟩ else s.lines i :=
  returnAll_lines i { s with io.inp1 := ⟨true, true, none, 0⟩ }

/-- No step is DIRECT-owned any more. -/
theorem edgeReturned_controlled (i : StepId) (s : State) : ((edgeReturned s).lines i).direct = false := by
  rw [edgeReturned_lines]
  split
  · rfl
  · next controlled => exact Bool.eq_false_iff.mpr controlled

/-- The emergency edge, before its consequences. -/
theorem exec_emergencyEdge {s : State} (hr : s.resetHeld = false) (hl : s.io.inp1.level = false) :
    exec (.inputLevelChange .inp1 true) s =
      .next (settle (raise .emergencyOpen .yard (openAll (edgeReturned s)))) := by
  refine (live_running s (levelChange .inp1 true) hr).trans ?_
  simp only [levelChange, State.input, hl, Bool.false_eq_true, if_false]
  rfl

/-- The edge leaves the inputs, the right and the measurement as they are. -/
theorem openAll_frame (s : State) :
    (openAll s).io = s.io ∧ (openAll s).arb = s.arb ∧ (openAll s).rx = s.rx ∧ (openAll s).mu = s.mu ∧
    (openAll s).cfg = s.cfg ∧ (openAll s).clock = s.clock :=
  ⟨openAll_keeps (·.io) (fun _ _ => by simp) s, openAll_keeps (·.arb) (fun i t => (protectiveOpen_others i t).2) s,
    openAll_keeps (·.rx) (fun _ _ => by simp) s, openAll_keeps (·.mu) (fun _ _ => by simp) s,
    openAll_keeps (·.cfg) (fun _ _ => by simp) s, openAll_keeps (·.clock) (fun _ _ => by simp) s⟩

theorem edgeReturned_frame (s : State) :
    (edgeReturned s).io.inp0 = s.io.inp0 ∧ (edgeReturned s).io.inp1 = ⟨true, true, none, 0⟩ ∧
    (edgeReturned s).io.inp2 = s.io.inp2 ∧ (edgeReturned s).io.strap = s.io.strap ∧ (edgeReturned s).arb = s.arb ∧
    (edgeReturned s).rx = s.rx ∧ (edgeReturned s).mu = s.mu ∧ (edgeReturned s).cfg = s.cfg ∧
    (edgeReturned s).clock = s.clock :=
  ⟨edgeReturned_keeps (·.io.inp0) (fun _ _ _ => rfl) s, edgeReturned_keeps (·.io.inp1) (fun _ _ _ => rfl) s,
    edgeReturned_keeps (·.io.inp2) (fun _ _ _ => rfl) s, edgeReturned_keeps (·.io.strap) (fun _ _ _ => rfl) s,
    edgeReturned_keeps (·.arb) (fun _ _ _ => rfl) s, edgeReturned_keeps (·.rx) (fun _ _ _ => rfl) s,
    edgeReturned_keeps (·.mu) (fun _ _ _ => rfl) s, edgeReturned_keeps (·.cfg) (fun _ _ _ => rfl) s,
    edgeReturned_keeps (·.clock) (fun _ _ _ => rfl) s⟩

/-- Each step at the emergency edge (R181, R89). -/
theorem edge_step (i : StepId) (s : State) :
    if (s.stepRec i).state = .closed ∨ (s.stepRec i).state = .closing then
      ((openAll (edgeReturned s)).stepRec i).state = .opening ∧
      ((openAll (edgeReturned s)).stepRec i).lastSource = .protection ∧
      (openAll (edgeReturned s)).lane i = tripLane (protectiveTrip (cutUnderRight i s)) s.cfg.yard
    else (openAll (edgeReturned s)).stepRec i = s.stepRec i ∧ (openAll (edgeReturned s)).lane i = s.lane i := by
  have recs : (edgeReturned s).stepRec i = s.stepRec i := edgeReturned_keeps (·.stepRec i) (fun _ _ _ => rfl) s
  have lane : (edgeReturned s).lane i = s.lane i := edgeReturned_keeps (·.lane i) (fun _ _ _ => rfl) s
  have cfg : (edgeReturned s).cfg = s.cfg := edgeReturned_keeps (·.cfg) (fun _ _ _ => rfl) s
  split
  · next trips =>
    obtain ⟨own, lane'⟩ := openAll_trips (edgeReturned_controlled i s) (by rwa [recs])
    have under : cutUnderRight i (edgeReturned s) = cutUnderRight i s := by
      rw [cutUnderRight, recs, lane, cutUnderRight]
    rw [under, cfg] at lane'
    exact ⟨congrArg StepRec.state own, congrArg StepRec.lastSource own, lane'⟩
  · next stays =>
    obtain ⟨own, lane'⟩ := openAll_stays (i := i) (s := edgeReturned s) (by rwa [recs])
    exact ⟨own.trans recs, lane'.trans lane⟩

/-- What the table of R89 gives a tripped step, beside the reports. -/
theorem protectiveOpen_opens {i : StepId} {s : State} {under : Bool} (h : Tripped i under s (protectiveOpen i s)) :
    let t := protectiveOpen i s
    (t.stepRec i).state = .opening ∧ (t.stepRec i).lastSource = .protection ∧
    (t.stepRec i).opCount = (s.stepRec i).opCount ∧
    t.lane i = ⟨some ⟨.trip, .protection, .inMotion, under⟩, 0, s.cfg.yard.tripPulse, some s.cfg.yard.confirmTime⟩ ∧
    t.seq.yardTrip = s.seq.yardTrip ∧ t.arb = s.arb ∧ t.hs = s.hs ∧
    ∀ j, j ≠ i → t.stepRec j = s.stepRec j ∧ t.lane j = s.lane j := by
  obtain ⟨own, lane, others, -, arb⟩ := h
  dsimp only
  rw [own, lane, if_pos rfl]
  exact ⟨rfl, rfl, rfl, rfl, by simp, arb, by simp, fun j hj => ⟨others j hj, (lane j).trans (if_neg hj)⟩⟩

/-- Settles O38: the edge step by step over the yard, then one protective open by the table of R89. -/
theorem emergencyEdgeOpensEveryStep : Obligations.EmergencyEdgeOpensEveryStep := by
  unfold Obligations.EmergencyEdgeOpensEveryStep
  refine ⟨fun s hr hl => ⟨_, exec_emergencyEdge hr hl, ?_⟩, fun i s => ⟨fun closed direct => ?_,
    fun closed controlled => ?_, fun o closing ho => ?_, protectiveOpen_other⟩⟩
  · obtain ⟨io, arb, rx, mu, cfg, clock⟩ := openAll_frame (edgeReturned s)
    have steps (i : StepId) := edge_step i s
    have lines (i : StepId) := edgeReturned_lines i s
    have kept := edgeReturned_frame s
    generalize openAll (edgeReturned s) = z at *
    generalize edgeReturned s = y at *
    obtain ⟨inp0, inp1, inp2, strap, arb', rx', mu', cfg', clock'⟩ := kept
    refine ⟨io ▸ inp1, io ▸ inp0, io ▸ inp2, io ▸ strap, fun i => ?_, steps, ?_, arb.trans arb', rx.trans rx',
      mu.trans mu', cfg.trans cfg', clock.trans clock'⟩
    · refine Eq.trans ?_ (lines i)
      exact congrArg (fun q : Inputs => look q.lines i) io
    · obtain ⟨e, mem, kind, subject, fresh, cause, -⟩ :=
        raiseIn_mem z.clock.seconds .emergencyOpen .yard false z.link.alarms
      exact ⟨e, mem, kind, subject, fresh, cause⟩
  · rw [protectiveOpen_closed closed, direct, if_pos rfl]
  · have trip := protectiveOpen_tripped (i := i) (s := s) (.inl ⟨closed, controlled⟩)
    rw [show cutUnderRight i s = false by simp [cutUnderRight, closed]] at trip
    refine ⟨protectiveOpen_opens trip, ?_⟩
    rw [protectiveOpen_closed closed, controlled, if_neg Bool.false_ne_true]
    exact (startTripPulse_still i _ s).2.1
  · have trip := protectiveOpen_tripped (i := i) (s := s) (.inr closing)
    rw [show cutUnderRight i s = o.underRight by simp [cutUnderRight, closing, ho]] at trip
    obtain ⟨arb, vc, oe⟩ := startTripPulse_still i (protectiveTrip o.underRight) s
    have oe := oe (by simp [closing])
    have report : Reported o.source .preempted none s (protectiveOpen i s) := by
      rw [protectiveOpen_closing closing ho]
      exact (endReport_reported _ _ _ _).congr oe.symm vc.symm arb.symm rfl rfl
    refine ⟨protectiveOpen_opens trip, fun retired absent => ?_, report.vc, fun source => ?_⟩
    · have list := startTripPulse_closedOrder i (protectiveTrip o.underRight) s
      rw [if_pos retired, if_neg absent] at list
      rw [protectiveOpen_closing closing ho]
      refine Eq.trans ?_ list
      simp
    · obtain ⟨vc', -, order⟩ := report.oe source
      exact ⟨vc', order⟩

end Sys2Proof.Proofs

namespace Sys2Proof.Proofs

open Sys2Proof.Machine Sys2Proof.Safety Sys2Proof.Laws

/-! ### The V stage and the close it withdraws (R106, R122) -/

/-- The V stage's counter and state at a good window (R121). -/
def stageV (s : State) : Nat × Bool :=
  alarmStage s.hs.dv s.cfg.yard.dvAlarm s.cfg.yard.harmAlarmDelay s.hs.vCount s.hs.vActive

/-- The state in which the V stage has its new state, its alarm entry with it. -/
def stagedV (s : State) : State :=
  alarmEdge .harmAlarmV .yard s.hs.vActive (stageV s).2
    { s with hs.vCount := (stageV s).1, hs.vActive := (stageV s).2 }

theorem hsStageV_eq (s : State) :
    hsStageV s = if (stageV s).2 && !s.hs.vActive then vcWithdrawClose (stagedV s) else stagedV s := rfl

theorem stagedV_frame (s : State) :
    (stagedV s).seq = s.seq ∧ (stagedV s).arb = s.arb ∧ (stagedV s).vc = s.vc ∧ (stagedV s).oe = s.oe ∧
    (stagedV s).tbl = s.tbl ∧ (stagedV s).hs.vActive = (stageV s).2 := by
  unfold stagedV alarmEdge
  (repeat' split) <;> simp

theorem hsStageV_vActive (s : State) : (hsStageV s).hs.vActive = (stageV s).2 := by
  have staged := (stagedV_frame s).2.2.2.2.2
  rw [hsStageV_eq]
  split
  · refine Eq.trans ?_ staged
    simp
  · exact staged

/-- What a close of voltage control is withdrawn from stands as it was, but for that close. -/
def Untaken (s t : State) : Prop := t.seq = s.seq ∧ t.arb = s.arb ∧ t.vc = s.vc ∧ t.oe = s.oe

theorem stagedV_untaken (s : State) : Untaken s (stagedV s) := by
  obtain ⟨seq, arb, vc, oe, -⟩ := stagedV_frame s
  exact ⟨seq, arb, vc, oe⟩

/-- Where no step holds a close without a pulse there is none to withdraw. -/
theorem unpulsedClose_none {s : State} (h : ∀ j, (s.lane j).op.any Operation.unpulsed = false) :
    unpulsedClose s = none := by
  have none : unpulsedStep s = none := by
    refine List.find?_eq_none.mpr fun j _ => ?_
    have quiet := h j
    cases ho : (s.lane j).op <;> simp_all
  simp [unpulsedClose, none]

theorem vcWithdrawClose_none {s : State} (h : ∀ j, (s.lane j).op.any Operation.unpulsed = false) :
    vcWithdrawClose s = s := by
  simp [vcWithdrawClose, unpulsedClose_none h]

/-- The only close without a pulse is withdrawn when it is voltage control's (R106). -/
theorem vcWithdrawClose_held {i : StepId} {o : Operation} {s : State} (ho : (s.lane i).op = some o)
    (hu : o.unpulsed = true) (hn : NoOtherHeldClose i s) :
    vcWithdrawClose s = if o.source = .vc then abandonClose i .preempted none s else s := by
  simp [vcWithdrawClose, unpulsedClose_eq ho hn, hu]

/-- A V state that becomes active withdraws a held close of voltage control (R106, R122). -/
theorem hsStageV_withdraws {i : StepId} {o : Operation} {tm : Timing} {s : State}
    (after : (hsStageV s).hs.vActive = true) (before : s.hs.vActive = false) (ho : (s.lane i).op = some o)
    (hk : o.kind = .close tm) (hp : o.phase ≠ .inMotion) (hn : NoOtherHeldClose i s) :
    (o.source ≠ .vc → Untaken s (hsStageV s)) ∧
    (o.source = .vc →
      (hsStageV s).lane i = { s.lane i with op := none } ∧ (hsStageV s).seq.schedule = none ∧
      (hsStageV s).seq.syncWait = none ∧ (hsStageV s).arb = { s.arb with busy := .notBusy } ∧
      (hsStageV s).tbl = s.tbl ∧ (hsStageV s).oe = s.oe ∧ (hsStageV s).vc = (vcEndReport s).vc) := by
  obtain ⟨seq, arb, vc, oe, tbl, -⟩ := stagedV_frame s
  rw [hsStageV_vActive] at after
  have held : (o.unpulsed) = true := by simp [unpulsed_close hk, hp]
  have lane (j : StepId) := lane_congr seq j
  have eq : hsStageV s = if o.source = .vc then abandonClose i .preempted none (stagedV s) else stagedV s := by
    rw [hsStageV_eq, after, before, ← vcWithdrawClose_held ((congrArg Lane.op (lane i)).trans ho) held
      fun j hj => by rw [lane]; exact hn j hj]
    rfl
  refine ⟨fun other => ?_, fun own => ?_⟩
  · rw [eq, if_neg other]
    exact stagedV_untaken s
  · have frame : (abandonClose i .preempted none (stagedV s)).tbl = (stagedV s).tbl := by simp
    obtain ⟨lane', schedule, syncWait, right, report, -⟩ :=
      abandonClose_ended none ((congrArg Lane.op (lane i)).trans ho)
    rw [eq, if_pos own]
    obtain ⟨order, vc'⟩ := report own
    refine ⟨by rw [lane', lane], schedule, syncWait, by rw [right, arb], frame.trans tbl, order.trans oe, vc'.trans ?_⟩
    simp only [vcEndReport, clearBand, vc, arb]

/-! ### The trip stage and the shed (R124, R125) -/

/-- At the trip level the counter goes up to the threshold, where a shed is due (R124, R125). -/
theorem hsTrip_level {x : Nat} {s : State} (hd : s.hs.dv = some x) (hx : s.cfg.yard.dvTrip ≤ x) :
    hsTrip s =
      if min (s.hs.tripCount + 1) (tripThreshold s.cfg.yard s.hs) = tripThreshold s.cfg.yard s.hs then
        match shedChoice s with
        | none => { s with hs.tripCount := tripThreshold s.cfg.yard s.hs }
        | some i => shed i { s with hs.tripCount := tripThreshold s.cfg.yard s.hs }
      else { s with hs.tripCount := min (s.hs.tripCount + 1) (tripThreshold s.cfg.yard s.hs) } := by
  unfold hsTrip
  simp only [hd, hx, if_true]
  split
  · next due =>
    rw [due]
    rfl
  · rfl

/-- There is no step to shed only when the list is empty (R125). -/
theorem shedChoice_none (s : State) : shedChoice s = none ↔ s.tbl.closedOrder = [] := by
  unfold shedChoice
  cases s.tbl.closedOrder with
  | nil => simp
  | cons i rest => cases h : (s.stepRec i).suspect <;> simp [h]

theorem shedChoice_cons {i : StepId} {rest : List StepId} {s : State} (h : s.tbl.closedOrder = i :: rest) :
    shedChoice s = if (s.stepRec i).suspect then some i else s.tbl.closedOrder.getLast? := by
  unfold shedChoice
  rw [h]

/-- An arming request arms a step that is not OPEN, UNKNOWN or ABSENT (R69). -/
theorem armHoldoff_arms {i : StepId} {s : State} (hs : (s.stepRec i).state = .closed ∨ (s.stepRec i).state = .opening) :
    armHoldoff i s = s.modTimers i fun t => { t with arming := true } := by
  rcases hs with hs | hs <;> simp [armHoldoff, hs]

/-- An arming request leaves the records and timers of the other steps. -/
theorem armHoldoff_others {i j : StepId} (hj : j ≠ i) (s : State) :
    (armHoldoff i s).stepRec j = s.stepRec j ∧ (armHoldoff i s).timers j = s.timers j := by
  unfold armHoldoff
  split
  · exact ⟨by rw [startHoldoff_stepRec, if_neg fun h => hj h.1], by rw [startHoldoff_timers, if_neg hj]⟩
  · exact ⟨rfl, rfl⟩
  · exact ⟨rfl, rfl⟩
  · exact ⟨rfl, by rw [State.modTimers_timers, if_neg hj]⟩

/-- A protective open leaves every step's timers. -/
theorem protectiveOpen_timers (i j : StepId) (s : State) : (protectiveOpen i s).timers j = s.timers j :=
  (protectiveOpen_cases i s).elim (fun same => congrArg (·.timers j) same) fun trip => trip.timers j

/-- The step, its lane and its timers after a shed are those after its arming and its protective open. -/
theorem shed_views (i j : StepId) (s : State) :
    (shed i s).stepRec j = (protectiveOpen i (armHoldoff i s)).stepRec j ∧
    (shed i s).lane j = (protectiveOpen i (armHoldoff i s)).lane j ∧
    (shed i s).timers j = (protectiveOpen i (armHoldoff i s)).timers j ∧
    (shed i s).seq = (protectiveOpen i (armHoldoff i s)).seq := by
  unfold shed
  generalize protectiveOpen i (armHoldoff i s) = t
  exact ⟨rfl, rfl, rfl, rfl⟩

theorem shed_hs (i : StepId) (s : State) : (shed i s).hs = { s.hs with shedding := true, tripCount := 0 } := by
  have frame : (raise .harmTrip .yard (protectiveOpen i (armHoldoff i s))).hs = s.hs := by simp
  exact congrArg (fun h : Harmonic => { h with shedding := true, tripCount := 0 }) frame

/-- The evaluation of a good window end in hand (R120). -/
theorem exec_harmonicEvaluation_good {h : InHand} {s : State} (hr : s.resetHeld = false)
    (hh : s.rx.inHand = some h) (hs : h.hs = true) (hg : h.good = true) (hc : s.mu.computing = none) :
    exec .harmonicEvaluation s = .next (settle (hsTrip (hsWatch (hsStageI (hsStageV (hsForm
      { s with rx.inHand := if h.vc || h.ub then some { h with hs := false } else none })))))) := by
  have due : dueFor InHand.hs s = some true := by simp [dueFor, hh, hs, hg, hc]
  refine (live_running s hsEvaluate hr).trans ?_
  simp only [hsEvaluate, due, if_true, consumed, hh, Bool.or_false]
  rfl

/-- Settles O28: the order of the evaluation, the trip stage, the withdrawn close, the choice and the shed. -/
theorem shedTakesHeadOrTail : Obligations.ShedTakesHeadOrTail := by
  unfold Obligations.ShedTakesHeadOrTail
  refine ⟨fun h s hr hh hs hg hc => exec_harmonicEvaluation_good hr hh hs hg hc, fun x s hd hx => ⟨fun below => ?_,
    fun due => ?_⟩, fun s => ⟨fun stays => ?_, fun free => ?_, fun i o tm after before ho hk hp hn =>
    hsStageV_withdraws after before ho hk hp hn⟩, shedChoice_none, fun i rest s list => ⟨fun suspect => ?_,
    fun clear => ?_⟩, fun i s => ⟨shed_hs i s, ?_, fun hs => ?_, fun closed controlled => ?_, fun opening => ?_,
    fun j hj => ?_⟩⟩
  · have below : s.hs.tripCount + 1 < tripThreshold s.cfg.yard s.hs := below
    rw [hsTrip_level hd hx, Nat.min_eq_left below.le, if_neg (by omega)]
  · have due : tripThreshold s.cfg.yard s.hs ≤ s.hs.tripCount + 1 := due
    rw [hsTrip_level hd hx, Nat.min_eq_right due, if_pos rfl]
    exact ⟨fun none => by rw [none]; rfl, fun i some => by rw [some]; rfl⟩
  · rw [hsStageV_vActive] at stays
    have still : ¬((stageV s).2 && !s.hs.vActive) = true := by simpa using stays
    rw [hsStageV_eq, if_neg still]
    exact stagedV_untaken s
  · have quiet (j : StepId) : ((stagedV s).lane j).op.any Operation.unpulsed = false := by
      rw [lane_congr (stagedV_frame s).1]
      exact free (j + 1) j (by revert j; decide)
    rw [hsStageV_eq, vcWithdrawClose_none quiet, ite_self]
    exact stagedV_untaken s
  · rw [shedChoice_cons list, if_pos suspect]
  · rw [shedChoice_cons list, clear, if_neg Bool.false_ne_true]
  · exact alarmStands_raise .harmTrip .yard (protectiveOpen i (armHoldoff i s))
  · rw [(shed_views i i s).2.2.1, protectiveOpen_timers, armHoldoff_arms hs, State.modTimers_timers_self]
  · obtain ⟨recs, lane, -, -⟩ := shed_views i i s
    rw [recs, lane, armHoldoff_arms (.inl closed)]
    have trip := protectiveOpen_tripped (i := i) (s := s.modTimers i fun t => { t with arming := true })
      (.inl ⟨closed, controlled⟩)
    rw [trip.own, trip.lane, if_pos rfl]
    exact ⟨rfl, rfl, rfl, rfl⟩
  · obtain ⟨recs, -, -, seq⟩ := shed_views i i s
    rw [recs, seq, armHoldoff_arms (.inr opening), protectiveOpen_other]
    · exact ⟨rfl, opening⟩
    · exact fun closed => by cases opening.symm.trans closed
    · exact fun closing => by cases opening.symm.trans closing
  · obtain ⟨recs, -, timers, -⟩ := shed_views i j s
    obtain ⟨recs', -, timers'⟩ := (protectiveOpen_others i (armHoldoff i s)).1 j hj
    obtain ⟨recs'', timers''⟩ := armHoldoff_others hj s
    exact ⟨recs.trans (recs'.trans recs''), timers.trans (timers'.trans timers'')⟩

end Sys2Proof.Proofs

namespace Sys2Proof.Proofs

open Sys2Proof.Machine Sys2Proof.Safety Sys2Proof.Laws

/-! ### A close pulse that starts (R79, R81) -/

/-- The state in which the close pulse of a step runs, its snapshot is taken and its source noted (R48, R81, R127). -/
def closePulsed (i : StepId) (o : Operation) (s : State) : State :=
  { s.modLane i fun l => { l with
      op := some { o with phase := .inMotion }, closePulse := s.cfg.yard.closePulse,
      confirm := some s.cfg.yard.confirmTime } with
    seq.schedule := none, seq.syncWait := none, hs.snapshot := some ⟨i, s.hs.dv⟩ }.modStep i
    fun c => { c with lastSource := sourceOf o.source }

/-- The lane of a step whose close pulse runs. -/
def closeLane (o : Operation) (y : YardSettings) (l : Lane) : Lane :=
  ⟨some { o with phase := .inMotion }, y.closePulse, l.tripPulse, some y.confirmTime⟩

/-- What a close pulse that starts changes and what it leaves (R48, R79, R81, R127). -/
structure ClosePulsed (i : StepId) (o : Operation) (s t : State) : Prop where
  state : (t.stepRec i).state = .closing
  source : (t.stepRec i).lastSource = sourceOf o.source
  lane : ∀ j, t.lane j = if j = i then closeLane o s.cfg.yard (s.lane i) else s.lane j
  schedule : t.seq.schedule = none
  syncWait : t.seq.syncWait = none
  hs : t.hs = { s.hs with snapshot := some ⟨i, s.hs.dv⟩ }
  others : ∀ j, j ≠ i → t.stepRec j = s.stepRec j
  arb : t.arb = s.arb
  vc : t.vc = s.vc
  oe : t.oe = s.oe

section
variable {i : StepId} {o : Operation} {s : State}

theorem closePulsed_lane (j : StepId) :
    (closePulsed i o s).lane j = if j = i then closeLane o s.cfg.yard (s.lane i) else s.lane j :=
  State.modLane_lane i j (fun l => { l with
    op := some { o with phase := .inMotion }, closePulse := s.cfg.yard.closePulse,
    confirm := some s.cfg.yard.confirmTime }) s

theorem closePulsed_stepRec (j : StepId) :
    (closePulsed i o s).stepRec j =
      if j = i then { s.stepRec i with lastSource := sourceOf o.source } else s.stepRec j :=
  State.modStep_stepRec i j (fun c => { c with lastSource := sourceOf o.source }) _

theorem closePulsed_quiet : Quiet i (closePulsed i o s) := by
  rw [Quiet, closePulsed_lane, if_pos rfl]
  exact unpulsed_inMotion rfl

theorem startClosePulse_pulsed (ho : (s.lane i).op = some o) (hs : (s.stepRec i).state = .opened) :
    ClosePulsed i o s (startClosePulse i s) := by
  have eq : startClosePulse i s = moveStep i .closing (closePulsed i o s) := by
    simp only [startClosePulse, ho]
    rfl
  obtain ⟨still, oe⟩ := still_moveStep (closePulsed_quiet (i := i) (o := o) (s := s)) .closing
  have recs (j : StepId) := moveStep_stepRec i j .closing (closePulsed i o s)
  have own := recs i
  rw [if_pos rfl] at own
  have opened : ((closePulsed i o s).stepRec i).state = .opened := by
    rw [closePulsed_stepRec, if_pos rfl]
    exact hs
  have hs' : (moveStep i .closing (closePulsed i o s)).hs = (closePulsed i o s).hs := by simp
  rw [eq]
  refine ⟨?_, ?_, fun j => (lane_congr still.seq j).trans (closePulsed_lane j), congrArg Sequencer.schedule still.seq,
    congrArg Sequencer.syncWait still.seq, hs', fun j hj => ?_, still.arb, still.vc, oe (by rw [opened]; nofun)⟩
  · rw [own, opened]
    rfl
  · rw [own, opened, closePulsed_stepRec, if_pos rfl]
    rfl
  · rw [recs, if_neg hj, closePulsed_stepRec, if_neg hj]

/-! ### The pulse frame (R79) -/

/-- The pulse lies as many frames ahead as the wave still needs (R79). -/
theorem pulseDelay_eq (w m : Nat) : pulseDelay w m = (16 - (w + m) % 16) % 16 := Nat.add_sub_cancel_left ..

theorem pulseDelay_spec (w m : Nat) :
    pulseDelay w m ≤ 15 ∧ (w + m + pulseDelay w m) % 16 = 0 ∧ ∀ k, k < pulseDelay w m → (w + m + k) % 16 ≠ 0 := by
  rw [pulseDelay_eq]
  refine ⟨by omega, by omega, fun k hk => by omega⟩

/-- The mechanism time is rounded to the nearest frame, a half up (R79). -/
theorem mechFrames_spec (t f : Nat) :
    1000 * mechFrames t f ≤ t * 32 * f + 500 ∧ t * 32 * f < 1000 * mechFrames t f + 500 := by
  unfold mechFrames
  generalize t * 32 * f = n
  omega

/-! ### A close that ends before its pulse (R77) -/

/-- The end goes by the lane, the right and the requesters before it. -/
theorem CloseEnded.congr {src : Requester} {why : Option Reason} {s' t : State} (h : CloseEnded i src why s t)
    (lane : { s'.lane i with op := none } = { s.lane i with op := none })
    (arb : { s'.arb with busy := Busy.notBusy } = { s.arb with busy := .notBusy }) (vc : s'.vc = s.vc)
    (oe : s'.oe = s.oe) : CloseEnded i src why s' t := by
  obtain ⟨lane', schedule, syncWait, arb', report, order⟩ := h
  have request : s'.arb.vcRequest = s.arb.vcRequest := by
    have := congrArg Arbiter.vcRequest arb
    exact this
  refine ⟨lane'.trans lane.symm, schedule, syncWait, arb'.trans arb.symm, fun e => ?_, fun e => ?_⟩
  · obtain ⟨oe', vc'⟩ := report e
    refine ⟨oe'.trans oe.symm, vc'.trans ?_⟩
    simp only [vcEndReport, clearBand, vc, request]
  · rw [vc, oe]
    exact order e

theorem tryClosePulse_barred {why : Option Reason} (hb : CloseBarred i why s) :
    tryClosePulse i s = abandonClose i .preempted why s := by
  simp [tryClosePulse, closeBar_of_barred hb]

theorem tryClosePulse_clear (hb : closeBar s i = none) : tryClosePulse i s = startClosePulse i s := by
  simp [tryClosePulse, hb]

/-- The pulse frame of a scheduled close, while measurement is VALID (R79). -/
theorem exec_scheduledClosePulse {c : Schedule} (hr : s.resetHeld = false) (hc : s.seq.schedule = some c)
    (due : (s.rx.frameNumber - c.pulseFrame).toNat < 2147483648) (ho : (s.lane c.step).op = some o)
    (valid : s.rx.meas = .valid) : exec .scheduledClosePulse s = .next (settle (tryClosePulse c.step s)) := by
  have frame : pulseDue s = true := by
    rw [pulseDue, hc]
    exact decide_eq_true due
  refine (live_running s scheduledPulse hr).trans ?_
  simp [scheduledPulse, hc, frame, ho, valid]

/-! ### A close that is taken (R75 to R80) -/

/-- The state in which a close has been taken under the right. -/
def takenClose (i : StepId) (src : Requester) (tm : Timing) (s : State) : State :=
  { s.modLane i fun l => { l with op := some ⟨.close tm, src, .awaitingValid, true⟩ } with arb.busy := .inOperation }

theorem takenClose_lane (src : Requester) (tm : Timing) :
    (takenClose i src tm s).lane i = { s.lane i with op := some ⟨.close tm, src, .awaitingValid, true⟩ } :=
  State.modLane_lane_self i (fun l => { l with op := some ⟨.close tm, src, .awaitingValid, true⟩ }) s

/-- The state in which an order's close has started its sync wait (R80). -/
def waitingClose (src : Requester) (s : State) : State :=
  if src = .oe then { s with seq.syncWait := some s.cfg.yard.syncWait } else s

/-- A SYNCHRONIZED close goes on by the measurement state (R79, R80). -/
def synchronizeClose (i : StepId) (src : Requester) (s : State) : State :=
  if s.rx.meas = .valid then scheduleClose i s.rx.frameNumber s.rx.wave s
  else if src = .oe then s
  else abandonClose i .preempted none s

/-- The conditions of R76 are read on the state in which the close has been taken. -/
theorem takeClose_eq (src : Requester) (tm : Timing) :
    takeClose i src tm s =
      match closeBar (takenClose i src tm s) i with
      | some r => abandonClose i .preempted r (takenClose i src tm s)
      | none =>
        match tm with
        | .immediate => tryClosePulse i (takenClose i src tm s)
        | .synchronized => synchronizeClose i src (waitingClose src (takenClose i src tm s)) := rfl

/-- A close taken while a condition of R76 fails ends (R77). -/
theorem takeClose_barred {src : Requester} {tm : Timing} {why : Option Reason} (hb : CloseBarred i why s) :
    takeClose i src tm s = abandonClose i .preempted why (takenClose i src tm s) := by
  have bar : closeBar (takenClose i src tm s) i = some why := closeBar_of_barred hb
  rw [takeClose_eq, bar]

/-- A SYNCHRONIZED close taken while the conditions of R76 hold (R79, R80). -/
theorem takeClose_synchronized {src : Requester} (hb : closeBar s i = none) :
    takeClose i src .synchronized s =
      synchronizeClose i src (waitingClose src (takenClose i src .synchronized s)) := by
  have bar : closeBar (takenClose i src .synchronized s) i = none := hb
  rw [takeClose_eq, bar]

/-- What has changed once a SYNCHRONIZED close is taken and its sync wait runs (R75, R80). -/
structure Waiting (i : StepId) (src : Requester) (s t : State) : Prop where
  lane : t.lane i = { s.lane i with op := some ⟨.close .synchronized, src, .awaitingValid, true⟩ }
  schedule : t.seq.schedule = s.seq.schedule
  syncWait : t.seq.syncWait = if src = .oe then some s.cfg.yard.syncWait else s.seq.syncWait
  arb : t.arb = { s.arb with busy := .inOperation }
  rx : t.rx = s.rx
  cfg : t.cfg = s.cfg
  tbl : t.tbl = s.tbl
  io : t.io = s.io
  oe : t.oe = s.oe
  vc : t.vc = s.vc
  hs : t.hs = s.hs

theorem waitingClose_waiting (i : StepId) (src : Requester) (s : State) :
    Waiting i src s (waitingClose src (takenClose i src .synchronized s)) := by
  have lane := takenClose_lane (i := i) (s := s) src .synchronized
  unfold waitingClose
  split
  · next e => exact ⟨lane, rfl, (if_pos e).symm, rfl, rfl, rfl, rfl, rfl, rfl, rfl, rfl⟩
  · next e => exact ⟨lane, rfl, (if_neg e).symm, rfl, rfl, rfl, rfl, rfl, rfl, rfl, rfl⟩

/-- The conditions of R76 go by the step, its lines and the inhibit. -/
theorem closeBar_congr {s t : State} (tbl : t.tbl = s.tbl) (io : t.io = s.io) : closeBar t i = closeBar s i := by
  rw [closeBar, closeInhibit, stepRec_congr (congrArg StepTable.recs tbl), State.lines, io]
  rfl

end

/-- What becomes of a SYNCHRONIZED close that is taken while the conditions of R76 hold, by the measurement state, the
pulse frame and the requester (R79, R80). -/
structure Synchronized (i : StepId) (src : Requester) (k : Nat) (s t : State) : Prop where
  ahead : s.rx.meas = .valid → k ≠ 0 →
    t.lane i = { s.lane i with op := some ⟨.close .synchronized, src, .scheduled, true⟩ } ∧
    t.seq.schedule = some ⟨s.rx.frameNumber + BitVec.ofNat 32 k, i⟩ ∧
    t.seq.syncWait = (if src = .oe then some s.cfg.yard.syncWait else s.seq.syncWait) ∧
    t.arb = { s.arb with busy := .inOperation } ∧ t.tbl = s.tbl ∧ t.oe = s.oe ∧ t.vc = s.vc
  now : s.rx.meas = .valid → k = 0 →
    (t.stepRec i).state = .closing ∧ (t.stepRec i).lastSource = sourceOf src ∧
    t.lane i = ⟨some ⟨.close .synchronized, src, .inMotion, true⟩, s.cfg.yard.closePulse, (s.lane i).tripPulse,
                some s.cfg.yard.confirmTime⟩ ∧
    t.seq.schedule = none ∧ t.seq.syncWait = none ∧ t.arb = { s.arb with busy := .inOperation } ∧
    t.hs = { s.hs with snapshot := some ⟨i, s.hs.dv⟩ } ∧ t.oe = s.oe ∧ t.vc = s.vc
  waits : s.rx.meas ≠ .valid → src = .oe →
    t.lane i = { s.lane i with op := some ⟨.close .synchronized, src, .awaitingValid, true⟩ } ∧
    t.seq.schedule = s.seq.schedule ∧ t.seq.syncWait = some s.cfg.yard.syncWait ∧
    t.arb = { s.arb with busy := .inOperation } ∧ t.tbl = s.tbl ∧ t.oe = s.oe ∧ t.vc = s.vc
  ends : s.rx.meas ≠ .valid → src = .vc →
    t.lane i = { s.lane i with op := none } ∧ t.seq.schedule = none ∧ t.seq.syncWait = none ∧
    t.arb = { s.arb with busy := .notBusy } ∧ t.tbl = s.tbl ∧ t.oe = s.oe ∧ t.vc = (vcEndReport s).vc

theorem takeClose_synchronizes {i : StepId} {s : State} (src : Requester) (hb : closeBar s i = none)
    (hs : (s.stepRec i).state = .opened) :
    Synchronized i src (pulseDelay s.rx.wave.toNat (mechFrames (s.stepCfg i).mechTime s.cfg.yard.nominalFrequency)) s
      (takeClose i src .synchronized s) := by
  rw [takeClose_synchronized hb]
  obtain ⟨lane, schedule, syncWait, arb, rx, cfg, tbl, io, oe, vc, hs'⟩ := waitingClose_waiting i src s
  generalize waitingClose src (takenClose i src .synchronized s) = w at *
  have op : (w.lane i).op = some ⟨.close .synchronized, src, .awaitingValid, true⟩ := congrArg Lane.op lane
  have step : w.stepCfg i = s.stepCfg i := congrArg (fun c : Settings => look c.perStep i) cfg
  have opened : (w.stepRec i).state = .opened := by rw [stepRec_congr (congrArg StepTable.recs tbl), hs]
  have frames : pulseDelay w.rx.wave.toNat (mechFrames (w.stepCfg i).mechTime w.cfg.yard.nominalFrequency) =
      pulseDelay s.rx.wave.toNat (mechFrames (s.stepCfg i).mechTime s.cfg.yard.nominalFrequency) := by
    rw [rx, cfg, step]
  refine ⟨fun valid ahead => ?_, fun valid now => ?_, fun lost order => ?_, fun lost control => ?_⟩
  · have eq : synchronizeClose i src w = scheduleClose i w.rx.frameNumber w.rx.wave w :=
      if_pos (by rw [rx, valid])
    rw [← frames] at ahead ⊢
    have still : (scheduleClose i w.rx.frameNumber w.rx.wave w).vc = w.vc := by
      unfold scheduleClose
      rw [if_neg ahead]
      rfl
    obtain ⟨lane', schedule', syncWait', tbl', oe', arb'⟩ :=
      scheduleClose_ahead (n := w.rx.frameNumber) (w := w.rx.wave) op ahead
    rw [eq, lane', lane, schedule', syncWait', syncWait, tbl', tbl, oe', oe, arb', arb, still, vc, rx]
    exact ⟨rfl, rfl, rfl, rfl, rfl, rfl, rfl⟩
  · have eq : synchronizeClose i src w = startClosePulse i w :=
      (if_pos (by rw [rx, valid])).trans (scheduleClose_now (frames.trans now) ((closeBar_congr tbl io).trans hb))
    obtain ⟨state, source, lane', schedule', syncWait', hs'', -, arb', vc', oe'⟩ := startClosePulse_pulsed op opened
    rw [eq, state, source, lane', if_pos rfl, lane, schedule', syncWait', hs'', hs', oe', oe, arb', arb, vc', vc, cfg]
    exact ⟨rfl, rfl, rfl, rfl, rfl, rfl, rfl, rfl, rfl⟩
  · have eq : synchronizeClose i src w = w := (if_neg (by rwa [rx])).trans (if_pos order)
    rw [eq, lane, schedule, syncWait, if_pos order, arb, tbl, oe, vc]
    exact ⟨rfl, rfl, rfl, rfl, rfl, rfl, rfl⟩
  · have eq : synchronizeClose i src w = abandonClose i .preempted none w :=
      (if_neg (by rwa [rx])).trans (if_neg (by rw [control]; nofun))
    have frame : (abandonClose i .preempted none w).tbl = w.tbl := by simp
    obtain ⟨lane', schedule', syncWait', arb', report, -⟩ := CloseEnded.congr (s' := s) (abandonClose_ended none op)
      (by rw [lane]) (by rw [arb]) vc.symm oe.symm
    obtain ⟨oe', vc'⟩ := report control
    rw [eq]
    exact ⟨lane', schedule', syncWait', arb', frame.trans tbl, oe', vc'⟩

/-! ### A held close when a condition comes to fail (R53, R77) -/

section
variable {i : StepId} {o : Operation} {s : State}

theorem watchClose_tbl (i : StepId) (s : State) : (watchClose i s).tbl = s.tbl := by simp

/-- A change of a step's record that brings a condition of R76 to fail ends its held close. -/
theorem watchClose_modStep {f : StepRec → StepRec} {why : Option Reason} (ho : (s.lane i).op = some o)
    (hu : o.unpulsed = true) (hb : CloseBarred i why (s.modStep i f)) :
    CloseEnded i o.source why s (watchClose i (s.modStep i f)) :=
  watchClose_ended (s := s.modStep i f) ho hu hb

/-- A step's record that bars a close, CLOSE_INHIBIT being inactive (R77). -/
theorem closeBarred_modStep {f : StepRec → StepRec} {why : Option Reason} (hi : s.io.inp0.level = false)
    (hs : (f (s.stepRec i)).state = .opened)
    (h : if (f (s.stepRec i)).lockout ≠ none then why = some .lockout
      else if (f (s.stepRec i)).cooling = true ∨ (f (s.stepRec i)).holdoff = true then why = none
      else (f (s.stepRec i)).retired = true ∧ why = some .retired) : CloseBarred i why (s.modStep i f) := by
  unfold CloseBarred
  dsimp only
  rw [State.modStep_stepRec_self, show (s.modStep i f).io = s.io from rfl, hi, hs]
  simpa [StepState.isFaulted] using h

/-- LOCKOUT added to a step that stands clear of CLOSE_INHIBIT and is OPEN ends its held close (R53, R54). -/
theorem addLockout_ends (ho : (s.lane i).op = some o) (hu : o.unpulsed = true) (hi : s.io.inp0.level = false)
    (hs : (s.stepRec i).state = .opened) (r : LockoutReason) :
    CloseEnded i o.source (some .lockout) s (addLockout i r s) := by
  unfold addLockout
  exact watchClose_modStep ho hu (closeBarred_modStep hi hs (by simp))

/-- COOLING added to such a step without LOCKOUT ends its held close (R53, R64). -/
theorem startCooldown_ends (ho : (s.lane i).op = some o) (hu : o.unpulsed = true) (hi : s.io.inp0.level = false)
    (hs : (s.stepRec i).state = .opened) (hl : (s.stepRec i).lockout = none) :
    CloseEnded i o.source none s (startCooldown i s) := by
  unfold startCooldown
  exact watchClose_modStep (s := s.modTimers i fun t => { t with cooldown := 1000 * (s.stepCfg i).dischargeTime }) ho hu
    (closeBarred_modStep hi hs (by
      rw [if_neg fun locked => locked hl]
      simp))

/-- HARMONIC_HOLDOFF added to such a step without LOCKOUT ends its held close (R53, R70). -/
theorem startHoldoff_ends (ho : (s.lane i).op = some o) (hu : o.unpulsed = true) (hi : s.io.inp0.level = false)
    (hs : (s.stepRec i).state = .opened) (hl : (s.stepRec i).lockout = none) (runs : 0 < s.cfg.yard.harmHoldoff) :
    CloseEnded i o.source none s (startHoldoff i s) := by
  have eq : startHoldoff i s = watchClose i (((s.modTimers i fun t => { t with arming := false }).modTimers i
      fun t => { t with holdoffMs := 1000 * s.cfg.yard.harmHoldoff }).modStep i fun c => { c with holdoff := true }) :=
    if_pos runs
  rw [eq]
  exact watchClose_modStep (s := (s.modTimers i fun t => { t with arming := false }).modTimers i
    fun t => { t with holdoffMs := 1000 * s.cfg.yard.harmHoldoff }) ho hu (closeBarred_modStep hi hs (by
      rw [if_neg fun locked => locked hl]
      simp))

/-- The service RETIRED ends the held close of such a step without a block (R53, R77). -/
theorem runRetire_ends (ho : (s.lane i).op = some o) (hu : o.unpulsed = true) (hi : s.io.inp0.level = false)
    (hs : (s.stepRec i).state = .opened) (hl : (s.stepRec i).lockout = none) (hc : (s.stepRec i).cooling = false)
    (hh : (s.stepRec i).holdoff = false) : CloseEnded i o.source (some .retired) s (runRetire i s) := by
  unfold runRetire
  exact watchClose_modStep ho hu (closeBarred_modStep hi hs (by simp [hl, hc, hh]))

/-- While all conditions of R76 hold a held close stands. -/
theorem watchClose_stands (hb : closeBar s i = none) : watchClose i s = s := by
  unfold watchClose
  cases ho : (s.lane i).op with
  | none => rfl
  | some o =>
    dsimp only
    rw [hb]
    split <;> rfl

end

/-- Settles O20: the pulse frame, its arithmetic, a close taken, and each way in which a held close ends. -/
theorem scheduledPulseStartsTheClose : Obligations.ScheduledPulseStartsTheClose := by
  unfold Obligations.ScheduledPulseStartsTheClose
  refine ⟨fun c o s hr hc due ho valid hi hs hl hk hh hd hm => ⟨_, exec_scheduledClosePulse hr hc due ho valid, ?_⟩,
    ⟨pulseDelay_spec, mechFrames_spec⟩, fun i src s hi hs hl hk hh hd hm _ => ?_,
    fun i src tm why s hb _ => ?_, fun c o why s hr hc due ho valid hb =>
      ⟨_, exec_scheduledClosePulse hr hc due ho valid, ?_⟩, fun i o tm s ho hk hp => ?_⟩
  · have start := tryClosePulse_clear (closeBar_none hi hs hl hk hh hd hm)
    have frame : (startClosePulse c.step s).rx = s.rx ∧ (startClosePulse c.step s).mu = s.mu ∧
        (startClosePulse c.step s).io = s.io ∧ (startClosePulse c.step s).cfg = s.cfg := by simp
    obtain ⟨rx, mu, io, cfg⟩ := frame
    obtain ⟨state, source, lane, schedule, syncWait, hs', others, arb, vc, oe⟩ := startClosePulse_pulsed ho hs
    rw [start]
    exact ⟨state, source, (lane _).trans (if_pos rfl), schedule, syncWait, hs',
      fun j hj => ⟨others j hj, (lane j).trans (if_neg hj)⟩, rx, mu, arb, vc, oe, io, cfg⟩
  · obtain ⟨ahead, now, waits, ends⟩ := takeClose_synchronizes src (closeBar_none hi hs hl hk hh hd hm) hs
    exact ⟨ahead, now, waits, ends⟩
  · have op := congrArg Lane.op (takenClose_lane (i := i) (s := s) src tm)
    rw [takeClose_barred hb]
    refine ⟨by simp [takenClose], CloseEnded.congr (s' := s) (abandonClose_ended why op) ?_ rfl rfl rfl⟩
    rw [takenClose_lane]
  · rw [tryClosePulse_barred hb]
    exact ⟨by simp, abandonClose_ended why ho⟩
  · have held : o.unpulsed = true := by simp [unpulsed_close hk, hp]
    exact ⟨fun why hb => ⟨watchClose_tbl i s, watchClose_ended ho held hb⟩, fun hi hs =>
      ⟨fun r => addLockout_ends ho held hi hs r, fun hl => ⟨startCooldown_ends ho held hi hs hl,
        fun runs => startHoldoff_ends ho held hi hs hl runs, fun hc hh => ⟨runRetire_ends ho held hi hs hl hc hh,
          fun hd hm => watchClose_stands (closeBar_none hi hs hl hc hh hd hm)⟩⟩⟩⟩

end Sys2Proof.Proofs

namespace Sys2Proof.Proofs

open Sys2Proof.Machine Sys2Proof.Safety Sys2Proof.Laws

/-! ### A delivered position: what it does to the step (R40) -/

/-- The state in which the indicated position is noted (R39, R40). -/
def noted (i : StepId) (p : Position) (s : State) : State := s.modStep i fun c => { c with indicated := some p }

theorem noted_stepRec (i j : StepId) (p : Position) (s : State) :
    (noted i p s).stepRec j = if j = i then { s.stepRec i with indicated := some p } else s.stepRec j :=
  State.modStep_stepRec i j (fun c => { c with indicated := some p }) s

@[simp] theorem noted_stepRec_self (i : StepId) (p : Position) (s : State) :
    (noted i p s).stepRec i = { s.stepRec i with indicated := some p } := (noted_stepRec i i p s).trans (if_pos rfl)

/-- The state that a delivered position shows (R40). -/
def shown : Position → StepState
  | .opened => .opened
  | .closed => .closed
  | .invalid => .faulted .positionInvalid

/-- A step that a delivery has moved, beside the sequencer and the requesters. The confirmed close's operation count
and the notices of an uncommanded change are left open. -/
structure Moved (i : StepId) (p : Position) (s t : State) : Prop where
  own : t.stepRec i = { enteredRec (shown p) (holdoffRuns i s)
    (leftRec (s.stepRec i).state { s.stepRec i with state := shown p, indicated := some p }) with
    opCount := (t.stepRec i).opCount }
  others : ∀ j, j ≠ i → t.stepRec j = s.stepRec j
  timers : t.timers i = movedTimer i (shown p) s
  unb : t.unb i = enteredUnb (shown p) (leftUnb (s.stepRec i).state i s)
  list : t.tbl.closedOrder =
    if (s.stepRec i).retired = false ∧ (shown p = .closed ∨ shown p = .opening) then
      if i ∈ s.tbl.closedOrder then s.tbl.closedOrder else s.tbl.closedOrder ++ [i]
    else s.tbl.closedOrder.filter (· ≠ i)
  alarms : ∀ k, k ≠ .uncommandedOpen → k ≠ .uncommandedClose → ofKind k t.link.alarms = ofKind k
    (enteredAlarms (shown p) i (s.stepRec i).suspect s.clock.seconds (leftAlarms (s.stepRec i).state i s))

section
variable {i : StepId} {p : Position} {s : State}

/-- A state that differs in nothing the change of a step's state reads. -/
structure SameStep (i : StepId) (p : Position) (s x : State) : Prop where
  recs : ∀ j, x.stepRec j = if j = i then { s.stepRec i with indicated := some p } else s.stepRec j
  list : x.tbl.closedOrder = s.tbl.closedOrder
  dt : x.dt = s.dt
  ub : x.ub = s.ub
  link : x.link = s.link
  rx : x.rx = s.rx
  mu : x.mu = s.mu
  clock : x.clock = s.clock
  cfg : x.cfg = s.cfg

theorem noted_sameStep (i : StepId) (p : Position) (s : State) : SameStep i p s (noted i p s) :=
  ⟨fun j => noted_stepRec i j p s, rfl, rfl, rfl, rfl, rfl, rfl, rfl, rfl⟩

theorem dropOperation_sameStep (i : StepId) (p : Position) (s : State) :
    SameStep i p s (dropOperation i (noted i p s)) :=
  ⟨fun j => noted_stepRec i j p s, rfl, rfl, rfl, rfl, rfl, rfl, rfl, rfl⟩

theorem moveStep_moved {x : State} (h : SameStep i p s x) : Moved i p s (moveStep i (shown p) x) := by
  obtain ⟨recs, list, dt, ub, link, rx, mu, clock, cfg⟩ := h
  have self := recs i
  rw [if_pos rfl] at self
  have runs : holdoffRuns i x = holdoffRuns i s := by rw [holdoffRuns, self, timers_congr dt, cfg, holdoffRuns]
  have leaves : leftAlarms (s.stepRec i).state i x = leftAlarms (s.stepRec i).state i s := by
    unfold leftAlarms
    rw [departsNow_congr rx mu, link, unb_congr ub]
  refine ⟨?_, fun j hj => ?_, ?_, ?_, ?_, fun k _ _ => ?_⟩
  · rw [moveStep_stepRec_self, runs, self]
  · rw [moveStep_stepRec, if_neg hj, recs, if_neg hj]
  · rw [moveStep_timers, if_pos rfl]
    simp only [movedTimer, self, timers_congr dt, State.stepCfg, cfg, runs]
  · rw [moveStep_unb, if_pos rfl, self]
    simp only [leftUnb, departsNow_congr rx mu, unb_congr ub]
  · rw [moveStep_closedOrder, self, list]
  · rw [moveStep_alarms, self, clock]
    dsimp only
    rw [leaves]

/-- What is done after the move and touches the step's operation count alone. -/
theorem Moved.congr {t u : State} (h : Moved i p s t)
    (own : u.stepRec i = { t.stepRec i with opCount := (u.stepRec i).opCount })
    (others : ∀ j, j ≠ i → u.stepRec j = t.stepRec j) (dt : u.dt = t.dt) (ub : u.ub = t.ub)
    (list : u.tbl.closedOrder = t.tbl.closedOrder)
    (alarms : ∀ k, k ≠ .uncommandedOpen → k ≠ .uncommandedClose → ofKind k u.link.alarms = ofKind k t.link.alarms) :
    Moved i p s u where
  own := by
    rw [own, h.own]
  others j hj := (others j hj).trans (h.others j hj)
  timers := (timers_congr dt i).trans h.timers
  unb := (unb_congr ub i).trans h.unb
  list := list.trans h.list
  alarms k ho hc := (alarms k ho hc).trans (h.alarms k ho hc)

/-- What is done after the move and touches no step record. -/
theorem Moved.of_tbl {t u : State} (h : Moved i p s t) (tbl : u.tbl = t.tbl) (dt : u.dt = t.dt) (ub : u.ub = t.ub)
    (alarms : ∀ k, k ≠ .uncommandedOpen → k ≠ .uncommandedClose → ofKind k u.link.alarms = ofKind k t.link.alarms) :
    Moved i p s u := by
  have recs (j : StepId) := stepRec_congr (congrArg StepTable.recs tbl) j
  exact h.congr (by rw [recs]) (fun j _ => recs j) dt ub (by rw [tbl]) alarms

/-! ### Uncommanded changes (R42, R43) -/

theorem uncommandedOpen_moved : Moved i .opened s (uncommandedOpen i (noted i .opened s)) := by
  have moved : Moved i .opened s (moveStep i .opened (noted i .opened s)) := moveStep_moved (noted_sameStep i .opened s)
  unfold uncommandedOpen
  generalize moveStep i .opened (noted i .opened s) = m at *
  dsimp only
  split
  · exact moved
  · exact moved.of_tbl rfl rfl rfl fun k ho _ => raiseIn_filter (passes_ofKind (Ne.symm ho) _) _ _ _

theorem uncommandedClose_moved : Moved i .closed s (uncommandedClose i (noted i .closed s)) := by
  have moved : Moved i .closed s (moveStep i .closed (noted i .closed s)) := moveStep_moved (noted_sameStep i .closed s)
  unfold uncommandedClose
  generalize moveStep i .closed (noted i .closed s) = m at *
  dsimp only
  split
  · exact moved
  · exact moved.of_tbl rfl rfl rfl fun k _ hc => raiseIn_filter (passes_ofKind (Ne.symm hc) _) _ _ _

/-! ### Confirmed operations (R82, R86) -/

variable {o : Operation}

/-- The state in which a close is confirmed, before its end report (R49, R128). -/
def closeConfirmed (i : StepId) (s : State) : State :=
  openWatch i <| (moveStep i .closed (dropOperation i s)).modStep i fun c =>
    { c with opCount := min (c.opCount + 1) 65535 }

theorem confirmClose_eq (i : StepId) (o : Operation) (s : State) :
    confirmClose i o s =
      passIfUnder o (1000 * s.cfg.yard.settleClose) (endReport o.source .done none (closeConfirmed i s)) := by
  simp [confirmClose, closeConfirmed]

theorem confirmOpen_eq (i : StepId) (o : Operation) (s : State) :
    confirmOpen i o s = passIfUnder o (1000 * s.cfg.yard.settleOpen)
      (endReport o.source .done none (moveStep i .opened (dropOperation i s))) := by
  simp [confirmOpen]

theorem dropOperation_quiet (i : StepId) (s : State) : Quiet i (dropOperation i s) := by
  have lane : (dropOperation i s).lane i = { s.lane i with op := none, confirm := none } :=
    State.modLane_lane_self i (fun l => { l with op := none, confirm := none }) s
  rw [Quiet, lane]
  rfl

/-- The end of a confirmed operation leaves the step as it is. -/
theorem Moved.ended {t : State} (h : Moved i p s t) (o : Operation) (ms : Nat) :
    Moved i p s (passIfUnder o ms (endReport o.source .done none t)) := by
  obtain ⟨tbl, dt, -, -, ub, -, link⟩ := ended_frame o .done none ms t
  exact h.of_tbl tbl dt ub fun k _ _ => by rw [link]

theorem closeConfirmed_moved : Moved i .closed s (closeConfirmed i (noted i .closed s)) := by
  have moved : Moved i .closed s (moveStep i .closed (dropOperation i (noted i .closed s))) :=
    moveStep_moved (dropOperation_sameStep i .closed s)
  unfold closeConfirmed
  generalize moveStep i .closed (dropOperation i (noted i .closed s)) = m at *
  have counted : Moved i .closed s (m.modStep i fun c => { c with opCount := min (c.opCount + 1) 65535 }) := by
    refine moved.congr ?_ (fun j hj => ?_) rfl rfl rfl fun _ _ _ => rfl
    · rw [State.modStep_stepRec_self]
    · rw [State.modStep_stepRec, if_neg hj]
  exact counted.of_tbl rfl rfl rfl fun _ _ _ => rfl

theorem confirmClose_moved : Moved i .closed s (confirmClose i o (noted i .closed s)) := by
  rw [confirmClose_eq]
  exact closeConfirmed_moved.ended o _

theorem confirmOpen_moved : Moved i .opened s (confirmOpen i o (noted i .opened s)) := by
  have moved : Moved i .opened s (moveStep i .opened (dropOperation i (noted i .opened s))) :=
    moveStep_moved (dropOperation_sameStep i .opened s)
  rw [confirmOpen_eq]
  exact moved.ended o _

end

end Sys2Proof.Proofs

namespace Sys2Proof.Proofs

open Sys2Proof.Machine Sys2Proof.Safety Sys2Proof.Laws

/-! ### The cells of R40 -/

/-- The states in which a delivery is judged by the table of R40 itself, and the positions that move them. -/
def Moves (r : StepState) (p : Position) : Prop :=
  r = .unknown ∨ (r = .opened ∧ p ≠ .opened) ∨ (r = .closed ∧ p ≠ .closed) ∨ ((∃ c, r = .faulted c) ∧ p ≠ .invalid)

section
variable {i : StepId} {p : Position} {s : State}

/-- The table is entered by the step's state (R40). -/
theorem noted_state {st : StepState} (p : Position) (h : (s.stepRec i).state = st) :
    ((s.modStep i fun c => { c with indicated := some p }).stepRec i).state = st := by
  rw [State.modStep_stepRec_self]
  exact h

/-- The table of R40 moves the step to what is shown. -/
theorem applyDelivery_moves (h : Moves (s.stepRec i).state p) : Moved i p s (applyDelivery (i, p) s) := by
  have moved := moveStep_moved (noted_sameStep i p s)
  unfold applyDelivery
  dsimp only
  rcases h with h | ⟨h, hp⟩ | ⟨h, hp⟩ | ⟨⟨c, h⟩, hp⟩ <;> rw [noted_state p h] <;> cases p
  case inl.opened | inl.closed | inl.invalid => exact moved
  case inr.inl.opened => exact absurd rfl hp
  case inr.inl.closed => exact uncommandedClose_moved
  case inr.inl.invalid => exact moved
  case inr.inr.inl.opened => exact uncommandedOpen_moved
  case inr.inr.inl.closed => exact absurd rfl hp
  case inr.inr.inl.invalid => exact moved
  case inr.inr.inr.opened | inr.inr.inr.closed => exact moved
  case inr.inr.inr.invalid => exact absurd rfl hp

/-- A step that is ABSENT, or that already stands as shown, only has its position noted. -/
theorem applyDelivery_stands (h : (s.stepRec i).state = .absent ∨ ((s.stepRec i).state = .opened ∧ p = .opened) ∨
    ((s.stepRec i).state = .closed ∧ p = .closed)) : applyDelivery (i, p) s = noted i p s := by
  unfold applyDelivery
  dsimp only
  rcases h with h | ⟨h, rfl⟩ | ⟨h, rfl⟩ <;> rw [noted_state _ h] <;> rfl

/-- A FAULTED step that is shown invalid is FAULTED with POSITION_INVALID (R45). -/
theorem applyDelivery_refaults {c : FaultCause} (h : (s.stepRec i).state = .faulted c) :
    applyDelivery (i, .invalid) s = faultInvalid i (noted i .invalid s) := by
  unfold applyDelivery
  dsimp only
  rw [noted_state .invalid h]
  rfl

/-- A delivery in CLOSING or OPENING is the sequencer's to judge (R46). -/
theorem applyDelivery_judged (h : (s.stepRec i).state = .closing ∨ (s.stepRec i).state = .opening) :
    applyDelivery (i, p) s = judgeDelivery i p (noted i p s) := by
  unfold applyDelivery
  dsimp only
  rcases h with h | h <;> rw [noted_state p h] <;> rfl

/-- The sequencer confirms what its operation waited for, and otherwise leaves the step (R46, R82, R86). -/
theorem judgeDelivery_cases (i : StepId) (p : Position) (s : State) :
    judgeDelivery i p (noted i p s) = noted i p s ∨
    (p ≠ .invalid ∧ Moved i p s (judgeDelivery i p (noted i p s))) := by
  unfold judgeDelivery
  split
  · split
    · exact .inr ⟨nofun, confirmClose_moved⟩
    · exact .inr ⟨nofun, confirmOpen_moved⟩
    · exact .inl rfl
  · exact .inl rfl

/-- What a delivery does to the step: its position alone is noted; it is moved to what is shown; or, FAULTED already,
it is FAULTED with POSITION_INVALID (R40, R45). -/
inductive Delivered (i : StepId) (p : Position) (s : State) : State → Prop
  | stands : Delivered i p s (noted i p s)
  | moved {t : State} (present : (s.stepRec i).state ≠ .absent) (why : Moves (s.stepRec i).state p ∨ p ≠ .invalid)
      (step : Moved i p s t) : Delivered i p s t
  | refaulted {c : FaultCause} (faulted : (s.stepRec i).state = .faulted c) (shown : p = .invalid) :
      Delivered i p s (faultInvalid i (noted i p s))

theorem applyDelivery_delivered (i : StepId) (p : Position) (s : State) : Delivered i p s (applyDelivery (i, p) s) := by
  have moves (h : Moves (s.stepRec i).state p) (present : (s.stepRec i).state ≠ .absent) :
      Delivered i p s (applyDelivery (i, p) s) := .moved present (.inl h) (applyDelivery_moves h)
  have stands (h : (s.stepRec i).state = .absent ∨ ((s.stepRec i).state = .opened ∧ p = .opened) ∨
      ((s.stepRec i).state = .closed ∧ p = .closed)) : Delivered i p s (applyDelivery (i, p) s) :=
    applyDelivery_stands h ▸ .stands
  have judged (h : (s.stepRec i).state = .closing ∨ (s.stepRec i).state = .opening)
      (present : (s.stepRec i).state ≠ .absent) : Delivered i p s (applyDelivery (i, p) s) := by
    rw [applyDelivery_judged h]
    rcases judgeDelivery_cases i p s with same | ⟨valid, moved⟩
    · rw [same]
      exact .stands
    · exact .moved present (.inr valid) moved
  cases h : (s.stepRec i).state with
  | absent => exact stands (.inl h)
  | unknown => exact moves (.inl h) (by simp [h])
  | opened =>
    by_cases hp : p = .opened
    · exact stands (.inr (.inl ⟨h, hp⟩))
    · exact moves (.inr (.inl ⟨h, hp⟩)) (by simp [h])
  | closed =>
    by_cases hp : p = .closed
    · exact stands (.inr (.inr ⟨h, hp⟩))
    · exact moves (.inr (.inr (.inl ⟨h, hp⟩))) (by simp [h])
  | closing => exact judged (.inl h) (by simp [h])
  | opening => exact judged (.inr h) (by simp [h])
  | faulted c =>
    by_cases hp : p = .invalid
    · subst hp
      exact applyDelivery_refaults h ▸ .refaulted h rfl
    · exact moves (.inr (.inr (.inr ⟨⟨c, h⟩, hp⟩))) (by simp [h])

end

end Sys2Proof.Proofs

namespace Sys2Proof.Proofs

open Sys2Proof.Machine Sys2Proof.Safety Sys2Proof.Laws

/-! ### The fields of a moved step's record -/

section
variable (new old : StepState) (runs : Bool) (r : StepRec)

theorem enteredRec_state : (enteredRec new runs r).state = r.state := by cases new <;> rfl

theorem enteredRec_indicated : (enteredRec new runs r).indicated = r.indicated := by cases new <;> rfl

theorem enteredRec_suspect : (enteredRec new runs r).suspect = (!clearsSuspect new && r.suspect) := by cases new <;> rfl

theorem leftRec_state : (leftRec old r).state = r.state := by cases old <;> rfl

theorem leftRec_indicated : (leftRec old r).indicated = r.indicated := by cases old <;> rfl

theorem leftRec_suspect : (leftRec old r).suspect = r.suspect := by cases old <;> rfl

theorem leftRec_opCount : (leftRec old r).opCount = r.opCount := by cases old <;> rfl

theorem leftRec_holdoff : (leftRec old r).holdoff = r.holdoff := by cases old <;> rfl

end

section
variable {i : StepId} {p : Position} {s t : State}

theorem Moved.state (h : Moved i p s t) : (t.stepRec i).state = shown p :=
  (congrArg StepRec.state h.own).trans ((enteredRec_state _ _ _).trans (leftRec_state _ _))

theorem Moved.indicated (h : Moved i p s t) : (t.stepRec i).indicated = some p :=
  (congrArg StepRec.indicated h.own).trans ((enteredRec_indicated _ _ _).trans (leftRec_indicated _ _))

theorem Moved.suspect (h : Moved i p s t) :
    (t.stepRec i).suspect = (!clearsSuspect (shown p) && (s.stepRec i).suspect) :=
  (congrArg StepRec.suspect h.own).trans ((enteredRec_suspect _ _ _).trans (by rw [leftRec_suspect]))

/-! ### The entries after a move -/

theorem Moved.resonance (h : Moved i p s t) :
    CauseOver .resonance (.step i) (clearsSuspect (shown p) && (s.stepRec i).suspect) s t := by
  show ofKind .resonance t.link.alarms = (ofKind .resonance s.link.alarms).map _
  rw [h.alarms .resonance nofun nofun, ofKind_resonance_entered, ofKind_causeOverIf,
    ofKind_leftAlarms (k := .resonance) nofun nofun]

/-- Only the kinds of R51, R52 and R62 hear of an entry into a state. -/
theorem ofKind_enteredAlarms {k : AlarmKind} (resonance : k ≠ .resonance) {new : StepState}
    (position : k ≠ .positionInvalid ∨ new ≠ .faulted .positionInvalid) (i : StepId) (suspect : Bool) (now : Word)
    (as : List AlarmEntry) : ofKind k (enteredAlarms new i suspect now as) = ofKind k as := by
  have cleared : ofKind k (causeOverIf suspect .resonance (.step i) as) = ofKind k as :=
    causeOverIf_filter (passes_ofKind resonance.symm _) _ _
  cases new with
  | opened => exact cleared
  | faulted c =>
    cases c with
    | positionInvalid =>
      exact (raiseIn_filter (passes_ofKind (position.resolve_right (fun h => h rfl)).symm _) _ _ _).trans cleared
    | _ => exact cleared
  | _ => rfl

/-- Only a FAULTED step with that cause ends the alarm of R62 as it leaves its state. -/
theorem ofKind_position_left (i : StepId) (s : State) {old : StepState} (h : old ≠ .faulted .positionInvalid) :
    ofKind .positionInvalid (leftAlarms old i s) = ofKind .positionInvalid s.link.alarms := by
  cases old with
  | closed => exact droppedIf_filter (passes_ofKind (k := .positionInvalid) (k' := .unbalanceAlarm) nofun _) _ _
  | faulted c =>
    cases c with
    | positionInvalid => exact absurd rfl h
    | _ => rfl
  | _ => rfl

/-- A valid position leaves the entries of POSITION_INVALID, unless the step leaves that very state (R62). -/
theorem Moved.position (h : Moved i p s t) (valid : p ≠ .invalid)
    (old : (s.stepRec i).state ≠ .faulted .positionInvalid) :
    ofKind .positionInvalid t.link.alarms = ofKind .positionInvalid s.link.alarms := by
  have other : shown p ≠ .faulted .positionInvalid := by
    cases p with
    | invalid => exact absurd rfl valid
    | _ => nofun
  rw [h.alarms .positionInvalid nofun nofun, ofKind_enteredAlarms (k := .positionInvalid) nofun (.inr other),
    ofKind_position_left i s old]

/-- The entries of another subject: no notice of a step's change is for them. -/
def otherPosition (i : StepId) (e : AlarmEntry) : Bool :=
  decide (e.subject ≠ .step i) && decide (e.kind = .positionInvalid)

theorem passes_otherPosition (i : StepId) (k : AlarmKind) : Passes (otherPosition i) k (.step i) := fun e _ own => by
  simp [otherPosition, own]

theorem otherPosition_left (old : StepState) (i : StepId) (s : State) :
    (leftAlarms old i s).filter (otherPosition i) = s.link.alarms.filter (otherPosition i) := by
  unfold leftAlarms
  split
  · exact droppedIf_filter (passes_otherPosition i _) _ _
  · exact droppedIf_filter (passes_otherPosition i _) _ _
  · rfl

theorem otherPosition_entered (new : StepState) (i : StepId) (suspect : Bool) (now : Word) (as : List AlarmEntry) :
    (enteredAlarms new i suspect now as).filter (otherPosition i) = as.filter (otherPosition i) := by
  have cleared : (causeOverIf suspect .resonance (.step i) as).filter (otherPosition i) = as.filter (otherPosition i) :=
    causeOverIf_filter (passes_otherPosition i _) _ _
  cases new with
  | opened => exact cleared
  | faulted c =>
    cases c with
    | positionInvalid => exact (raiseIn_filter (passes_otherPosition i _) _ _ _).trans cleared
    | _ => exact cleared
  | _ => rfl

/-- The entries of POSITION_INVALID for other subjects. -/
theorem ofKind_otherPosition (i : StepId) (as : List AlarmEntry) :
    (ofKind .positionInvalid as).filter (fun e => decide (e.subject ≠ .step i)) = as.filter (otherPosition i) :=
  List.filter_filter ..

theorem Moved.otherPosition (h : Moved i p s t) :
    (ofKind .positionInvalid t.link.alarms).filter (fun e => decide (e.subject ≠ .step i)) =
      (ofKind .positionInvalid s.link.alarms).filter fun e => decide (e.subject ≠ .step i) := by
  rw [h.alarms .positionInvalid nofun nofun, ofKind_otherPosition, ofKind_otherPosition, otherPosition_entered,
    otherPosition_left]

/-- Whether no entry stands goes by the entries of the kind. -/
theorem alarmAbsent_ofKind {k : AlarmKind} {sub : Subject} {s : State} :
    AlarmAbsent k sub s ↔ ∀ e ∈ ofKind k s.link.alarms, e.subject ≠ sub := by
  simp [AlarmAbsent, ofKind]

/-- Whether an entry stands goes by the entries of the kind. -/
theorem alarmStands_ofKind {k : AlarmKind} {sub : Subject} {s : State} :
    AlarmStands k sub s ↔ ∃ e ∈ ofKind k s.link.alarms, e.subject = sub ∧ e.acked = false := by
  simp [AlarmStands, ofKind, and_assoc]

/-- A dropped entry is not among the entries of its kind. -/
theorem not_mem_ofKind_dropped {k : AlarmKind} {sub : Subject} {as : List AlarmEntry} {e : AlarmEntry}
    (he : e ∈ ofKind k (droppedIf true k sub as)) : e.subject ≠ sub := by
  obtain ⟨kept, kind⟩ := List.mem_filter.mp he
  have stays := (List.mem_filter.mp kept).2
  rw [decide_eq_true_iff] at kind
  exact fun own => by simp [kind, own] at stays

end

end Sys2Proof.Proofs

namespace Sys2Proof.Proofs

open Sys2Proof.Machine Sys2Proof.Safety Sys2Proof.Laws

/-! ### A step that is FAULTED with POSITION_INVALID where it stands (R45) -/

section
variable {i : StepId} {p : Position} {s t : State}

theorem faultInvalid_tbl (i : StepId) (s : State) :
    (faultInvalid i s).tbl = (s.modStep i fun c => { c with state := .faulted .positionInvalid }).tbl := by
  unfold faultInvalid
  dsimp only
  split <;> rfl

theorem faultInvalid_stepRec (i j : StepId) (s : State) :
    (faultInvalid i s).stepRec j =
      if j = i then { s.stepRec i with state := .faulted .positionInvalid } else s.stepRec j :=
  (stepRec_congr (congrArg StepTable.recs (faultInvalid_tbl i s)) j).trans
    (State.modStep_stepRec i j (fun c => { c with state := .faulted .positionInvalid }) s)

theorem faultInvalid_alarms (i : StepId) (s : State) :
    (faultInvalid i s).link.alarms =
      if s.link.alarms.any (AlarmEntry.isFor .positionInvalid (.step i)) then s.link.alarms
      else raiseIn s.clock.seconds .positionInvalid (.step i) false s.link.alarms := by
  unfold faultInvalid
  dsimp only
  split
  · next there => exact (if_pos there).symm
  · next none => exact (if_neg none).symm

/-- Only entries of that alarm and step can change. -/
theorem faultInvalid_filter {q : AlarmEntry → Bool} (hq : Passes q .positionInvalid (.step i)) (s : State) :
    (faultInvalid i s).link.alarms.filter q = s.link.alarms.filter q := by
  rw [faultInvalid_alarms]
  split
  · rfl
  · exact raiseIn_filter hq _ _ _

/-- The notice is raised where no entry stands, and an entry that stands is left alone. -/
theorem faultInvalid_position (i : StepId) (s : State) :
    (AlarmAbsent .positionInvalid (.step i) s → AlarmStands .positionInvalid (.step i) (faultInvalid i s)) ∧
    (¬AlarmAbsent .positionInvalid (.step i) s → (faultInvalid i s).link.alarms = s.link.alarms) := by
  have standing : s.link.alarms.any (AlarmEntry.isFor .positionInvalid (.step i)) = true ↔
      ¬AlarmAbsent .positionInvalid (.step i) s := by
    simp [AlarmAbsent, AlarmEntry.isFor]
  rw [AlarmStands, faultInvalid_alarms]
  refine ⟨fun absent => ?_, fun there => if_pos (standing.mpr there)⟩
  rw [if_neg fun there => standing.mp there absent]
  obtain ⟨e, he, kind, subject, acked, -, -⟩ :=
    raiseIn_mem s.clock.seconds .positionInvalid (.step i) false s.link.alarms
  exact ⟨e, he, kind, subject, acked⟩

/-! ### The record and the alarm of R62 after any delivery -/

theorem Delivered.indicated (h : Delivered i p s t) : (t.stepRec i).indicated = some p := by
  cases h with
  | stands => rw [noted_stepRec_self]
  | moved _ _ step => exact step.indicated
  | refaulted _ _ => rw [faultInvalid_stepRec, if_pos rfl, noted_stepRec_self]

theorem Delivered.otherState (h : Delivered i p s t) {j : StepId} (hj : j ≠ i) :
    (t.stepRec j).state = (s.stepRec j).state := by
  cases h with
  | stands => rw [noted_stepRec, if_neg hj]
  | moved _ _ step => rw [step.others j hj]
  | refaulted _ _ => rw [faultInvalid_stepRec, if_neg hj, noted_stepRec, if_neg hj]

/-- A valid position ends no entry of R62 but in the state that carries it. -/
theorem Delivered.position_valid (h : Delivered i p s t) (valid : p ≠ .invalid)
    (old : (s.stepRec i).state ≠ .faulted .positionInvalid) :
    ofKind .positionInvalid t.link.alarms = ofKind .positionInvalid s.link.alarms := by
  cases h with
  | stands => rfl
  | moved _ _ step => exact step.position valid old
  | refaulted _ shown => exact absurd shown valid

/-- No position ends a step's state by R40 where it is ABSENT or moving. -/
theorem not_moves {r : StepState} (h : r = .absent ∨ r = .closing ∨ r = .opening) (p : Position) : ¬Moves r p := by
  rcases h with rfl | rfl | rfl <;> simp [Moves]

/-- Where the table of R40 does not move the step, no entry of R62 changes. -/
theorem Delivered.position_judged (h : Delivered i p s t)
    (old : (s.stepRec i).state = .absent ∨ (s.stepRec i).state = .closing ∨ (s.stepRec i).state = .opening) :
    ofKind .positionInvalid t.link.alarms = ofKind .positionInvalid s.link.alarms := by
  have other : (s.stepRec i).state ≠ .faulted .positionInvalid := by rcases old with e | e | e <;> simp [e]
  cases h with
  | stands => rfl
  | moved _ why step => exact step.position (why.resolve_left (not_moves old p)) other
  | refaulted faulted _ => rcases old with e | e | e <;> simp [e] at faulted

theorem Delivered.otherPosition (h : Delivered i p s t) :
    (ofKind .positionInvalid t.link.alarms).filter (fun e => decide (e.subject ≠ .step i)) =
      (ofKind .positionInvalid s.link.alarms).filter fun e => decide (e.subject ≠ .step i) := by
  cases h with
  | stands => rfl
  | moved _ _ step => exact step.otherPosition
  | refaulted _ _ =>
    rw [ofKind_otherPosition, ofKind_otherPosition]
    exact faultInvalid_filter (passes_otherPosition i _) _

/-- An entry into FAULTED raises the alarm of R62 (R41, R44). -/
theorem Moved.invalid_stands (h : Moved i .invalid s t) : AlarmStands .positionInvalid (.step i) t := by
  rw [alarmStands_ofKind, h.alarms .positionInvalid nofun nofun]
  obtain ⟨e, he, kind, subject, acked, -, -⟩ := raiseIn_mem s.clock.seconds .positionInvalid (.step i) false
    (causeOverIf (s.stepRec i).suspect .resonance (.step i) (leftAlarms (s.stepRec i).state i s))
  exact ⟨e, List.mem_filter.mpr ⟨he, decide_eq_true kind⟩, subject, acked⟩

/-- A step that leaves FAULTED with POSITION_INVALID loses that alarm's entry (R62). -/
theorem Moved.position_gone (h : Moved i p s t) (valid : p ≠ .invalid)
    (old : (s.stepRec i).state = .faulted .positionInvalid) : AlarmAbsent .positionInvalid (.step i) t := by
  have other : shown p ≠ .faulted .positionInvalid := by
    cases p with
    | invalid => exact absurd rfl valid
    | _ => nofun
  rw [alarmAbsent_ofKind, h.alarms .positionInvalid nofun nofun,
    ofKind_enteredAlarms (k := .positionInvalid) nofun (.inr other), old]
  exact fun e he => not_mem_ofKind_dropped he

/-- What a delivery does to the entries of POSITION_INVALID (R41, R44, R45, R62). -/
def PositionAlarms (i : StepId) (p : Position) (s t : State) : Prop :=
  (p = .invalid → ((s.stepRec i).state = .unknown ∨ (s.stepRec i).state = .opened ∨ (s.stepRec i).state = .closed) →
    AlarmStands .positionInvalid (.step i) t) ∧
  (p = .invalid → (∃ c, (s.stepRec i).state = .faulted c) →
    (AlarmAbsent .positionInvalid (.step i) s → AlarmStands .positionInvalid (.step i) t) ∧
    (¬AlarmAbsent .positionInvalid (.step i) s →
      ofKind .positionInvalid t.link.alarms = ofKind .positionInvalid s.link.alarms)) ∧
  (p ≠ .invalid → (s.stepRec i).state = .faulted .positionInvalid → AlarmAbsent .positionInvalid (.step i) t) ∧
  (p ≠ .invalid → (s.stepRec i).state ≠ .faulted .positionInvalid →
    ofKind .positionInvalid t.link.alarms = ofKind .positionInvalid s.link.alarms) ∧
  ((s.stepRec i).state = .absent ∨ (s.stepRec i).state = .closing ∨ (s.stepRec i).state = .opening →
    ofKind .positionInvalid t.link.alarms = ofKind .positionInvalid s.link.alarms) ∧
  (ofKind .positionInvalid t.link.alarms).filter (fun e => decide (e.subject ≠ .step i)) =
    (ofKind .positionInvalid s.link.alarms).filter fun e => decide (e.subject ≠ .step i)

/-- An invalid position makes a step FAULTED that is UNKNOWN, OPEN or CLOSED (R40, R44). -/
theorem moves_invalid {r : StepState} (h : r = .unknown ∨ r = .opened ∨ r = .closed) : Moves r .invalid := by
  rcases h with rfl | rfl | rfl <;> simp [Moves]

theorem applyDelivery_positionAlarms (i : StepId) (p : Position) (s : State) :
    PositionAlarms i p s (applyDelivery (i, p) s) := by
  have h := applyDelivery_delivered i p s
  refine ⟨?_, ?_, fun valid old => ?_, h.position_valid, h.position_judged, h.otherPosition⟩
  · rintro rfl old
    exact (applyDelivery_moves (moves_invalid old)).invalid_stands
  · rintro rfl ⟨c, old⟩
    rw [applyDelivery_refaults old]
    obtain ⟨raised, left⟩ := faultInvalid_position i (noted i .invalid s)
    exact ⟨raised, fun there => congrArg (ofKind .positionInvalid) (left there)⟩
  · exact (applyDelivery_moves (.inr (.inr (.inr ⟨⟨_, old⟩, valid⟩)))).position_gone valid old

/-- The cells of R40, but for an ABSENT step and those the sequencer judges. -/
theorem applyDelivery_state (present : (s.stepRec i).state ≠ .absent) (closing : (s.stepRec i).state ≠ .closing)
    (opening : (s.stepRec i).state ≠ .opening) : ((applyDelivery (i, p) s).stepRec i).state = shown p := by
  have moved (h : Moves (s.stepRec i).state p) := (applyDelivery_moves h).state
  have stood (h : ((s.stepRec i).state = .opened ∧ p = .opened) ∨ ((s.stepRec i).state = .closed ∧ p = .closed)) :
      ((applyDelivery (i, p) s).stepRec i).state = shown p := by
    rw [applyDelivery_stands (.inr h), noted_stepRec_self]
    rcases h with ⟨old, rfl⟩ | ⟨old, rfl⟩ <;> exact old
  cases old : (s.stepRec i).state with
  | absent => exact absurd old present
  | closing => exact absurd old closing
  | opening => exact absurd old opening
  | unknown => exact moved (.inl old)
  | opened =>
    by_cases hp : p = .opened
    · exact stood (.inl ⟨old, hp⟩)
    · exact moved (.inr (.inl ⟨old, hp⟩))
  | closed =>
    by_cases hp : p = .closed
    · exact stood (.inr ⟨old, hp⟩)
    · exact moved (.inr (.inr (.inl ⟨old, hp⟩)))
  | faulted c =>
    by_cases hp : p = .invalid
    · subst hp
      rw [applyDelivery_refaults old, faultInvalid_stepRec, if_pos rfl]
      rfl
    · exact moved (.inr (.inr (.inr ⟨⟨c, old⟩, hp⟩)))

theorem applyDelivery_absent (h : (s.stepRec i).state = .absent) :
    ((applyDelivery (i, p) s).stepRec i).state = .absent := by
  rw [applyDelivery_stands (.inl h), noted_stepRec_self]
  exact h

end

end Sys2Proof.Proofs

namespace Sys2Proof.Proofs

open Sys2Proof.Machine Sys2Proof.Safety Sys2Proof.Laws

/-! ### What an entry into a state brings: the list, the unit, the cooldown and the holdoff -/

/-- The unit's record of a step that enters CLOSED (R136). -/
def enteredClosedUnb (u : Unbalance) : Unbalance := if u.departed = true then u else u.entered

/-- What an entry into OPEN does to the arming and the holdoff (R70). -/
def HoldoffStarts (i : StepId) (s t : State) : Prop :=
  if (s.stepRec i).suspect = true ∨ (s.timers i).arming = true then
    (t.timers i).arming = false ∧
    (0 < s.cfg.yard.harmHoldoff →
      (t.timers i).holdoffMs = 1000 * s.cfg.yard.harmHoldoff ∧ (t.stepRec i).holdoff = true) ∧
    (s.cfg.yard.harmHoldoff = 0 →
      (t.timers i).holdoffMs = (s.timers i).holdoffMs ∧ (t.stepRec i).holdoff = (s.stepRec i).holdoff)
  else (t.timers i).arming = false ∧ (t.timers i).holdoffMs = (s.timers i).holdoffMs ∧
    (t.stepRec i).holdoff = (s.stepRec i).holdoff

section
variable {i : StepId} {p : Position} {s t : State}

theorem Moved.closed_unb (h : Moved i .closed s t) (old : (s.stepRec i).state ≠ .closed) :
    t.unb i = enteredClosedUnb (s.unb i) := by
  rw [h.unb, leftUnb, if_neg old]
  rfl

theorem Moved.closed_arming (h : Moved i .closed s t) : (t.timers i).arming = false := by
  rw [h.timers]
  rfl

/-- A step in service that is shown closed joins the list at its tail (R59). -/
theorem Moved.closed_list (h : Moved i .closed s t) (service : (s.stepRec i).retired = false)
    (out : i ∉ s.tbl.closedOrder) : t.tbl.closedOrder = s.tbl.closedOrder ++ [i] := by
  rw [h.list, if_pos ⟨service, .inl rfl⟩, if_neg out]

/-- A step that is not shown closed leaves the list (R59). -/
theorem Moved.left_list (h : Moved i p s t) (hp : p ≠ .closed) :
    t.tbl.closedOrder = s.tbl.closedOrder.filter fun j => decide (j ≠ i) := by
  have state : ¬(shown p = .closed ∨ shown p = .opening) := by
    cases p with
    | closed => exact absurd rfl hp
    | _ => nofun
  rw [h.list, if_neg fun both => state both.2]

/-- The unit's record of a step that leaves CLOSED for a state other than CLOSED (R137, R138). -/
theorem Moved.left_unb (h : Moved i p s t) (hp : p ≠ .closed) (old : (s.stepRec i).state = .closed) :
    t.unb i = if departsNow .closed s then disarmedUnb (s.unb i) else { s.unb i with departed := true } := by
  have state : shown p ≠ .closed := by
    cases p with
    | closed => exact absurd rfl hp
    | _ => nofun
  rw [h.unb, enteredUnb, if_neg state, leftUnb, old, if_pos rfl]

/-- The unit hears of a departure at once but behind a good window end that it has still to evaluate (log 37). -/
theorem departsNow_iff (s : State) : departsNow .closed s = true ↔ ¬WindowAtUnit s := by
  rw [← dueFor_ub_good]
  simp [departsNow]

/-- The entry of an unbalance alarm goes when its step departs with the alarm standing (R138). -/
theorem Moved.unbalance_gone (h : Moved i p s t) (old : (s.stepRec i).state = .closed) (now : ¬WindowAtUnit s)
    (active : (s.unb i).alarmActive = true) : AlarmAbsent .unbalanceAlarm (.step i) t := by
  rw [alarmAbsent_ofKind, h.alarms .unbalanceAlarm nofun nofun,
    ofKind_enteredAlarms (k := .unbalanceAlarm) nofun (.inl nofun), old]
  simp only [leftAlarms, (departsNow_iff s).mpr now, active, Bool.and_self]
  exact fun e he => not_mem_ofKind_dropped he

/-- An entry into OPEN starts a full cooldown (R51, R64). -/
theorem Moved.opened_cooldown (h : Moved i .opened s t) :
    (t.timers i).cooldown = 1000 * (s.stepCfg i).dischargeTime ∧ (t.stepRec i).cooling = true := by
  rw [h.timers, h.own]
  exact ⟨rfl, rfl⟩

/-- A move that clears the flag is one into OPEN or FAULTED (R51, R52, R130). -/
theorem Moved.suspectCleared (h : Moved i p s t) (hp : p ≠ .closed) : SuspectCleared i s t := by
  have clears : clearsSuspect (shown p) = true := by
    cases p with
    | closed => exact absurd rfl hp
    | _ => rfl
  have flag := h.suspect
  have ended := h.resonance
  rw [clears] at flag ended
  exact ⟨flag, ended⟩

/-- An armed or suspect step that enters OPEN starts its holdoff and loses the arming (R69 to R71). -/
theorem Moved.holdoffStarts (h : Moved i .opened s t) : HoldoffStarts i s t := by
  have ms : (t.timers i).holdoffMs =
      if holdoffRuns i s = true then 1000 * s.cfg.yard.harmHoldoff else (s.timers i).holdoffMs := by
    rw [h.timers]
    simp [movedTimer, shown]
  have flag : (t.stepRec i).holdoff = (holdoffRuns i s || (s.stepRec i).holdoff) := by
    rw [h.own]
    simp [enteredRec, shown, leftRec_holdoff]
  have arming : (t.timers i).arming = false := by
    rw [h.timers]
    rfl
  unfold HoldoffStarts
  rw [ms, flag]
  split
  · next due =>
    have due : ((s.stepRec i).suspect || (s.timers i).arming) = true := by simpa using due
    refine ⟨arming, fun runs => ?_, fun none => ?_⟩
    · simp [holdoffRuns, due, runs]
    · simp [holdoffRuns, none]
  · next due =>
    have due : ((s.stepRec i).suspect || (s.timers i).arming) = false := by simpa using due
    exact ⟨arming, by simp [holdoffRuns, due], by simp [holdoffRuns, due]⟩

/-- An entry into FAULTED arms the holdoff of a suspect (R52, R71). -/
theorem Moved.faultedNotice (h : Moved i .invalid s t) : FaultedNotice i s t := by
  refine ⟨h.suspectCleared nofun, ?_, ?_, ?_⟩
  · rw [h.timers]
    rfl
  · rw [h.timers]
    simp [movedTimer, shown]
  · rw [h.own]
    exact leftRec_holdoff _ _

/-- A step that leaves OPEN loses its cooldown (R51). -/
theorem Moved.cooldown_stopped (h : Moved i p s t) (hp : p ≠ .opened) (old : (s.stepRec i).state = .opened) :
    (t.timers i).cooldown = 0 ∧ (t.stepRec i).cooling = false := by
  have state : shown p ≠ .opened := by
    cases p with
    | opened => exact absurd rfl hp
    | _ => nofun
  rw [h.timers, h.own, old]
  refine ⟨by simp [movedTimer, state, old], ?_⟩
  cases p with
  | opened => exact absurd rfl hp
  | _ => rfl

/-- No delivery changes the suspect flag that neither shows the step OPEN nor makes it FAULTED (R51, R52, R130). -/
theorem Delivered.suspect_kept (h : Delivered i p s t)
    (hp : p = .closed ∨ (p = .invalid ∧ ((∃ c, (s.stepRec i).state = .faulted c) ∨ (s.stepRec i).state = .closing ∨
      (s.stepRec i).state = .opening))) :
    (t.stepRec i).suspect = (s.stepRec i).suspect ∧ CauseOver .resonance .yard false s t := by
  cases h with
  | stands =>
    rw [noted_stepRec_self]
    exact ⟨rfl, causeOver_false rfl _⟩
  | moved _ why step =>
    have closed : p = .closed := by
      rcases hp with hp | ⟨rfl, ⟨c, old⟩ | old⟩
      · exact hp
      · exact absurd (why.resolve_right (fun h => h rfl)) (by simp [Moves, old])
      · exact absurd (why.resolve_right (fun h => h rfl)) (not_moves (.inr old) _)
    subst closed
    exact ⟨step.suspect, causeOver_false (CauseOver.same step.resonance) _⟩
  | refaulted _ _ =>
    rw [faultInvalid_stepRec, if_pos rfl, noted_stepRec_self]
    have kept := faultInvalid_filter (passes_ofKind (k := .resonance) (k' := .positionInvalid) nofun (.step i))
      (noted i p s)
    exact ⟨rfl, causeOver_false kept _⟩

end

end Sys2Proof.Proofs

namespace Sys2Proof.Proofs

open Sys2Proof.Machine Sys2Proof.Safety Sys2Proof.Laws

section
variable {i : StepId} {p : Position} {s t : State} {o : Operation}

/-! ### The notices of an uncommanded change (R42, R43) -/

theorem moveStep_lines (i j : StepId) (new : StepState) (s : State) : (moveStep i new s).lines j = s.lines j := by
  rw [State.lines, show (moveStep i new s).io = s.io by simp]
  rfl

/-- A closed step that is shown open under control raises UNCOMMANDED_OPEN (R42). -/
theorem applyDelivery_uncommandedOpen (old : (s.stepRec i).state = .closed) (control : (s.lines i).direct = false) :
    AlarmStands .uncommandedOpen (.step i) (applyDelivery (i, .opened) s) := by
  have cell : applyDelivery (i, .opened) s = uncommandedOpen i (noted i .opened s) := by
    unfold applyDelivery
    dsimp only
    rw [noted_state .opened old]
    rfl
  have control' : ((moveStep i .opened (noted i .opened s)).lines i).direct = false :=
    (congrArg LineState.direct (moveStep_lines i i .opened _)).trans control
  rw [cell, uncommandedOpen, if_neg (by rw [control']; exact Bool.false_ne_true)]
  exact alarmStands_raise _ _ _

/-- An open step that is shown closed under control raises UNCOMMANDED_CLOSE with its detail (R43). -/
theorem applyDelivery_uncommandedClose (old : (s.stepRec i).state = .opened) (control : (s.lines i).direct = false) :
    ∃ e ∈ (applyDelivery (i, .closed) s).link.alarms, e.kind = .uncommandedClose ∧ e.subject = .step i ∧
      e.acked = false ∧ e.cooldownCut = (s.stepRec i).cooling := by
  have cell : applyDelivery (i, .closed) s = uncommandedClose i (noted i .closed s) := by
    unfold applyDelivery
    dsimp only
    rw [noted_state .closed old]
    rfl
  have control' : ((moveStep i .closed (noted i .closed s)).lines i).direct = false :=
    (congrArg LineState.direct (moveStep_lines i i .closed _)).trans control
  have cut : ((noted i .closed s).stepRec i).cooling = (s.stepRec i).cooling := by rw [noted_stepRec_self]
  rw [cell, uncommandedClose, if_neg (by rw [control']; exact Bool.false_ne_true), cut]
  obtain ⟨e, he, kind, subject, acked, -, detail⟩ := raiseIn_mem (moveStep i .closed (noted i .closed s)).clock.seconds
    .uncommandedClose (.step i) (s.stepRec i).cooling (moveStep i .closed (noted i .closed s)).link.alarms
  exact ⟨e, he, kind, subject, acked, detail⟩

/-! ### A held close when its step is shown otherwise than OPEN (R77) -/

/-- The reason with which a held close ends whose step is shown otherwise than OPEN. -/
def shownReason (p : Position) : Option Reason := if p = .closed then some .notOpen else some .faulted

/-- A held close ends as its step leaves OPEN for what is shown. -/
theorem moveStep_closeEnded (ho : (s.lane i).op = some o) (hu : o.unpulsed = true) (hi : s.io.inp0.level = false)
    (old : (s.stepRec i).state = .opened) (hp : p ≠ .opened) :
    CloseEnded i o.source (shownReason p) s (moveStep i (shown p) s) := by
  have same : ∃ u, moveStep i (shown p) s = watchClose i u ∧ u.seq = s.seq ∧ u.arb = s.arb ∧ u.vc = s.vc ∧
      u.oe = s.oe ∧ u.io = s.io ∧ (u.stepRec i).state = shown p := by
    refine ⟨_, moveStep_eq i (shown p) s, ?_⟩
    rw [old]
    have state : (enterState i (shown p) (leaveState i .opened (relisted i (shown p) s))).stepRec i =
        enteredRec (shown p) (holdoffRuns i (leaveState i .opened (relisted i (shown p) s)))
          (leftRec .opened { s.stepRec i with state := shown p }) := by
      rw [enterState_stepRec, if_pos rfl, leaveState_stepRec, if_pos rfl, relisted_stepRec, if_pos rfl]
    rw [state, enteredRec_state, leftRec_state]
    cases p with
    | opened => exact absurd rfl hp
    | closed | invalid => simp [shown, enterState, leaveState]
  obtain ⟨u, eq, seq, arb, vc, oe, io, state⟩ := same
  have barred : CloseBarred i (shownReason p) u := by
    unfold CloseBarred
    dsimp only
    rw [io, hi, state]
    cases p with
    | opened => exact absurd rfl hp
    | closed | invalid => simp [shown, shownReason, StepState.isFaulted]
  have lane := lane_congr seq i
  rw [eq]
  exact CloseEnded.congr (watchClose_ended (lane ▸ ho) hu barred) (by rw [lane]) (by rw [arb]) vc.symm oe.symm

/-- A notice raised after a close has ended leaves its end. -/
theorem CloseEnded.raised {src : Requester} {why : Option Reason} (h : CloseEnded i src why s t) (k : AlarmKind)
    (sub : Subject) (cut : Bool) : CloseEnded i src why s (raiseCut k sub cut t) := h

/-- A delivery that takes the step out of OPEN under a held close ends it (R77). -/
theorem applyDelivery_closeEnded (ho : (s.lane i).op = some o) (hu : o.unpulsed = true)
    (hi : s.io.inp0.level = false) (old : (s.stepRec i).state = .opened) (hp : p ≠ .opened) :
    CloseEnded i o.source (shownReason p) s (applyDelivery (i, p) s) := by
  have moved : CloseEnded i o.source (shownReason p) s (moveStep i (shown p) (noted i p s)) :=
    CloseEnded.congr (s := noted i p s)
      (moveStep_closeEnded (s := noted i p s) ho hu hi (by rw [noted_stepRec_self]; exact old) hp) rfl rfl rfl rfl
  unfold applyDelivery
  dsimp only
  rw [noted_state p old]
  cases p with
  | opened => exact absurd rfl hp
  | invalid => exact moved
  | closed =>
    show CloseEnded i o.source _ s (uncommandedClose i (noted i .closed s))
    unfold uncommandedClose
    dsimp only
    split
    · exact moved
    · exact CloseEnded.raised moved _ _ _

/-! ### A confirmed operation (R49, R51, R82, R86, R92, R95, R108, R168) -/

/-- The end of a confirmed operation: its requester's report and the right's settle. -/
def OperationEnded (o : Operation) (settleTime : Nat) (s t : State) : Prop :=
  (o.source = .oe → t.vc = s.vc ∧ (s.oe.executing = none → t.oe = s.oe) ∧
    ∀ j, s.oe.executing = some j → t.oe.executing = none ∧ (t.slot j).state = .finished ∧
      (t.slot j).outcome = some .done ∧ (t.slot j).reason = none) ∧
  (o.source = .vc → t.oe = s.oe ∧ t.vc = (vcEndReport s).vc) ∧
  (o.source = .protection → t.oe = s.oe ∧ t.vc = s.vc) ∧
  t.arb = (if o.underRight = true then
      { s.arb with busy :=
          if s.arb.vcRequest = .urgent ∨ settleTime = 0 then .notBusy else .settling (1000 * settleTime) }
    else s.arb)

/-- The end goes by the requesters and the right as they stood before it. -/
theorem operationEnded {m : State} (o : Operation) (k : Nat) (arb : m.arb = s.arb) (vc : m.vc = s.vc)
    (oe : m.oe = s.oe) : OperationEnded o k s (passIfUnder o (1000 * k) (endReport o.source .done none m)) := by
  obtain ⟨reported, right⟩ := ended_spec o .done none k m
  have reported := reported.congr oe.symm vc.symm arb.symm rfl rfl
  exact ⟨reported.oe, reported.vc, reported.protection, by rw [right, arb]⟩

/-- What the confirmed close's state keeps and sets, before its end report. -/
theorem closeConfirmed_spec (i : StepId) (s : State) (old : (s.stepRec i).state ≠ .closed) :
    (closeConfirmed i s).arb = s.arb ∧ (closeConfirmed i s).vc = s.vc ∧ (closeConfirmed i s).oe = s.oe ∧
    (closeConfirmed i s).lane i = { s.lane i with op := none, confirm := none } ∧
    ((closeConfirmed i s).stepRec i).opCount = min ((s.stepRec i).opCount + 1) 65535 ∧
    (closeConfirmed i s).hs.snapshot = none ∧ (closeConfirmed i s).hs.watch = (openWatch i s).hs.watch := by
  obtain ⟨still, oe⟩ := still_moveStep (dropOperation_quiet i s) .closed
  have oe := oe old
  have count : ((moveStep i .closed (dropOperation i s)).stepRec i).opCount = (s.stepRec i).opCount := by
    rw [moveStep_stepRec_self]
    exact leftRec_opCount _ _
  have keeps : (moveStep i .closed (dropOperation i s)).hs = s.hs ∧
      (moveStep i .closed (dropOperation i s)).cfg = s.cfg := by simp
  obtain ⟨hs, cfg⟩ := keeps
  have lane : (moveStep i .closed (dropOperation i s)).lane i = { s.lane i with op := none, confirm := none } :=
    (lane_congr still.seq i).trans (State.modLane_lane_self i (fun l => { l with op := none, confirm := none }) s)
  have arb := still.arb
  have vc := still.vc
  unfold closeConfirmed
  generalize moveStep i .closed (dropOperation i s) = m at *
  refine ⟨arb, vc, oe, lane, ?_, rfl, ?_⟩
  · show ((m.modStep i fun c => { c with opCount := min (c.opCount + 1) 65535 }).stepRec i).opCount = _
    rw [State.modStep_stepRec_self, count]
  · show (openWatch i (m.modStep i fun c => { c with opCount := min (c.opCount + 1) 65535 })).hs.watch = _
    simp only [openWatch, State.modStep, hs, cfg]

/-- A close in motion that is confirmed: its end, the operation's lane and count, and the resonance watch (R49, R82,
R128). -/
structure CloseConfirmed (i : StepId) (o : Operation) (s t : State) : Prop where
  ended : OperationEnded o s.cfg.yard.settleClose s t
  moved : Moved i .closed s t
  opCount : (t.stepRec i).opCount = min ((s.stepRec i).opCount + 1) 65535
  lane : t.lane i = { s.lane i with op := none, confirm := none }
  snapshot : t.hs.snapshot = none
  watch : t.hs.watch = (openWatch i s).hs.watch

theorem applyDelivery_confirmsClose {n : Nat} {tm : Timing} (old : (s.stepRec i).state = .closing)
    (ho : (s.lane i).op = some o) (hk : o.kind = .close tm) (hc : (s.lane i).confirm = some n) :
    CloseConfirmed i o s (applyDelivery (i, .closed) s) := by
  have cell : applyDelivery (i, .closed) s = confirmClose i o (noted i .closed s) := by
    rw [applyDelivery_judged (.inl old), judgeDelivery]
    simp only [show (noted i .closed s).lane i = s.lane i from rfl, ho, hc, hk]
  have old' : ((noted i .closed s).stepRec i).state ≠ .closed := by
    rw [noted_stepRec_self]
    simp [old]
  obtain ⟨arb, vc, oe, lane, count, snapshot, watch⟩ := closeConfirmed_spec i (noted i .closed s) old'
  have count : ((closeConfirmed i (noted i .closed s)).stepRec i).opCount = min ((s.stepRec i).opCount + 1) 65535 := by
    rw [count, noted_stepRec_self]
  have moved : Moved i .closed s (confirmClose i o (noted i .closed s)) := confirmClose_moved
  have ended := operationEnded (s := s) o s.cfg.yard.settleClose arb vc oe
  rw [cell]
  rw [confirmClose_eq] at moved ⊢
  obtain ⟨tbl, -, seq, hs, -⟩ := ended_frame o .done none (1000 * s.cfg.yard.settleClose)
    (closeConfirmed i (noted i .closed s))
  exact ⟨ended, moved, (congrArg StepRec.opCount (stepRec_congr (congrArg StepTable.recs tbl) i)).trans count,
    (lane_congr seq i).trans lane, (congrArg Harmonic.snapshot hs).trans snapshot,
    (congrArg Harmonic.watch hs).trans watch⟩

/-- A trip that is confirmed: its end and the operation's lane (R51, R86). -/
structure OpenConfirmed (i : StepId) (o : Operation) (s t : State) : Prop where
  ended : OperationEnded o s.cfg.yard.settleOpen s t
  moved : Moved i .opened s t
  lane : t.lane i = { s.lane i with op := none, confirm := none }

theorem applyDelivery_confirmsOpen {n : Nat} (old : (s.stepRec i).state = .opening) (ho : (s.lane i).op = some o)
    (hk : o.kind = .trip) (hc : (s.lane i).confirm = some n) :
    OpenConfirmed i o s (applyDelivery (i, .opened) s) := by
  have cell : applyDelivery (i, .opened) s = confirmOpen i o (noted i .opened s) := by
    rw [applyDelivery_judged (.inr old), judgeDelivery]
    simp only [show (noted i .opened s).lane i = s.lane i from rfl, ho, hc, hk]
  have old' : ((dropOperation i (noted i .opened s)).stepRec i).state ≠ .closed := by
    show ((noted i .opened s).stepRec i).state ≠ .closed
    rw [noted_stepRec_self]
    simp [old]
  obtain ⟨still, oe⟩ := still_moveStep (dropOperation_quiet i (noted i .opened s)) .opened
  have lane : (moveStep i .opened (dropOperation i (noted i .opened s))).lane i =
      { s.lane i with op := none, confirm := none } :=
    (lane_congr still.seq i).trans
      (State.modLane_lane_self i (fun l => { l with op := none, confirm := none }) (noted i .opened s))
  have moved : Moved i .opened s (confirmOpen i o (noted i .opened s)) := confirmOpen_moved
  have ended := operationEnded (s := s) o s.cfg.yard.settleOpen still.arb still.vc (oe old')
  rw [cell]
  rw [confirmOpen_eq] at moved ⊢
  obtain ⟨-, -, seq, -⟩ := ended_frame o .done none (1000 * s.cfg.yard.settleOpen)
    (moveStep i .opened (dropOperation i (noted i .opened s)))
  exact ⟨ended, moved, (lane_congr seq i).trans lane⟩

/-- A position that does not confirm the operation is only noted (R46). -/
theorem applyDelivery_unconfirmed (old : (s.stepRec i).state = .closing ∨ (s.stepRec i).state = .opening)
    (ho : (s.lane i).op = some o) (hp : ∀ tm, ¬(o.kind = .close tm ∧ p = .closed))
    (hq : ¬(o.kind = .trip ∧ p = .opened)) : applyDelivery (i, p) s = noted i p s := by
  rw [applyDelivery_judged old, judgeDelivery]
  simp only [show (noted i p s).lane i = s.lane i from rfl, ho]
  cases (s.lane i).confirm with
  | none => rfl
  | some n =>
    cases hk : o.kind with
    | trip => cases p <;> simp_all
    | close tm => cases p <;> simp_all

end

/-- Settles O18, cell by cell: a position that moves the step (`Moved`), one that leaves it as it stands, and one the
sequencer judges. -/
theorem deliveryActsOnTheStepState : Obligations.DeliveryActsOnTheStepState := by
  intro i p s
  have whole := applyDelivery_delivered i p s
  refine ⟨whole.indicated, fun j hj => whole.otherState hj, applyDelivery_absent, fun present closing opening => ?_,
    applyDelivery_positionAlarms i p s, fun hp old => ?_, fun old hp => ?_, fun hp old => ?_, fun hp old => ?_,
    whole.suspect_kept, fun o tm old hp hi ho hk waits => ?_, fun old hp => ?_, fun old hp control => ?_,
    fun old hp control => ?_, fun o n old ho hk hc => ?_, fun o n old ho hk hc => ?_⟩
  · rw [applyDelivery_state present closing opening]
    cases p <;> rfl
  · subst hp
    have moved : Moved i .closed s (applyDelivery (i, .closed) s) := by
      refine applyDelivery_moves ?_
      rcases old with old | old | ⟨c, old⟩ <;> simp [Moves, old]
    have other : (s.stepRec i).state ≠ .closed := by rcases old with old | old | ⟨c, old⟩ <;> simp [old]
    exact ⟨moved.closed_arming, moved.closed_unb other, moved.closed_list⟩
  · have moved : Moved i p s (applyDelivery (i, p) s) := applyDelivery_moves (.inr (.inr (.inl ⟨old, hp⟩)))
    refine ⟨moved.left_list hp, fun waits => ?_, fun now => ⟨?_, moved.unbalance_gone old now⟩⟩
    · rw [moved.left_unb hp old, if_neg fun now => (departsNow_iff s).mp now waits]
    · rw [moved.left_unb hp old, if_pos ((departsNow_iff s).mpr now)]
      rfl
  · subst hp
    have moved : Moved i .opened s (applyDelivery (i, .opened) s) := by
      refine applyDelivery_moves ?_
      rcases old with old | old | ⟨c, old⟩ <;> simp [Moves, old]
    exact ⟨moved.opened_cooldown.1, moved.opened_cooldown.2, moved.suspectCleared nofun, moved.holdoffStarts⟩
  · subst hp
    exact (applyDelivery_moves (moves_invalid old)).faultedNotice
  · have unpulsed : o.unpulsed = true := by simp [Operation.unpulsed, hk, waits]
    exact applyDelivery_closeEnded ho unpulsed hi old hp
  · exact (applyDelivery_moves (.inr (.inl ⟨old, hp⟩))).cooldown_stopped hp old
  · subst hp
    exact applyDelivery_uncommandedOpen old control
  · subst hp
    exact applyDelivery_uncommandedClose old control
  · obtain ⟨tm, hk⟩ := hk
    split
    · next hp =>
      subst hp
      obtain ⟨ended, moved, count, lane, snapshot, watch⟩ := applyDelivery_confirmsClose old ho hk hc
      exact ⟨ended, moved.closed_arming, moved.closed_unb (by simp [old]), moved.closed_list, moved.state, count,
        congrArg Lane.op lane, congrArg Lane.confirm lane, snapshot, watch⟩
    · next hp =>
      rw [applyDelivery_unconfirmed (.inl old) ho (fun _ h => hp h.2) (by simp [hk]), noted_stepRec_self]
      exact ⟨old, rfl⟩
  · split
    · next hp =>
      subst hp
      obtain ⟨ended, moved, lane⟩ := applyDelivery_confirmsOpen old ho hk hc
      exact ⟨ended, moved.holdoffStarts, moved.suspectCleared nofun, moved.left_list nofun, moved.state,
        congrArg Lane.op lane, congrArg Lane.confirm lane, moved.opened_cooldown.1⟩
    · next hp =>
      rw [applyDelivery_unconfirmed (.inr old) ho (by simp [hk]) (fun h => hp h.2), noted_stepRec_self]
      exact ⟨old, rfl⟩

end Sys2Proof.Proofs

namespace Sys2Proof.Proofs

open Sys2Proof.Machine Sys2Proof.Safety Sys2Proof.Laws

/-! ### Changes that keep blocks and timers together (R67, R72) -/

/-- A change that keeps the promise on the timed blocks. -/
def KeepsBlocks (s t : State) : Prop := TimedBlocksOk s → TimedBlocksOk t

theorem KeepsBlocks.refl (s : State) : KeepsBlocks s s := id

/-- A change that keeps the promise after one that does. -/
theorem KeepsBlocks.after {s t u : State} (b : KeepsBlocks t u) (a : KeepsBlocks s t) : KeepsBlocks s u :=
  fun h => b (a h)

/-- The figures that the promise speaks of. -/
def timed (s : State) : Vector StepRec 8 × Vector DischargeTimer 8 × Vector StepSettings 8 :=
  (s.tbl.recs, s.dt, s.cfg.perStep)

/-- A change of other figures. -/
theorem KeepsBlocks.of_timed {s t : State} (h : timed t = timed s) : KeepsBlocks s t := by
  obtain ⟨recs, dt, settings⟩ : t.tbl.recs = s.tbl.recs ∧ t.dt = s.dt ∧ t.cfg.perStep = s.cfg.perStep := by
    simpa only [timed, Prod.mk.injEq] using h
  unfold KeepsBlocks TimedBlocksOk State.stepRec State.timers State.stepCfg
  rw [recs, dt, settings]
  exact id

/-- A change of the settings that keeps every DISCHARGE_TIME above 0 (R196). -/
theorem KeepsBlocks.of_settings {s t : State} (recs : t.tbl.recs = s.tbl.recs) (dt : t.dt = s.dt)
    (times : ∀ j, 0 < (s.stepCfg j).dischargeTime → 0 < (t.stepCfg j).dischargeTime) : KeepsBlocks s t := fun h j => by
  obtain ⟨cooled, held, time⟩ := h j
  rw [stepRec_congr recs, timers_congr dt]
  exact ⟨cooled, held, times j time⟩

/-- Rounds of an iteration keep the promise when each does. -/
theorem keepsBlocks_forEach {α : Type} {f : α → State → State} (h : ∀ a s, KeepsBlocks s (f a s)) (l : List α)
    (s : State) : KeepsBlocks s (forEach f l s) := forEach_invariant TimedBlocksOk f h l s

theorem keepsBlocks_raise (k : AlarmKind) (sub : Subject) (s : State) : KeepsBlocks s (raise k sub s) := .of_timed rfl

theorem keepsBlocks_endCause (k : AlarmKind) (sub : Subject) (s : State) : KeepsBlocks s (endCause k sub s) :=
  .of_timed rfl

section
variable {i : StepId} {s : State}

/-- One step's record and timers changed, its blocks with its countdowns. -/
theorem keepsBlocks_pair {f : StepRec → StepRec} {g : DischargeTimer → DischargeTimer}
    (pair : TimedBlocksOk s → ((f (s.stepRec i)).cooling = true ↔ 0 < (g (s.timers i)).cooldown) ∧
      ((f (s.stepRec i)).holdoff = true ↔ 0 < (g (s.timers i)).holdoffMs)) :
    KeepsBlocks s ((s.modTimers i g).modStep i f) := fun h j => by
  obtain ⟨cooled, held, time⟩ := h j
  obtain ⟨cooling, holdoff⟩ := pair h
  have recs : ((s.modTimers i g).modStep i f).stepRec j = if j = i then f (s.stepRec i) else s.stepRec j :=
    State.modStep_stepRec i j f (s.modTimers i g)
  have timers : ((s.modTimers i g).modStep i f).timers j = if j = i then g (s.timers i) else s.timers j :=
    State.modTimers_timers i j g s
  rw [recs, timers]
  split
  · exact ⟨cooling, holdoff, time⟩
  · exact ⟨cooled, held, time⟩

/-- A change of a step's record beside its timed blocks. -/
theorem keepsBlocks_modStep {f : StepRec → StepRec} (cooling : ∀ r, (f r).cooling = r.cooling)
    (holdoff : ∀ r, (f r).holdoff = r.holdoff) : KeepsBlocks s (s.modStep i f) := fun h j => by
  rw [State.modStep_stepRec]
  split
  · next e =>
    rw [cooling, holdoff, ← e]
    exact h j
  · exact h j

/-- A change of a step's timers beside its countdowns: the holdoff arming (R69, R71). -/
theorem keepsBlocks_modTimers {g : DischargeTimer → DischargeTimer} (cooldown : ∀ t, (g t).cooldown = t.cooldown)
    (holdoff : ∀ t, (g t).holdoffMs = t.holdoffMs) : KeepsBlocks s (s.modTimers i g) := fun h j => by
  rw [State.modTimers_timers]
  split
  · next e =>
    rw [cooldown, holdoff, ← e]
    exact h j
  · exact h j

/-! ### Cooldowns and holdoffs that start and stop -/

theorem keepsBlocks_watchClose (i : StepId) (s : State) : KeepsBlocks s (watchClose i s) := .of_timed (by simp [timed])

/-- COOLING comes with a full cooldown, which has a length (R64). -/
theorem keepsBlocks_startCooldown (i : StepId) (s : State) : KeepsBlocks s (startCooldown i s) :=
  .after (keepsBlocks_watchClose i _) (keepsBlocks_pair fun h =>
    ⟨iff_of_true rfl (Nat.mul_pos (by decide) (h i).2.2), (h i).2.1⟩)

/-- COOLING goes with its cooldown (R51, R65). -/
theorem keepsBlocks_stopCooldown (i : StepId) (s : State) : KeepsBlocks s (stopCooldown i s) :=
  keepsBlocks_pair fun h => ⟨iff_of_false Bool.false_ne_true (Nat.lt_irrefl 0), (h i).2.1⟩

/-- HARMONIC_HOLDOFF comes with a full holdoff where HARM_HOLDOFF gives it a length (R70). -/
theorem keepsBlocks_startHoldoff (i : StepId) (s : State) : KeepsBlocks s (startHoldoff i s) := by
  have disarmed : KeepsBlocks s (s.modTimers i fun t => { t with arming := false }) :=
    keepsBlocks_modTimers (fun _ => rfl) fun _ => rfl
  unfold startHoldoff
  dsimp only
  split
  · next runs =>
    refine .after (keepsBlocks_watchClose i _) (.after (keepsBlocks_pair fun h => ?_) disarmed)
    exact ⟨(h i).1, iff_of_true rfl (Nat.mul_pos (by decide) runs)⟩
  · exact disarmed

/-- HARMONIC_HOLDOFF goes with its holdoff (R72). -/
theorem keepsBlocks_stopHoldoff (i : StepId) (s : State) : KeepsBlocks s (stopHoldoff i s) :=
  keepsBlocks_pair fun h => ⟨(h i).1, iff_of_false Bool.false_ne_true (Nat.lt_irrefl 0)⟩

theorem keepsBlocks_armHoldoff (i : StepId) (s : State) : KeepsBlocks s (armHoldoff i s) := by
  unfold armHoldoff
  split
  · exact keepsBlocks_startHoldoff i s
  · exact .refl s
  · exact .refl s
  · exact keepsBlocks_modTimers (fun _ => rfl) fun _ => rfl

theorem down_pos (n : Nat) : 0 < down n ↔ 0 < n := by
  unfold down
  split <;> omega

/-- A tick takes no countdown to its end: the last tick is left to the expiry (R65, R72). -/
theorem keepsBlocks_countDown (s : State) : KeepsBlocks s (countDown s) := fun h j => by
  obtain ⟨cooled, held, time⟩ := h j
  have timers : (countDown s).timers j = (s.timers j).down := look_map _ _ _
  rw [timers]
  exact ⟨cooled.trans (down_pos _).symm, held.trans (down_pos _).symm, time⟩

/-! ### A step that changes its state (R51, R52, R64, R70, R71) -/

theorem keepsBlocks_clearSuspect (i : StepId) (s : State) : KeepsBlocks s (clearSuspect i s) := by
  unfold clearSuspect
  split
  · exact .after (keepsBlocks_endCause _ _ _) (keepsBlocks_modStep (fun _ => rfl) fun _ => rfl)
  · exact .refl s

theorem keepsBlocks_leaveState (i : StepId) (old : StepState) (s : State) : KeepsBlocks s (leaveState i old s) := by
  unfold leaveState
  split
  · exact keepsBlocks_stopCooldown i s
  · exact .of_timed (by simp [timed])
  · exact keepsBlocks_endCause _ _ s
  · exact .refl s

theorem keepsBlocks_enterOpened (i : StepId) (s : State) : KeepsBlocks s (enterOpened i s) := by
  have cooled := (keepsBlocks_startCooldown i _).after (keepsBlocks_clearSuspect i s)
  unfold enterOpened
  dsimp only
  split
  · exact .after (keepsBlocks_startHoldoff i _) cooled
  · exact cooled

theorem keepsBlocks_enterFaulted (i : StepId) (c : FaultCause) (s : State) : KeepsBlocks s (enterFaulted i c s) := by
  have armed :
      KeepsBlocks s (if (s.stepRec i).suspect then s.modTimers i fun t => { t with arming := true } else s) := by
    split
    · exact keepsBlocks_modTimers (fun _ => rfl) fun _ => rfl
    · exact .refl s
  have cleared := (keepsBlocks_clearSuspect i _).after armed
  unfold enterFaulted
  dsimp only
  split
  · exact .after (keepsBlocks_raise _ _ _) cleared
  · exact cleared

theorem keepsBlocks_enterState (i : StepId) (new : StepState) (s : State) : KeepsBlocks s (enterState i new s) := by
  unfold enterState
  split
  · exact keepsBlocks_enterOpened i s
  · exact .after (.of_timed rfl) (keepsBlocks_modTimers (i := i) (g := fun t => { t with arming := false })
      (fun _ => rfl) fun _ => rfl)
  · exact keepsBlocks_enterFaulted i _ s
  · exact .refl s

theorem keepsBlocks_moveStep (i : StepId) (new : StepState) (s : State) : KeepsBlocks s (moveStep i new s) := by
  have listed : KeepsBlocks s (relist i (s.modStep i fun c => { c with state := new })) :=
    .after (.of_timed (by simp [timed])) (keepsBlocks_modStep (i := i) (f := fun c => { c with state := new })
      (fun _ => rfl) fun _ => rfl)
  exact .after (keepsBlocks_watchClose i _) (.after (keepsBlocks_enterState i new _)
    (.after (keepsBlocks_leaveState i _ _) listed))

theorem keepsBlocks_faultInvalid (i : StepId) (s : State) : KeepsBlocks s (faultInvalid i s) := by
  have caused : KeepsBlocks s (s.modStep i fun c => { c with state := .faulted .positionInvalid }) :=
    keepsBlocks_modStep (fun _ => rfl) fun _ => rfl
  unfold faultInvalid
  dsimp only
  split
  · exact caused
  · exact .after (keepsBlocks_raise _ _ _) caused

end

/-! ### The sequencer -/

/-- A close that ends without a pulse leaves blocks and timers (R77). -/
theorem keepsBlocks_abandonClose (i : StepId) (out : OrderOutcome) (r : Option Reason) (s : State) :
    KeepsBlocks s (abandonClose i out r s) := .of_timed (by simp [timed])

/-- So does an end report (R75). -/
theorem keepsBlocks_endReport (src : Requester) (out : OrderOutcome) (r : Option Reason) (s : State) :
    KeepsBlocks s (endReport src out r s) := .of_timed (by simp [timed])

/-- So does the end of an operation, with the right's settle (R75, R92). -/
theorem keepsBlocks_ended (o : Operation) (out : OrderOutcome) (r : Option Reason) (ms : Nat) (s : State) :
    KeepsBlocks s (passIfUnder o ms (endReport o.source out r s)) := .of_timed (by simp [timed])

theorem keepsBlocks_tryClosePulse (i : StepId) (s : State) : KeepsBlocks s (tryClosePulse i s) := by
  unfold tryClosePulse startClosePulse
  split
  · split
    · exact .refl s
    · exact .after (keepsBlocks_moveStep i _ _)
        (.after (keepsBlocks_modStep (fun _ => rfl) fun _ => rfl) (.of_timed rfl))
  · exact keepsBlocks_abandonClose i _ _ s

theorem keepsBlocks_scheduleClose (i : StepId) (frame : Word) (wave : BitVec 5) (s : State) :
    KeepsBlocks s (scheduleClose i frame wave s) := by
  unfold scheduleClose
  dsimp only
  split
  · exact keepsBlocks_tryClosePulse i s
  · exact .of_timed rfl

theorem keepsBlocks_takeClose (i : StepId) (src : Requester) (t : Timing) (s : State) :
    KeepsBlocks s (takeClose i src t s) := by
  unfold takeClose
  dsimp only
  split
  · exact .after (keepsBlocks_abandonClose i _ _ _) (.of_timed rfl)
  · split
    · exact .after (keepsBlocks_tryClosePulse i _) (.of_timed rfl)
    · (repeat' split)
      case isTrue.isTrue | isFalse.isTrue => exact .after (keepsBlocks_scheduleClose i _ _ _) (.of_timed rfl)
      case isFalse.isFalse => exact .after (keepsBlocks_abandonClose i _ _ _) (.of_timed rfl)
      all_goals exact .of_timed rfl

theorem keepsBlocks_startTripPulse (i : StepId) (o : Operation) (s : State) : KeepsBlocks s (startTripPulse i o s) :=
  .after (keepsBlocks_moveStep i _ _) (.after (keepsBlocks_modStep (fun _ => rfl) fun _ => rfl) (.of_timed rfl))

theorem keepsBlocks_takeOpen (i : StepId) (src : Requester) (s : State) : KeepsBlocks s (takeOpen i src s) := by
  unfold takeOpen
  dsimp only
  split
  · exact .after (keepsBlocks_startTripPulse i _ _) (.of_timed rfl)
  · exact .of_timed (by simp [timed])

theorem keepsBlocks_protectiveOpen (i : StepId) (s : State) : KeepsBlocks s (protectiveOpen i s) := by
  unfold protectiveOpen
  split
  · split
    · exact .refl s
    · exact keepsBlocks_startTripPulse i _ s
  · split
    · exact keepsBlocks_startTripPulse i _ s
    · exact .after (keepsBlocks_endReport _ _ _ _) (keepsBlocks_startTripPulse i _ s)
  · exact .refl s

theorem keepsBlocks_openAll (s : State) : KeepsBlocks s (openAll s) :=
  keepsBlocks_forEach keepsBlocks_protectiveOpen _ s

theorem keepsBlocks_addLockout (i : StepId) (r : LockoutReason) (s : State) : KeepsBlocks s (addLockout i r s) :=
  .after (keepsBlocks_watchClose i _) (keepsBlocks_modStep (fun _ => rfl) fun _ => rfl)

theorem keepsBlocks_confirmClose (i : StepId) (o : Operation) (s : State) : KeepsBlocks s (confirmClose i o s) := by
  have moved : KeepsBlocks s (moveStep i .closed (dropOperation i s)) :=
    .after (keepsBlocks_moveStep i _ _) (.of_timed rfl)
  have counted (u : State) : KeepsBlocks u (u.modStep i fun c => { c with opCount := min (c.opCount + 1) 65535 }) :=
    keepsBlocks_modStep (fun _ => rfl) fun _ => rfl
  have watched (u : State) : KeepsBlocks u (openWatch i u) := .of_timed rfl
  exact .after (keepsBlocks_ended o _ _ _ _) (.after (watched _) (.after (counted _) moved))

theorem keepsBlocks_confirmOpen (i : StepId) (o : Operation) (s : State) : KeepsBlocks s (confirmOpen i o s) :=
  .after (keepsBlocks_ended o _ _ _ _) (.after (keepsBlocks_moveStep i _ _) (.of_timed rfl))

theorem keepsBlocks_judgeDelivery (i : StepId) (p : Position) (s : State) : KeepsBlocks s (judgeDelivery i p s) := by
  unfold judgeDelivery
  split
  · split
    · exact keepsBlocks_confirmClose i _ s
    · exact keepsBlocks_confirmOpen i _ s
    · exact .refl s
  · exact .refl s

theorem keepsBlocks_closeNoIndication (i : StepId) (o : Operation) (s : State) :
    KeepsBlocks s (closeNoIndication i o s) :=
  .after (keepsBlocks_ended o _ _ _ _) (.after (keepsBlocks_moveStep i _ _) (.of_timed rfl))

theorem keepsBlocks_closeFailure (i : StepId) (o : Operation) (s : State) : KeepsBlocks s (closeFailure i o s) :=
  .after (keepsBlocks_endReport _ _ _ _)
    (.after (keepsBlocks_raise _ _ _) (.after (keepsBlocks_addLockout i _ _) (keepsBlocks_startTripPulse i _ s)))

theorem keepsBlocks_openFailure (i : StepId) (o : Operation) (s : State) : KeepsBlocks s (openFailure i o s) := by
  have dropped : KeepsBlocks s ((dropOperation i s).modLane i fun l => { l with tripPulse := 0 }) := .of_timed rfl
  unfold openFailure
  dsimp only
  refine .after (keepsBlocks_ended o _ _ _ _) ?_
  split
  · have locked := (keepsBlocks_addLockout i .switchFailure _).after
      ((keepsBlocks_moveStep i (.faulted .switchFailure) _).after dropped)
    have driven {t : State} (k : KeepsBlocks s t) (n : Nat) : KeepsBlocks s { t with seq.yardTrip := n } := fun h => k h
    exact driven ((keepsBlocks_raise .switchFail (.step i) _).after locked) _
  · exact .after (keepsBlocks_moveStep i _ _) dropped

theorem keepsBlocks_loseSchedule (i : StepId) (o : Operation) (s : State) : KeepsBlocks s (loseSchedule i o s) :=
  .of_timed (by simp [timed])

theorem keepsBlocks_measNotice (frame : Word) (wave : BitVec 5) (s : State) :
    KeepsBlocks s (measNotice frame wave s) := by
  unfold measNotice
  split
  · exact .refl s
  · split
    · split
      · exact keepsBlocks_scheduleClose _ _ _ s
      · exact .refl s
    · split
      · exact keepsBlocks_loseSchedule _ _ s
      · exact .refl s

/-! ### Orders and grants -/

theorem keepsBlocks_vcGranted (s : State) : KeepsBlocks s (vcGranted s) := by
  unfold vcGranted
  dsimp only
  split
  · split
    · exact .of_timed rfl
    · exact .after (keepsBlocks_takeOpen _ _ _) (.of_timed rfl)
  · split
    · split
      · split
        · exact .of_timed rfl
        · exact .after (keepsBlocks_takeClose _ _ _ _) (.of_timed rfl)
      · exact .of_timed rfl
    · split
      · split
        · split
          · exact .of_timed rfl
          · exact .after (keepsBlocks_takeOpen _ _ _) (.of_timed rfl)
        · exact .of_timed rfl
      · exact .of_timed rfl

theorem keepsBlocks_handOver (x : StartItem) (s : State) : KeepsBlocks s (handOver x s) := by
  unfold handOver
  dsimp only
  split
  · exact .after (keepsBlocks_takeClose _ _ _ _) (.of_timed rfl)
  · exact .after (keepsBlocks_takeOpen _ _ _) (.of_timed rfl)

theorem keepsBlocks_runResetLockout (i : StepId) (s : State) : KeepsBlocks s (runResetLockout i s) := by
  have unlocked : KeepsBlocks s (s.modStep i fun c => { c with lockout := none }) :=
    keepsBlocks_modStep (fun _ => rfl) fun _ => rfl
  unfold runResetLockout
  dsimp only
  split <;> exact .after (.of_timed (by simp [timed])) unlocked

/-- A right-free order touches a timed block only to start the cooldown of a step put back in service (R171 to
R176). -/
theorem keepsBlocks_runRightFree (x : StartItem) (s : State) : KeepsBlocks s (runRightFree x s) := by
  have finished (u : State) : KeepsBlocks u (finishSlot x.slot .done none u) := .of_timed rfl
  unfold runRightFree
  split
  · exact .after (finished _) (keepsBlocks_modStep (fun _ => rfl) fun _ => rfl)
  · exact .after (finished _) (keepsBlocks_modStep (fun _ => rfl) fun _ => rfl)
  · exact .after (finished _) (keepsBlocks_runResetLockout x.step s)
  · exact .of_timed rfl
  · exact .after (finished _) (.after (keepsBlocks_watchClose _ _) (keepsBlocks_modStep (fun _ => rfl) fun _ => rfl))
  · exact .after (finished _) (.after (keepsBlocks_startCooldown _ _) (keepsBlocks_modStep (fun _ => rfl) fun _ => rfl))
  · exact .refl s
  · exact .refl s

theorem keepsBlocks_startRightFree (x : StartItem) (s : State) : KeepsBlocks s (startRightFree x s) := by
  unfold startRightFree
  dsimp only
  split
  · exact .of_timed rfl
  · exact .after (keepsBlocks_runRightFree x _) (.of_timed rfl)

/-- The consequences of an event for orders and the right keep the promise. -/
theorem keepsBlocks_settle (s : State) : KeepsBlocks s (settle s) :=
  settle_invariant TimedBlocksOk (fun _ _ h => h) keepsBlocks_startRightFree (fun _ _ h => h) (fun _ _ _ h => h)
    keepsBlocks_handOver keepsBlocks_vcGranted s

end Sys2Proof.Proofs

namespace Sys2Proof.Proofs

open Sys2Proof.Machine Sys2Proof.Safety Sys2Proof.Laws

/-! ### The sample link receiver keeps blocks and timers together -/

theorem keepsBlocks_resolveFaulted (i : StepId) (p : Position) (s : State) : KeepsBlocks s (resolveFaulted i p s) := by
  unfold resolveFaulted
  split
  · exact keepsBlocks_moveStep i _ s
  · exact keepsBlocks_moveStep i _ s
  · exact keepsBlocks_faultInvalid i s

theorem keepsBlocks_uncommandedOpen (i : StepId) (s : State) : KeepsBlocks s (uncommandedOpen i s) := by
  unfold uncommandedOpen
  dsimp only
  split
  · exact keepsBlocks_moveStep i _ s
  · exact .after (keepsBlocks_raise _ _ _) (keepsBlocks_moveStep i _ s)

theorem keepsBlocks_uncommandedClose (i : StepId) (s : State) : KeepsBlocks s (uncommandedClose i s) := by
  have raised (cut : Bool) (u : State) : KeepsBlocks u (raiseCut .uncommandedClose (.step i) cut u) := .of_timed rfl
  unfold uncommandedClose
  dsimp only
  split
  · exact keepsBlocks_moveStep i _ s
  · exact .after (raised _ _) (keepsBlocks_moveStep i _ s)

/-- A delivery moves the step, finds it FAULTED or leaves it as it stands (R40). -/
theorem keepsBlocks_applyDelivery (d : Delivery) (s : State) : KeepsBlocks s (applyDelivery d s) := by
  have shown : KeepsBlocks s (s.modStep d.1 fun c => { c with indicated := some d.2 }) :=
    keepsBlocks_modStep (fun _ => rfl) fun _ => rfl
  unfold applyDelivery
  dsimp only
  split
  case h_1 | h_5 | h_9 => exact shown
  case h_2 | h_3 | h_4 | h_7 | h_10 => exact .after (keepsBlocks_moveStep _ _ _) shown
  case h_6 => exact .after (keepsBlocks_uncommandedClose _ _) shown
  case h_8 => exact .after (keepsBlocks_uncommandedOpen _ _) shown
  case h_11 | h_12 => exact .after (keepsBlocks_judgeDelivery _ _ _) shown
  case h_13 => exact .after (keepsBlocks_resolveFaulted _ _ _) shown

theorem keepsBlocks_deliver (d : Delivery) (s : State) : KeepsBlocks s (deliver d s) :=
  .after (keepsBlocks_settle _) (keepsBlocks_applyDelivery d s)

theorem keepsBlocks_feedFrame (s : State) : KeepsBlocks s (feedFrame s) := by
  have returned (i : StepId) (u : State) : KeepsBlocks u (feedReturnStep i u) := by
    rw [feedReturnStep_eq]
    split
    · exact keepsBlocks_deliver _ u
    · exact .refl u
  rw [feedFrame_eq]
  dsimp only
  split
  · exact .of_timed rfl
  · exact .after (keepsBlocks_forEach returned _ _) (.of_timed rfl)

theorem keepsBlocks_takePositions (w : Half) (s : State) : KeepsBlocks s (takePositions w s) :=
  .after (keepsBlocks_forEach keepsBlocks_deliver _ _) (.of_timed rfl)

theorem keepsBlocks_frameEnd (f : SampleFrame) (s : State) : KeepsBlocks s (frameEnd f s) := by
  cases ha : s.rx.assembly with
  | none =>
    simp only [frameEnd, ha]
    exact .of_timed rfl
  | some a =>
    have formed : KeepsBlocks s (built f a s) := by
      rw [built, windowFrame_frame]
      exact .of_timed rfl
    cases hv : isValid (frameClass f a) with
    | false =>
      rw [frameEnd_invalid ha hv]
      exact formed
    | true =>
      rw [frameEnd_valid ha hv]
      exact .after (keepsBlocks_takePositions _ _) (.after (keepsBlocks_feedFrame _) formed)

theorem keepsBlocks_firstSync (s : State) : KeepsBlocks s (firstSync s) := by
  unfold firstSync
  split <;> exact .of_timed rfl

theorem keepsBlocks_scheduledPulse (s : State) : KeepsBlocks s (scheduledPulse s) := by
  unfold scheduledPulse
  split
  · exact .refl s
  · split
    · split
      · exact .refl s
      · refine .after (keepsBlocks_settle _) ?_
        split
        · exact keepsBlocks_tryClosePulse _ s
        · exact keepsBlocks_loseSchedule _ _ s
    · exact .refl s

theorem keepsBlocks_feedExpiry (s : State) : KeepsBlocks s (feedExpiry s) := by
  unfold feedExpiry
  dsimp only
  (repeat' split) <;> exact .of_timed rfl

theorem keepsBlocks_handGood (frames : List Samples) (n : Word) (w : BitVec 5) (s : State) :
    KeepsBlocks s (handGood frames n w s) := by
  have noticed := (keepsBlocks_measNotice n w _).after (KeepsBlocks.of_timed (s := s)
    (t := endCause .measLost .yard { s with rx.meas := .valid, rx.failedCount := 0 }) rfl)
  exact fun h => noticed h

theorem keepsBlocks_handFailed (s : State) : KeepsBlocks s (handFailed s) := by
  have heard : KeepsBlocks s (heardFailed s.rx.ends s) := by
    rw [heardFailed_frame]
    exact .of_timed rfl
  have noticed := (keepsBlocks_measNotice (heardFailed s.rx.ends s).rx.frameNumber
    (heardFailed s.rx.ends s).rx.wave _).after heard
  exact fun h => noticed h

theorem keepsBlocks_takeWindowEnd (s : State) : KeepsBlocks s (takeWindowEnd s) := by
  unfold takeWindowEnd
  split
  · exact .refl s
  · split
    · exact .refl s
    · exact .after (keepsBlocks_settle _) (.after (keepsBlocks_handGood _ _ _ _) (.of_timed rfl))
    · exact .after (keepsBlocks_settle _) (.after (keepsBlocks_handFailed _) (.of_timed rfl))

/-- The alarm set is no figure of the promise. -/
theorem timed_of_besideAlarms {s t : State} (h : besideAlarms t = besideAlarms s) : timed t = timed s :=
  (congrArg timed h : timed (besideAlarms t) = timed (besideAlarms s))

/-- A publication touches the channel table and the alarm set alone. -/
theorem keepsBlocks_publish (s : State) : KeepsBlocks s (publish s) := by
  cases hw : s.mu.computing with
  | none =>
    simp only [publish, hw]
    exact .refl s
  | some w =>
    have run : publish s = forEach (clipNotice s.mu.entries) allChannels (published w s) := by
      simp only [publish, hw, published]
    have replaced : KeepsBlocks s (published w s) := .of_timed rfl
    rw [run]
    exact .after (.of_timed (timed_of_besideAlarms (clipNotices_beside _ _ _))) replaced

/-! ### Voltage control -/

theorem keepsBlocks_vcWithdrawClose (s : State) : KeepsBlocks s (vcWithdrawClose s) := .of_timed (by simp [timed])

theorem keepsBlocks_vcDead (s : State) : KeepsBlocks s (vcDead s) := by
  have cleared (u : State) : KeepsBlocks u (raise .deadBusOpen .yard (clearBand u)) := .of_timed rfl
  unfold vcDead
  dsimp only
  split
  · split
    · split
      · exact .after (keepsBlocks_openAll _) (.of_timed rfl)
      · exact .after (cleared _) (.after (keepsBlocks_openAll _) (.of_timed rfl))
    · exact .of_timed rfl
  · rw [clearDead_eq]
    exact .of_timed rfl

theorem keepsBlocks_vcFast (s : State) : KeepsBlocks s (vcFast s) := by
  unfold vcFast
  dsimp only
  split
  · split <;> exact .of_timed rfl
  · rw [clearFastCondition_eq]
    exact .of_timed rfl

/-- The band and the ordinary request are voltage control's own (R101, R105). -/
theorem keepsBlocks_vcDecide (s : State) : KeepsBlocks s (vcDecide (vcBand s)) := by
  have banded : KeepsBlocks s (vcBand s) := by
    unfold vcBand
    dsimp only
    (repeat' split) <;> exact .of_timed rfl
  refine .after ?_ banded
  unfold vcDecide vcDecided
  (repeat' split) <;> exact .of_timed rfl

theorem keepsBlocks_vcGood (s : State) : KeepsBlocks s (vcGood s) := by
  have inAuto {f : State → State} (hf : ∀ u, KeepsBlocks u (f u)) (u : State) :
      KeepsBlocks u (if u.vc.auto then settle (f u) else u) := by
    split
    · exact .after (keepsBlocks_settle _) (hf u)
    · exact .refl u
  have withdrawn (u : State) : KeepsBlocks u (vcWithdrawCheck u) := by
    unfold vcWithdrawCheck
    split
    · exact keepsBlocks_vcWithdrawClose u
    · exact .refl u
  have dead : KeepsBlocks s (vcDead (vcForm s)) := .after (keepsBlocks_vcDead _) (.of_timed rfl)
  have decided := (inAuto keepsBlocks_vcDecide _).after ((inAuto keepsBlocks_vcFast _).after dead)
  exact .after (keepsBlocks_settle _) (.after (withdrawn _) decided)

theorem keepsBlocks_vcFailed (s : State) : KeepsBlocks s (vcFailed s) := by
  by_cases hm : s.rx.meas = .holding
  · rw [vcFailed_holding hm]
    exact .of_timed rfl
  · rw [vcFailed_clears hm]
    exact .of_timed rfl

theorem keepsBlocks_vcEvaluate (s : State) : KeepsBlocks s (vcEvaluate s) := by
  unfold vcEvaluate
  split
  · exact .refl s
  · dsimp only
    split
    · exact .after (keepsBlocks_vcGood _) (.of_timed rfl)
    · exact .after (keepsBlocks_settle _) (.after (keepsBlocks_vcFailed _) (.of_timed rfl))

theorem keepsBlocks_setMode (auto : Bool) (s : State) : KeepsBlocks s (setMode auto s) := by
  have rested : KeepsBlocks s (enterManual s) :=
    .of_timed (by simp [timed, enterManual, clearFastCondition_eq, clearBand])
  unfold setMode
  split
  · exact .refl s
  · split
    · exact .of_timed rfl
    · exact .after (keepsBlocks_settle _) rested

/-! ### The harmonic supervisor -/

theorem keepsBlocks_alarmEdge (k : AlarmKind) (sub : Subject) (was now : Bool) (s : State) :
    KeepsBlocks s (alarmEdge k sub was now s) := by
  unfold alarmEdge
  (repeat' split) <;> exact .of_timed rfl

theorem keepsBlocks_hsStages (s : State) : KeepsBlocks s (hsStageI (hsStageV s)) := by
  refine .after (.after (keepsBlocks_alarmEdge _ _ _ _ _) (.of_timed rfl)) ?_
  unfold hsStageV
  dsimp only
  split
  · exact .after (keepsBlocks_vcWithdrawClose _) (.after (keepsBlocks_alarmEdge _ _ _ _ _) (.of_timed rfl))
  · exact .after (keepsBlocks_alarmEdge _ _ _ _ _) (.of_timed rfl)

theorem keepsBlocks_markSuspect (i : StepId) (s : State) : KeepsBlocks s (markSuspect i s).1 := by
  have marked : KeepsBlocks s (s.modStep i fun c => { c with suspect := true }) :=
    keepsBlocks_modStep (fun _ => rfl) fun _ => rfl
  unfold markSuspect
  dsimp only
  split
  · exact fun h => marked h
  · exact .refl s

theorem keepsBlocks_hsWatch (s : State) : KeepsBlocks s (hsWatch s) := by
  have marked (i : StepId) := (keepsBlocks_markSuspect i _).after
    (KeepsBlocks.of_timed (s := s) (t := { s with hs.watch := none }) rfl)
  unfold hsWatch
  split
  · exact .refl s
  · split
    · dsimp only
      split
      · exact .after (keepsBlocks_raise _ _ _) (marked _)
      · exact marked _
    · exact .refl s

/-- A shed may start a holdoff and opens its step (R69, R125). -/
theorem keepsBlocks_shed (i : StepId) (s : State) : KeepsBlocks s (shed i s) := by
  have opened := (keepsBlocks_protectiveOpen i _).after (keepsBlocks_armHoldoff i s)
  exact fun h => opened h

theorem keepsBlocks_hsTrip (s : State) : KeepsBlocks s (hsTrip s) := by
  unfold hsTrip
  split
  · exact .refl s
  · dsimp only
    split
    · split
      · split
        · exact .of_timed rfl
        · exact .after (keepsBlocks_shed _ _) (.of_timed rfl)
      · exact .of_timed rfl
    · rw [endShedding_eq]
      exact .of_timed rfl

theorem keepsBlocks_hsFailed (s : State) : KeepsBlocks s (hsFailed s) := by
  by_cases hm : s.rx.meas = .holding
  · rw [hsFailed_holding hm]
    exact .refl s
  · rw [hsFailed_clears hm]
    exact .of_timed rfl

theorem keepsBlocks_hsEvaluate (s : State) : KeepsBlocks s (hsEvaluate s) := by
  unfold hsEvaluate
  split
  · exact .refl s
  · refine .after (keepsBlocks_settle _) ?_
    split
    · exact .after (keepsBlocks_hsTrip _) (.after (keepsBlocks_hsWatch _)
        (.after (keepsBlocks_hsStages _) (.of_timed rfl)))
    · exact .after (keepsBlocks_hsFailed _) (.of_timed rfl)

/-! ### The unbalance protection unit -/

theorem keepsBlocks_ubStages (i : StepId) (s : State) : KeepsBlocks s (ubStages i s).1 := by
  have alarmed (u : Nat) (t : State) : KeepsBlocks t (ubAlarm i u t) :=
    .after (keepsBlocks_alarmEdge _ _ _ _ _) (.of_timed rfl)
  have tripped (t : State) : KeepsBlocks t (ubTrip i t) := .of_timed (by simp [timed, ubTrip])
  unfold ubStages
  dsimp only
  split
  · have formed : KeepsBlocks s (s.modUnb i fun x => { x with lastU := stepU s i }) := .of_timed rfl
    split
    · exact formed
    · have staged (f : Unbalance → Unbalance) (t : State) : KeepsBlocks t (t.modUnb i f) := .of_timed rfl
      have ready := (staged (ubTripStage (stepU s i) (s.stepCfg i)) _).after ((alarmed (stepU s i) _).after formed)
      split
      · exact .after (tripped _) ready
      · exact ready
  · exact .refl s

/-- A baseline is stored beside DISCHARGE_TIME (R149). -/
theorem keepsBlocks_storedBaseline (i : StepId) (sumRe sumIm : Int) (s : State) :
    KeepsBlocks s (storedBaseline i sumRe sumIm s) := by
  refine .of_settings rfl rfl fun j time => ?_
  rw [storedBaseline, stepCfg_put]
  split
  · next e => exact e ▸ time
  · exact time

theorem keepsBlocks_learnWindow (i : StepId) (s : State) : KeepsBlocks s (learnWindow i s) := by
  have completed (sumRe sumIm : Int) : KeepsBlocks s (completeLearning i sumRe sumIm s) := by
    rw [completeLearning_eq]
    exact .after (.of_timed (by simp [timed])) (keepsBlocks_storedBaseline i sumRe sumIm s)
  unfold learnWindow
  split
  · exact .refl s
  · dsimp only
    split
    · exact .of_timed (by simp [timed])
    · split
      · exact completed _ _
      · exact .of_timed rfl

theorem keepsBlocks_ubStep (i : StepId) (s : State) : KeepsBlocks s (ubStep i s) := by
  have armed : KeepsBlocks s (armStep i s) := by
    unfold armStep
    split <;> exact .of_timed rfl
  have departed (u : State) : KeepsBlocks u (takeDeparture i u) := .of_timed (by simp [timed])
  have evaluated := (departed _).after
    ((keepsBlocks_learnWindow i _).after ((keepsBlocks_ubStages i _).after armed))
  unfold ubStep
  dsimp only
  split
  · exact .after (keepsBlocks_protectiveOpen i _) (.after (keepsBlocks_addLockout i _ _) evaluated)
  · exact evaluated

theorem keepsBlocks_ubFailedStep (i : StepId) (s : State) : KeepsBlocks s (ubFailedStep i s) := by
  unfold ubFailedStep
  dsimp only
  (repeat' split) <;> exact .of_timed (by simp [timed])

theorem keepsBlocks_ubEvaluate (s : State) : KeepsBlocks s (ubEvaluate s) := by
  unfold ubEvaluate
  split
  · exact .refl s
  · refine .after (keepsBlocks_settle _) (.after (keepsBlocks_forEach (fun i u => ?_) _ _) (.of_timed rfl))
    split
    · exact keepsBlocks_ubStep i u
    · exact keepsBlocks_ubFailedStep i u

/-! ### Expiries and inputs -/

theorem keepsBlocks_cooldownExpiry (i : StepId) (s : State) : KeepsBlocks s (cooldownExpiry i s) := by
  unfold cooldownExpiry
  split
  · exact .after (keepsBlocks_settle _) (keepsBlocks_stopCooldown i s)
  · exact .refl s

theorem keepsBlocks_holdoffExpiry (i : StepId) (s : State) : KeepsBlocks s (holdoffExpiry i s) := by
  unfold holdoffExpiry
  split
  · exact .after (keepsBlocks_settle _) (keepsBlocks_stopHoldoff i s)
  · exact .refl s

theorem keepsBlocks_closeConfirmExpiry (i : StepId) (s : State) : KeepsBlocks s (closeConfirmExpiry i s) := by
  unfold closeConfirmExpiry
  split
  · split
    · refine .after (keepsBlocks_settle _) ?_
      split
      · exact keepsBlocks_closeFailure i _ s
      · exact keepsBlocks_closeNoIndication i _ s
    · exact .refl s
  · exact .refl s

theorem keepsBlocks_openConfirmExpiry (i : StepId) (s : State) : KeepsBlocks s (openConfirmExpiry i s) := by
  unfold openConfirmExpiry
  split
  · split
    · exact .after (keepsBlocks_settle _) (keepsBlocks_openFailure i _ s)
    · exact .refl s
  · exact .refl s

theorem keepsBlocks_syncWaitExpiry (s : State) : KeepsBlocks s (syncWaitExpiry s) := by
  have ended (u : State) : KeepsBlocks u (endAwaiting u) := by
    unfold endAwaiting
    split
    · exact .refl u
    · split
      · exact keepsBlocks_abandonClose _ _ _ u
      · exact .refl u
  unfold syncWaitExpiry
  split
  · exact .after (keepsBlocks_settle _) (.after (ended _) (.of_timed rfl))
  · exact .refl s

theorem keepsBlocks_settleExpiry (s : State) : KeepsBlocks s (settleExpiry s) := by
  unfold settleExpiry
  split
  · exact .after (keepsBlocks_settle _) (.of_timed rfl)
  · exact .refl s

theorem keepsBlocks_notBeforeElapsed (i : SlotId) (s : State) : KeepsBlocks s (notBeforeElapsed i s) := by
  unfold notBeforeElapsed
  split
  · exact .after (keepsBlocks_settle _) (.of_timed rfl)
  · exact .refl s

theorem keepsBlocks_deadlineExpiry (i : SlotId) (s : State) : KeepsBlocks s (deadlineExpiry i s) := by
  unfold deadlineExpiry
  split
  · exact .after (keepsBlocks_settle _) (.of_timed rfl)
  · exact .refl s

theorem keepsBlocks_returnDirect (i : StepId) (s : State) : KeepsBlocks s (returnDirect i s) := by
  unfold returnDirect
  split <;> exact .of_timed rfl

theorem keepsBlocks_returnAll (s : State) : KeepsBlocks s (returnAll s) :=
  keepsBlocks_forEach keepsBlocks_returnDirect _ s

theorem keepsBlocks_setInput (n : InputLine) (f : InputFilter) (s : State) : KeepsBlocks s (s.setInput n f) := by
  cases n <;> exact .of_timed rfl

theorem keepsBlocks_levelEffect (n : InputLine) (level : Bool) (s : State) : KeepsBlocks s (levelEffect n level s) := by
  unfold levelEffect
  split
  · exact .after (keepsBlocks_settle _) (keepsBlocks_forEach keepsBlocks_watchClose _ s)
  · exact .after (keepsBlocks_settle _)
      (.after (keepsBlocks_raise _ _ _) (.after (keepsBlocks_openAll _) (keepsBlocks_returnAll s)))
  · exact keepsBlocks_endCause _ _ s
  · exact .refl s
  · unfold permitLoss
    split
    · exact .after (keepsBlocks_raise _ _ _) (keepsBlocks_returnAll s)
    · exact .refl s

theorem keepsBlocks_levelChange (n : InputLine) (level : Bool) (s : State) : KeepsBlocks s (levelChange n level s) := by
  unfold levelChange
  split
  · exact .refl s
  · exact .after (keepsBlocks_levelEffect n level _) (keepsBlocks_setInput n _ s)

end Sys2Proof.Proofs

namespace Sys2Proof.Proofs

open Sys2Proof.Machine Sys2Proof.Safety Sys2Proof.Laws

/-! ### Requests keep blocks and timers together -/

theorem keepsBlocks_takeRequest {work : Handler} (hw : ∀ s, KeepsBlocks s (work s).1) (code tag : Byte) (s : State) :
    KeepsBlocks s (takeRequest code tag work s) := by
  unfold takeRequest
  split
  · exact .of_timed rfl
  · split
    · have worked := (hw (consume s)).after (KeepsBlocks.of_timed (s := s) rfl)
      exact fun h => worked h
    · exact .of_timed rfl

/-- A yard setting is stored beside every DISCHARGE_TIME (R196). -/
theorem keepsBlocks_writeSetting (ident : Byte) (value : Word) (s : State) :
    KeepsBlocks s (writeSetting ident value s).1 := by
  have stored (y : YardId) (v : Nat) : KeepsBlocks s (storeYard y v s) := by
    rw [storeYard_frame]
    exact .of_timed rfl
  unfold writeSetting
  split
  · exact .of_timed rfl
  · dsimp only
    split
    · exact stored _ _
    · exact .refl s

/-- A DISCHARGE_TIME that is stored lies in its range, which begins above 0 (section 11.4.1). -/
theorem stepSettingWrite_dischargeTime_pos {c : StepSettings} (time : 0 < c.dischargeTime) (p : StepSettingId)
    (x : Int) : 0 < (stepSettingWrite c p (stepClamp p x)).dischargeTime := by
  cases p
  case dischargeTime =>
    have range := stepClamp_range .dischargeTime x
    simp only [stepRange] at range
    show 0 < (stepClamp .dischargeTime x).toNat
    omega
  all_goals exact time

theorem keepsBlocks_storeStep (i : StepId) (p : StepSettingId) (x : Int) (s : State) :
    KeepsBlocks s (storeStep i p (stepClamp p x) s) := by
  by_cases hp : p = .operationCount
  · subst hp
    rw [storeStep_operationCount]
    exact keepsBlocks_modStep (fun _ => rfl) fun _ => rfl
  · rw [storeStep_eq hp, stepStored_eq]
    refine .of_settings rfl rfl fun j time => ?_
    show 0 < (({ s with cfg.perStep := put s.cfg.perStep i (stepSettingWrite (s.stepCfg i) p (stepClamp p x)) } :
      State).stepCfg j).dischargeTime
    rw [stepCfg_put]
    split
    · next e => exact stepSettingWrite_dischargeTime_pos (e ▸ time) p x
    · exact time

theorem keepsBlocks_writeStepSetting (step ident : Byte) (value : Word) (s : State) :
    KeepsBlocks s (writeStepSetting step ident value s).1 := by
  unfold writeStepSetting
  split
  · dsimp only
    split
    · exact keepsBlocks_storeStep _ _ _ s
    · exact .refl s
  · exact .of_timed rfl

/-- The default DISCHARGE_TIME is above 0 (R197). -/
theorem keepsBlocks_defaultSettings (s : State) : KeepsBlocks s (defaultSettings s) := by
  have same : (defaultSettings s).tbl = s.tbl ∧ (defaultSettings s).dt = s.dt ∧
      (defaultSettings s).cfg = Settings.default := by
    simp [defaultSettings, capHarmTrip, capHarmAlarm, capDead, capFast, capBand]
  obtain ⟨tbl, dt, cfg⟩ := same
  refine .of_settings (congrArg StepTable.recs tbl) dt fun j _ => ?_
  have default : (defaultSettings s).stepCfg j = StepSettings.default := by
    rw [State.stepCfg, cfg]
    exact look_replicate _ j
  rw [default]
  decide

theorem keepsBlocks_requestMode (mode : Byte) (s : State) : KeepsBlocks s (requestMode mode s).1 := by
  unfold requestMode
  split
  · exact keepsBlocks_setMode false s
  · split
    · exact keepsBlocks_setMode true s
    · exact .refl s

theorem keepsBlocks_byHandle {work : SlotId → State → State × Answer} (hw : ∀ i s, KeepsBlocks s (work i s).1)
    (slot gen : Byte) (s : State) : KeepsBlocks s (byHandle slot gen work s).1 := by
  unfold byHandle
  split
  · exact .refl s
  · split
    · exact hw _ s
    · exact .refl s

theorem keepsBlocks_postSlot (i : SlotId) (s : State) : KeepsBlocks s (postSlot i s).1 := by
  unfold postSlot
  split
  · exact .refl s
  · split
    · exact .refl s
    · split
      · exact .refl s
      · exact .after (keepsBlocks_settle (placeOrder i s)) (.of_timed rfl)

theorem keepsBlocks_withdrawSlot (i : SlotId) (s : State) : KeepsBlocks s (withdrawSlot i s).1 := by
  unfold withdrawSlot
  split
  · exact .after (keepsBlocks_settle (finishSlot i .withdrawn none (leavePosted i s))) (.of_timed rfl)
  · exact .refl s
  · exact .refl s

/-- Who commanded a step last is beside its blocks (R183). -/
theorem keepsBlocks_noteDirect (i : StepId) (rises : Bool) (s : State) : KeepsBlocks s (noteDirect i rises s) := by
  unfold noteDirect
  split
  · exact keepsBlocks_modStep (fun _ => rfl) fun _ => rfl
  · exact .refl s

theorem keepsBlocks_handover (step : Byte) (s : State) : KeepsBlocks s (handover step s).1 := by
  unfold handover
  split
  · exact .of_timed rfl
  · next i _ =>
    split
    · show KeepsBlocks s (if (s.lines i).direct then s else becomeDirect i s)
      split
      · exact .refl s
      · exact .after (keepsBlocks_noteDirect i _ _) (.of_timed rfl)
    · exact .refl s

theorem keepsBlocks_driveLines (step close trip : Byte) (s : State) :
    KeepsBlocks s (driveLines step close trip s).1 := by
  unfold driveLines
  split
  · exact .refl s
  · split
    · exact .after (keepsBlocks_noteDirect _ _ _) (.of_timed rfl)
    · exact .refl s

/-! ### Requests that touch none of the figures -/

section
variable (s : State)

theorem timed_readStep (step page : Byte) : timed (readStep step page s).1 = timed s := by
  unfold readStep
  (repeat' split) <;> rfl

theorem timed_readChannel (channel page : Byte) : timed (readChannel channel page s).1 = timed s := by
  unfold readChannel
  (repeat' split) <;> rfl

theorem timed_readYard (page : Byte) : timed (readYard page s).1 = timed s := by
  unfold readYard
  (repeat' split) <;> rfl

theorem timed_readSetting (ident : Byte) : timed (readSetting ident s).1 = timed s := by
  unfold readSetting
  split <;> rfl

theorem timed_readStepSetting (step ident : Byte) : timed (readStepSetting step ident s).1 = timed s := by
  unfold readStepSetting
  split <;> rfl

theorem timed_readAlarm (index : Byte) : timed (readAlarm index s).1 = timed s := by
  unfold readAlarm
  split <;> rfl

theorem timed_ackAlarm (kind subject : Byte) : timed (ackAlarm kind subject s).1 = timed s := by
  unfold ackAlarm
  dsimp only
  (repeat' split) <;> rfl

theorem timed_takeSlot : timed (takeSlot s).1 = timed s := by
  unfold takeSlot
  split <;> rfl

theorem timed_fillSlot (kind step timing : Byte) (notBefore deadline : Half) (i : SlotId) :
    timed (fillSlot kind step timing notBefore deadline i s).1 = timed s := by
  unfold fillSlot
  split <;> rfl

theorem timed_retireSlot (i : SlotId) : timed (retireSlot i s).1 = timed s := by
  unfold retireSlot
  split <;> rfl

theorem timed_readOrder (mode slot generation page : Byte) :
    timed (readOrder mode slot generation page s).1 = timed s := by
  unfold readOrder
  (repeat' split) <;> rfl

theorem timed_stageLines (step close trip : Byte) : timed (stageLines step close trip s).1 = timed s := by
  unfold stageLines
  split <;> rfl

theorem timed_returnLines (step : Byte) : timed (returnLines step s).1 = timed s := by
  unfold returnLines giveBack returnDirect
  dsimp only
  (repeat' split) <;> rfl

theorem timed_frameAbort (bits : Nat) : timed (frameAbort bits s) = timed s := by
  unfold frameAbort
  (repeat' split) <;> rfl

theorem timed_fillerFrame : timed (fillerFrame s) = timed s := by
  unfold fillerFrame
  (repeat' split) <;> rfl

theorem timed_responseLoad : timed (responseLoad s) = timed s := by
  unfold responseLoad
  split <;> rfl

end

/-! ### Every command and every step keeps blocks and timers together -/

/-- A command outside reset keeps what its effect keeps; while RESET is held it has none. -/
theorem keepsBlocks_live {f : State → State} {s t : State} (run : live s f = .next t)
    (hf : ∀ s, KeepsBlocks s (f s)) : KeepsBlocks s t := by
  cases run
  split
  · exact .refl s
  · exact hf s

/-- A command whose effect touches none of the figures. -/
theorem keepsBlocks_live_timed {f : State → State} {s t : State} (run : live s f = .next t)
    (hf : ∀ s, timed (f s) = timed s) : KeepsBlocks s t := keepsBlocks_live run fun s => .of_timed (hf s)

/-- A request whose work keeps the promise. -/
theorem keepsBlocks_request {work : Handler} {code tag : Byte} {s t : State}
    (run : live s (takeRequest code tag work) = .next t) (hw : ∀ s, KeepsBlocks s (work s).1) : KeepsBlocks s t :=
  keepsBlocks_live run (keepsBlocks_takeRequest hw code tag)

/-- A request whose work touches none of the figures. -/
theorem keepsBlocks_request_timed {work : Handler} {code tag : Byte} {s t : State}
    (run : live s (takeRequest code tag work) = .next t) (hw : ∀ s, timed (work s).1 = timed s) : KeepsBlocks s t :=
  keepsBlocks_request run fun s => .of_timed (hw s)

/-- Every command keeps blocks and timers together. -/
theorem exec_keepsBlocks (c : Instr) {s t : State} (run : exec c s = .next t) : KeepsBlocks s t := by
  cases c with
  | resetAssert =>
    cases run
    exact .of_timed rfl
  | resetRelease pins =>
    cases run
    exact fun _ => released_timedBlocksOk pins s.pending s.freeDraws s.extraBits
  | frameEnd f => exact keepsBlocks_live run (keepsBlocks_frameEnd f)
  | scheduledClosePulse => exact keepsBlocks_live run keepsBlocks_scheduledPulse
  | windowTimerExpiry => exact keepsBlocks_live_timed run fun _ => rfl
  | feedTimerExpiry => exact keepsBlocks_live run keepsBlocks_feedExpiry
  | windowEnd => exact keepsBlocks_live run keepsBlocks_takeWindowEnd
  | publication => exact keepsBlocks_live run keepsBlocks_publish
  | vcEvaluation => exact keepsBlocks_live run keepsBlocks_vcEvaluate
  | harmonicEvaluation => exact keepsBlocks_live run keepsBlocks_hsEvaluate
  | unbalanceEvaluation => exact keepsBlocks_live run keepsBlocks_ubEvaluate
  | cooldownExpiry i => exact keepsBlocks_live run (keepsBlocks_cooldownExpiry i)
  | holdoffExpiry i => exact keepsBlocks_live run (keepsBlocks_holdoffExpiry i)
  | closePulseEnd i => exact keepsBlocks_live_timed (f := fun s => s.modLane i _) run fun _ => rfl
  | tripPulseEnd i => exact keepsBlocks_live_timed (f := fun s => s.modLane i _) run fun _ => rfl
  | closeConfirmExpiry i => exact keepsBlocks_live run (keepsBlocks_closeConfirmExpiry i)
  | openConfirmExpiry i => exact keepsBlocks_live run (keepsBlocks_openConfirmExpiry i)
  | yardTripEnd => exact keepsBlocks_live_timed (f := fun s => { s with seq.yardTrip := 0 }) run fun _ => rfl
  | syncWaitExpiry => exact keepsBlocks_live run keepsBlocks_syncWaitExpiry
  | settleExpiry => exact keepsBlocks_live run keepsBlocks_settleExpiry
  | resonanceWatchExpiry => exact keepsBlocks_live_timed (f := fun s => { s with hs.watch := none }) run fun _ => rfl
  | notBeforeElapsed i => exact keepsBlocks_live run (keepsBlocks_notBeforeElapsed i)
  | deadlineExpiry i => exact keepsBlocks_live run (keepsBlocks_deadlineExpiry i)
  | inputLevelChange n level => exact keepsBlocks_live run (keepsBlocks_levelChange n level)
  | frameAbort bits => exact keepsBlocks_live_timed run fun s => timed_frameAbort s bits
  | fillerFrame => exact keepsBlocks_live_timed run timed_fillerFrame
  | responseLoad => exact keepsBlocks_live_timed run timed_responseLoad
  | badCode code tag => exact keepsBlocks_request_timed run fun _ => rfl
  | poll tag => exact keepsBlocks_request_timed run fun _ => rfl
  | readIdent tag => exact keepsBlocks_request_timed run fun _ => rfl
  | readStep tag step page => exact keepsBlocks_request_timed run fun s => timed_readStep s step page
  | readChannel tag channel page => exact keepsBlocks_request_timed run fun s => timed_readChannel s channel page
  | readYard tag page => exact keepsBlocks_request_timed run fun s => timed_readYard s page
  | readSetting tag ident => exact keepsBlocks_request_timed run fun s => timed_readSetting s ident
  | writeSetting tag ident value => exact keepsBlocks_request run (keepsBlocks_writeSetting ident value)
  | readStepSetting tag step ident =>
    exact keepsBlocks_request_timed run fun s => timed_readStepSetting s step ident
  | writeStepSetting tag step ident value =>
    exact keepsBlocks_request run (keepsBlocks_writeStepSetting step ident value)
  | defaultSettings tag => exact keepsBlocks_request run keepsBlocks_defaultSettings
  | setMode tag mode => exact keepsBlocks_request run (keepsBlocks_requestMode mode)
  | readAlarm tag index => exact keepsBlocks_request_timed run fun s => timed_readAlarm s index
  | ackAlarm tag kind subject => exact keepsBlocks_request_timed run fun s => timed_ackAlarm s kind subject
  | ackAll tag => exact keepsBlocks_request_timed run fun _ => rfl
  | takeSlot tag => exact keepsBlocks_request_timed run timed_takeSlot
  | fillOrder tag slot generation kind step timing notBefore deadline =>
    exact keepsBlocks_request run (keepsBlocks_byHandle
      (fun i s => .of_timed (timed_fillSlot s kind step timing notBefore deadline i)) slot generation)
  | postOrder tag slot generation =>
    exact keepsBlocks_request run (keepsBlocks_byHandle keepsBlocks_postSlot slot generation)
  | withdrawOrder tag slot generation =>
    exact keepsBlocks_request run (keepsBlocks_byHandle keepsBlocks_withdrawSlot slot generation)
  | retireOrder tag slot generation =>
    exact keepsBlocks_request run (keepsBlocks_byHandle (fun i s => .of_timed (timed_retireSlot s i)) slot generation)
  | readOrder tag mode slot generation page =>
    exact keepsBlocks_request_timed run fun s => timed_readOrder s mode slot generation page
  | stageLines tag step close trip =>
    exact keepsBlocks_request_timed run fun s => timed_stageLines s step close trip
  | handover tag step => exact keepsBlocks_request run (keepsBlocks_handover step)
  | driveLines tag step close trip => exact keepsBlocks_request run (keepsBlocks_driveLines step close trip)
  | returnLines tag step => exact keepsBlocks_request_timed run fun s => timed_returnLines s step
  | readLines tag => exact keepsBlocks_request_timed run fun _ => rfl
  | firstFrameSync => exact keepsBlocks_live run keepsBlocks_firstSync

/-- Settles O7: a block comes and goes with its countdown in every command, and a tick brings no countdown to 0. -/
theorem timedBlocksFollowTheirTimers : Obligations.TimedBlocksFollowTheirTimers := by
  unfold Obligations.TimedBlocksFollowTheirTimers
  exact fun s t => step_invariant (P := TimedBlocksOk) (fun c _ _ h run => exec_keepsBlocks c run h) (fun _ _ h => h)
    keepsBlocks_countDown fun n f s => keepsBlocks_setInput n f s

end Sys2Proof.Proofs

namespace Sys2Proof.Proofs

open Sys2Proof.Machine Sys2Proof.Safety Sys2Proof.Laws

/-! ### Expiries of times that run (R65, R72, R164) -/

section
variable {s : State}

theorem cooldownExpiry_runs {i : StepId} (runs : 0 < (s.timers i).cooldown) :
    cooldownExpiry i s = settle (stopCooldown i s) := if_pos runs

theorem holdoffExpiry_runs {i : StepId} (runs : 0 < (s.timers i).holdoffMs) :
    holdoffExpiry i s = settle (stopHoldoff i s) := if_pos runs

theorem notBeforeElapsed_runs {j : SlotId} {n : Nat} (runs : (s.slot j).notBeforeTimer = some n) :
    notBeforeElapsed j s = settle (s.modSlot j fun o => { o with notBeforeTimer := none }) := by
  rw [notBeforeElapsed, runs]
  rfl

theorem deadlineExpiry_runs {j : SlotId} {n : Nat} (runs : (s.slot j).deadlineTimer = some n) :
    deadlineExpiry j s = settle (finishSlot j .expired none (leavePosted j s)) := by
  rw [deadlineExpiry, runs]
  rfl

/-- Of two entries written to one place the later stands. -/
@[simp] theorem put_put {α : Type} {n : Nat} (v : Vector α n) (i : Fin n) (a b : α) :
    put (put v i a) i b = put v i b := by
  simp [put]

/-- Two changes of one slot are one. -/
theorem modSlot_modSlot (j : SlotId) (f g : Slot → Slot) (s : State) :
    (s.modSlot j f).modSlot j g = s.modSlot j fun o => g (f o) := by
  simp [State.modSlot]

/-- A POSTED order that ends leaves the posted queue, and its slot holds the end (R155, R164, R168). -/
theorem finishSlot_leavePosted (j : SlotId) (out : OrderOutcome) (r : Option Reason) (s : State) :
    finishSlot j out r (leavePosted j s) =
      { s with oe.posted := s.oe.posted.filter (· ≠ j) }.modSlot j fun o =>
        { o with state := .finished, outcome := out, reason := r, finishedAt := some s.clock.seconds,
                 notBeforeTimer := none, deadlineTimer := none } := by
  unfold finishSlot leavePosted
  exact modSlot_modSlot _ _ _ _

end

/-- Settles O34: the expiry of a time that runs is one update, followed by `settle` where orders may wait on it; a
pulse that ends and a resonance watch that expires are their update alone. -/
theorem expiriesEndWhatRan : Obligations.ExpiriesEndWhatRan := by
  unfold Obligations.ExpiriesEndWhatRan
  refine ⟨⟨fun i s out runs => ?cooldown, fun i s out runs => ?holdoff, fun j n s out runs => ?notBefore,
    fun j n s out runs => ?deadline⟩, fun s out => ?ends⟩
  case cooldown =>
    show live s (cooldownExpiry i) = _
    rw [live_running s _ out, cooldownExpiry_runs runs, stopCooldown]
  case holdoff =>
    show live s (holdoffExpiry i) = _
    rw [live_running s _ out, holdoffExpiry_runs runs, stopHoldoff]
  case notBefore =>
    show live s (notBeforeElapsed j) = _
    rw [live_running s _ out, notBeforeElapsed_runs runs]
  case deadline =>
    show live s (deadlineExpiry j) = _
    rw [live_running s _ out, deadlineExpiry_runs runs, finishSlot_leavePosted]
  case ends =>
    refine ⟨fun i => ?_, fun i => ?_, ?_, ?_⟩
    · exact live_running s (fun s => s.modLane i fun l => { l with closePulse := 0 }) out
    · exact live_running s (fun s => s.modLane i fun l => { l with tripPulse := 0 }) out
    · exact live_running s (fun s => { s with seq.yardTrip := 0 }) out
    · exact live_running s (fun s => { s with hs.watch := none }) out

end Sys2Proof.Proofs

namespace Sys2Proof.Proofs

open Sys2Proof.Machine Sys2Proof.Safety Sys2Proof.Laws

/-! ### What the start of an order depends on (R163) -/

/-- What of an order's slot the conditions of R163 read. -/
def slotFace (o : Slot) : Byte × Byte × Bool := (o.kind, o.step, o.notBeforeTimer.isNone)

/-- What of a step's record the conditions of R163 read. -/
def recFace (r : StepRec) : StepState × Bool × Bool := (r.state, r.cooling, r.holdoff)

/-- Two states agree on all that the start of an order depends on (R163): the orders that wait or run, the steps, and
CLOSE_INHIBIT. -/
structure SameOrders (s t : State) : Prop where
  posted : t.oe.posted = s.oe.posted
  executing : t.oe.executing = s.oe.executing
  slots : ∀ j, j ∈ s.oe.posted ∨ s.oe.executing = some j → slotFace (t.slot j) = slotFace (s.slot j)
  recs : ∀ st, recFace (t.stepRec st) = recFace (s.stepRec st)
  inhibit : t.io.inp0.level = s.io.inp0.level

/-- All that `Settled` speaks of. -/
def orderFigures (s : State) : OrderEngine × Vector StepRec 8 × Bool × Arbiter :=
  (s.oe, s.tbl.recs, s.io.inp0.level, s.arb)

theorem SameOrders.of_parts {s t : State} (oe : t.oe = s.oe) (recs : t.tbl.recs = s.tbl.recs)
    (inhibit : t.io.inp0.level = s.io.inp0.level) : SameOrders s t where
  posted := by rw [oe]
  executing := by rw [oe]
  slots j _ := by simp only [State.slot, oe]
  recs st := by rw [stepRec_congr recs]
  inhibit := inhibit

section

variable {s t : State}

theorem SameOrders.namesStep (h : SameOrders s t) {j : SlotId} (hj : j ∈ s.oe.posted ∨ s.oe.executing = some j)
    (st : StepId) : namesStep t st j = namesStep s st j := by
  have face := h.slots j hj
  simp only [slotFace, Prod.mk.injEq] at face
  simp only [Machine.namesStep, face.2.1]

theorem SameOrders.earlierOrder (h : SameOrders s t) {earlier : List SlotId} (he : ∀ j ∈ earlier, j ∈ s.oe.posted)
    (st : StepId) : earlierOrder t earlier st = earlierOrder s earlier st := by
  have waiting : earlier.any (Machine.namesStep t st) = earlier.any (Machine.namesStep s st) := by
    rw [Bool.eq_iff_iff, List.any_eq_true, List.any_eq_true]
    exact exists_congr fun j => and_congr_right fun hj => by rw [h.namesStep (.inl (he j hj))]
  unfold Machine.earlierOrder
  rw [waiting, h.executing]
  cases running : s.oe.executing with
  | none => rfl
  | some j => simp only [h.namesStep (.inr running)]

/-- Whether a posted order is startable is the same in both states. -/
theorem SameOrders.startable (h : SameOrders s t) {earlier : List SlotId} (he : ∀ j ∈ earlier, j ∈ s.oe.posted)
    {i : SlotId} (hi : i ∈ s.oe.posted) : startable t earlier i = startable s earlier i := by
  have face := h.slots i (.inl hi)
  simp only [slotFace, Prod.mk.injEq] at face
  obtain ⟨kind, step, timer⟩ := face
  unfold Machine.startable
  rw [kind, step, timer]
  split
  · next k st _ _ =>
    have record := h.recs st
    simp only [recFace, Prod.mk.injEq] at record
    obtain ⟨state, cooling, holdoff⟩ := record
    rw [h.earlierOrder he, stepBusy, stepBusy, state, cooling, holdoff, closeInhibit, closeInhibit, h.inhibit]
  · rfl

theorem SameOrders.oldestStartable_from (h : SameOrders s t) (switching : Bool) {earlier l : List SlotId}
    (all : ∀ j ∈ earlier ++ l, j ∈ s.oe.posted) :
    oldestStartable t switching earlier l = oldestStartable s switching earlier l := by
  induction l generalizing earlier with
  | nil => rfl
  | cons i rest ih =>
    have before : ∀ j ∈ earlier, j ∈ s.oe.posted := fun j hj => all j (List.mem_append_left _ hj)
    have own : i ∈ s.oe.posted := all i (by simp)
    have later := ih (earlier := earlier ++ [i]) (by simpa using all)
    simp only [oldestStartable, h.startable before own, later]

/-- A look through the pool finds the same order in both states. -/
theorem SameOrders.oldestStartable (h : SameOrders s t) (switching : Bool) :
    oldestStartable t switching [] t.oe.posted = oldestStartable s switching [] s.oe.posted := by
  rw [h.posted]
  exact h.oldestStartable_from switching (by simp)

theorem SameOrders.wantsRight (h : SameOrders s t) : wantsRight t = wantsRight s := by
  unfold Machine.wantsRight
  rw [h.executing, h.oldestStartable]

/-- Where nothing that could start is left in one state, nothing is left in the other. -/
theorem SameOrders.settled (h : SameOrders s t) (request : t.arb.oeRequest = s.arb.oeRequest)
    (win : winner t.arb = winner s.arb) (hs : Settled s) : Settled t := by
  obtain ⟨idle, stands, nobody⟩ := hs
  refine ⟨fun free => ?_, ?_, win.trans nobody⟩
  · rw [h.oldestStartable]
    exact idle (h.executing ▸ free)
  · rw [request, h.wantsRight, stands]

theorem settled_of_figures (h : orderFigures t = orderFigures s) (hs : Settled s) : Settled t := by
  simp only [orderFigures, Prod.mk.injEq] at h
  obtain ⟨oe, recs, inhibit, arb⟩ := h
  exact (SameOrders.of_parts oe recs inhibit).settled (by rw [arb]) (by rw [arb]) hs

/-- A change of a step's record that the start of an order does not depend on. -/
theorem settled_modStep {i : StepId} {f : StepRec → StepRec} (same : ∀ r, recFace (f r) = recFace r) (hs : Settled s) :
    Settled (s.modStep i f) := by
  refine SameOrders.settled (s := s) ⟨rfl, rfl, fun _ _ => rfl, fun st => ?_, rfl⟩ rfl rfl hs
  rw [State.modStep_stepRec]
  split
  · next h => rw [same, h]
  · rfl

/-- A change of a slot whose order neither waits nor runs. -/
theorem settled_modSlot {j : SlotId} {f : Slot → Slot} (waits : j ∉ s.oe.posted) (runs : s.oe.executing ≠ some j)
    (hs : Settled s) : Settled (s.modSlot j f) := by
  refine SameOrders.settled (s := s) ⟨rfl, rfl, fun k hk => ?_, fun _ => rfl, rfl⟩ rfl rfl hs
  have other : k ≠ j := by
    rintro rfl
    exact hk.elim waits runs
  rw [State.modSlot_slot, if_neg other]

end

end Sys2Proof.Proofs

namespace Sys2Proof.Proofs

open Sys2Proof.Machine Sys2Proof.Safety Sys2Proof.Laws

/-! ### What a look through the pool finds (R166, R167) -/

/-- The order found stands in the part of the queue that was looked through, and is of the kind asked for. -/
theorem oldestStartable_some {s : State} {switching : Bool} {x : StartItem} {l : List SlotId} (earlier : List SlotId)
    (h : oldestStartable s switching earlier l = some x) : x.slot ∈ l ∧ x.kind.switching = switching := by
  induction l generalizing earlier with
  | nil => cases h
  | cons i rest ih =>
    simp only [oldestStartable] at h
    split at h
    · split at h
      · next asked =>
        cases h
        exact ⟨List.mem_cons_self, asked⟩
      · exact (ih _ h).imp_left (List.mem_cons_of_mem i)
    · exact (ih _ h).imp_left (List.mem_cons_of_mem i)

/-- Starting a right-free order takes it, and no other, from the posted queue (R155). -/
theorem startRightFree_posted (x : StartItem) (s : State) :
    (startRightFree x s).oe.posted = s.oe.posted.filter (· ≠ x.slot) := by
  unfold startRightFree
  dsimp only
  split <;> simp [leavePosted]

/-- An order that leaves the posted queue makes it shorter. -/
theorem length_leave_lt {l : List SlotId} {i : SlotId} (h : i ∈ l) : (l.filter (· ≠ i)).length < l.length :=
  List.length_filter_lt_length_iff_exists.mpr ⟨i, h, by simp⟩

/-! ### A re-examination leaves no startable right-free order -/

/-- An idle engine has no startable right-free order (R166). -/
def FreeDone (s : State) : Prop := s.oe.executing = none → oldestStartable s false [] s.oe.posted = none

theorem startFree_done {n : Nat} {s : State} (enough : s.oe.posted.length ≤ n) : FreeDone (startFree n s) := by
  induction n generalizing s with
  | zero =>
    intro _
    simp [startFree, List.eq_nil_of_length_eq_zero (Nat.le_zero.mp enough), oldestStartable]
  | succ n ih =>
    simp only [startFree]
    split
    · next busy => exact fun idle => by simp [idle] at busy
    · split
      · next none_left => exact fun _ => none_left
      · next x found =>
        refine ih ?_
        have shorter := length_leave_lt (oldestStartable_some [] found).1
        rw [startRightFree_posted]
        omega

theorem startFree_posted_le (n : Nat) (s : State) : (startFree n s).oe.posted.length ≤ s.oe.posted.length := by
  induction n generalizing s with
  | zero => exact le_rfl
  | succ n ih =>
    simp only [startFree]
    split
    · exact le_rfl
    · split
      · exact le_rfl
      · refine (ih _).trans ?_
        rw [startRightFree_posted]
        exact List.length_filter_le _ _

theorem startFree_vcRequest (n : Nat) (s : State) : (startFree n s).arb.vcRequest = s.arb.vcRequest := by
  induction n generalizing s with
  | zero => rfl
  | succ n ih =>
    simp only [startFree]
    split
    · rfl
    · split
      · rfl
      · rw [ih]
        simp

/-- After a re-examination no right-free order is startable, and the engine's request stands exactly while it is called
for (R166, R167). -/
theorem reexamine_done (s : State) :
    FreeDone (reexamine s) ∧ (reexamine s).arb.oeRequest = wantsRight (reexamine s) := by
  have examined : SameOrders (startFree s.oe.posted.length s) (reexamine s) := .of_parts rfl rfl rfl
  refine ⟨fun idle => ?_, examined.wantsRight.symm⟩
  rw [examined.oldestStartable]
  exact startFree_done le_rfl idle

theorem reexamine_le (s : State) :
    (reexamine s).oe.posted.length ≤ s.oe.posted.length ∧ (reexamine s).arb.vcRequest = s.arb.vcRequest :=
  ⟨startFree_posted_le _ s, startFree_vcRequest _ s⟩

/-! ### Every grant uses up an order or the request of voltage control -/

theorem oeGranted_le (n : Nat) (s : State) :
    (oeGranted n s).oe.posted.length ≤ s.oe.posted.length ∧ (oeGranted n s).arb.vcRequest = s.arb.vcRequest := by
  induction n generalizing s with
  | zero => exact ⟨le_rfl, rfl⟩
  | succ n ih =>
    simp only [oeGranted]
    split
    · exact ⟨le_rfl, rfl⟩
    · split
      · exact ⟨le_rfl, rfl⟩
      · next x _ =>
        have left : (leavePosted x.slot s).oe.posted.length ≤ s.oe.posted.length := List.length_filter_le _ _
        split
        · exact ⟨(ih _).1.trans (by simpa using left), (ih _).2.trans (by simp)⟩
        · exact ⟨by simpa using left, by simp⟩

/-- A grant to an engine that wants the right takes an order from the posted queue (R167). -/
theorem oeGranted_lt {s : State} (wants : wantsRight s = true) (n : Nat) :
    (oeGranted (n + 1) s).oe.posted.length < s.oe.posted.length := by
  simp only [wantsRight, Bool.and_eq_true, Option.isNone_iff_eq_none, Option.isSome_iff_exists] at wants
  obtain ⟨idle, x, found⟩ := wants
  have left : (leavePosted x.slot s).oe.posted.length < s.oe.posted.length :=
    length_leave_lt (oldestStartable_some [] found).1
  simp only [oeGranted, idle, found, Option.isSome_none, Bool.false_eq_true, if_false]
  split
  · exact (oeGranted_le n _).1.trans_lt (by simpa using left)
  · simpa using left

/-- How many grants may follow: one to voltage control while its request stands, one to the engine for each posted
order (R93, R167). -/
def grantsLeft (s : State) : Nat := s.oe.posted.length + if s.arb.vcRequest = .absent then 0 else 1

theorem winner_vc {a : Arbiter} (h : winner a = some .vc) : a.vcRequest ≠ .absent := by
  intro absent
  unfold winner at h
  split at h
  · cases h
  · rw [absent] at h
    cases hr : a.oeRequest <;> simp [hr] at h

theorem winner_oe {a : Arbiter} (h : winner a = some .oe) : a.oeRequest = true := by
  unfold winner at h
  split at h
  · cases h
  · cases hr : a.oeRequest <;> cases hv : a.vcRequest <;> simp_all

theorem grant_grantsLeft {w : Winner} {s : State} (wins : winner s.arb = some w)
    (request : s.arb.oeRequest = wantsRight s) : grantsLeft (grant w s) < grantsLeft s := by
  cases w with
  | vc =>
    have pending := winner_vc wins
    simp [grantsLeft, grant, pending]
  | oe =>
    have wants : wantsRight s = true := request ▸ winner_oe wins
    have some_posted : s.oe.posted ≠ [] := fun empty => by simp [wantsRight, empty, oldestStartable] at wants
    obtain ⟨n, hn⟩ := Nat.exists_eq_succ_of_ne_zero (List.length_pos_iff.mpr some_posted).ne'
    have same : SameOrders s { s with arb.holder := .oe, arb.oeRequest := false } := .of_parts rfl rfl rfl
    have taken := oeGranted_lt (same.wantsRight.trans wants) n
    have kept := (oeGranted_le (n + 1) { s with arb.holder := .oe, arb.oeRequest := false }).2
    simp only [grantsLeft, grant, hn, Nat.succ_eq_add_one, kept] at *
    omega

/-! ### `settle` leaves nothing that could start -/

theorem settleLoop_settled {n : Nat} {s : State} (enough : grantsLeft s < n) : Settled (settleLoop n s) := by
  induction n generalizing s with
  | zero => omega
  | succ n ih =>
    obtain ⟨done, request⟩ := reexamine_done s
    have fewer : grantsLeft (reexamine s) ≤ grantsLeft s := by
      obtain ⟨posted, vc⟩ := reexamine_le s
      unfold grantsLeft
      rw [vc]
      omega
    simp only [settleLoop]
    split
    · next nobody => exact ⟨done, request, nobody⟩
    · next w wins =>
      have := grant_grantsLeft wins request
      exact ih (by omega)

/-- Whatever the event did, its consequences end with nothing left that could start (R93, R166, R167). -/
theorem settle_settled (s : State) : Settled (settle s) :=
  settleLoop_settled (by unfold grantsLeft; split <;> omega)

end Sys2Proof.Proofs
namespace Sys2Proof.Proofs

open Sys2Proof.Machine Sys2Proof.Safety Sys2Proof.Laws

/-! ### Work that leaves nothing that could start -/

/-- Work after which nothing that could start is left where nothing was before. -/
def KeepsSettled (f : State → State) : Prop := ∀ s, Settled s → Settled (f s)

theorem keepsSettled_of_figures {f : State → State} (same : ∀ s, orderFigures (f s) = orderFigures s) :
    KeepsSettled f := fun s h => settled_of_figures (same s) h

theorem keepsSettled_forEach {α : Type} {f : α → State → State} (h : ∀ a, KeepsSettled (f a)) (l : List α) :
    KeepsSettled (forEach f l) := fun s hs => forEach_invariant Settled f (fun a s => h a s) l s hs

/-! ### The sample link receiver and the published figures -/

theorem keepsSettled_feedReturnStep (i : StepId) : KeepsSettled (feedReturnStep i) := by
  intro s h
  rw [feedReturnStep_eq]
  split
  · exact settle_settled _
  · exact h

theorem keepsSettled_feedFrame : KeepsSettled feedFrame := by
  intro s h
  have restarted : Settled { s with rx.feedTimer := some 20, rx.feedLive := true } := settled_of_figures (s := s) rfl h
  unfold feedFrame
  dsimp only
  split
  · exact restarted
  · exact keepsSettled_forEach keepsSettled_feedReturnStep _ _ restarted

theorem keepsSettled_takePositions (w : Half) : KeepsSettled (takePositions w) := fun s h =>
  keepsSettled_forEach (fun _ _ _ => settle_settled _) _ _ (settled_of_figures (s := s) rfl h)

theorem keepsSettled_frameEnd (f : SampleFrame) : KeepsSettled (frameEnd f) := by
  intro s h
  cases ha : s.rx.assembly with
  | none =>
    simp only [frameEnd, ha]
    exact settled_of_figures (s := s) rfl h
  | some a =>
    have formed : Settled (built f a s) := by
      rw [built, windowFrame_frame]
      exact settled_of_figures (s := s) rfl h
    cases hv : isValid (frameClass f a) with
    | false =>
      rw [frameEnd_invalid ha hv]
      exact formed
    | true =>
      rw [frameEnd_valid ha hv]
      exact keepsSettled_takePositions _ _ (keepsSettled_feedFrame _ formed)

theorem keepsSettled_scheduledPulse : KeepsSettled scheduledPulse := by
  intro s h
  unfold scheduledPulse
  split
  · exact h
  · split
    · split
      · exact h
      · exact settle_settled _
    · exact h

theorem keepsSettled_takeWindowEnd : KeepsSettled takeWindowEnd := by
  intro s h
  unfold takeWindowEnd
  split
  · exact h
  · split
    · exact h
    · exact settle_settled _
    · exact settle_settled _

theorem orderFigures_feedExpiry (s : State) : orderFigures (feedExpiry s) = orderFigures s := by
  unfold feedExpiry
  dsimp only
  (repeat' split) <;> rfl

theorem orderFigures_firstSync (s : State) : orderFigures (firstSync s) = orderFigures s := by
  unfold firstSync
  split <;> rfl

theorem orderFigures_of_besideAlarms {s t : State} (h : besideAlarms t = besideAlarms s) :
    orderFigures t = orderFigures s := by
  rw [eq_of_besideAlarms h]
  rfl

theorem orderFigures_publish (s : State) : orderFigures (publish s) = orderFigures s := by
  cases hw : s.mu.computing with
  | none => simp only [publish, hw]
  | some w =>
    have run : publish s = forEach (clipNotice s.mu.entries) allChannels (published w s) := by
      simp only [publish, hw, published]
    rw [run, orderFigures_of_besideAlarms (clipNotices_beside _ _ _)]
    rfl

/-! ### The evaluations of a window end -/

theorem keepsSettled_vcEvaluate : KeepsSettled vcEvaluate := by
  intro s h
  unfold vcEvaluate
  split
  · exact h
  · dsimp only
    split
    · exact settle_settled _
    · exact settle_settled _

theorem keepsSettled_hsEvaluate : KeepsSettled hsEvaluate := by
  intro s h
  unfold hsEvaluate
  split
  · exact h
  · exact settle_settled _

theorem keepsSettled_ubEvaluate : KeepsSettled ubEvaluate := by
  intro s h
  unfold ubEvaluate
  split
  · exact h
  · exact settle_settled _

/-! ### Expiries and inputs -/

/-- Work that is done, and settled, only where its condition holds. -/
theorem settled_if {p : Prop} [Decidable p] {s t : State} (h : Settled s) : Settled (if p then settle t else s) := by
  split
  · exact settle_settled _
  · exact h

theorem keepsSettled_closeConfirmExpiry (i : StepId) : KeepsSettled (closeConfirmExpiry i) := by
  intro s h
  unfold closeConfirmExpiry
  split
  · split
    · exact settle_settled _
    · exact h
  · exact h

theorem keepsSettled_openConfirmExpiry (i : StepId) : KeepsSettled (openConfirmExpiry i) := by
  intro s h
  unfold openConfirmExpiry
  split
  · split
    · exact settle_settled _
    · exact h
  · exact h

theorem keepsSettled_syncWaitExpiry : KeepsSettled syncWaitExpiry := by
  intro s h
  unfold syncWaitExpiry
  split
  · exact settle_settled _
  · exact h

theorem keepsSettled_settleExpiry : KeepsSettled settleExpiry := by
  intro s h
  unfold settleExpiry
  split
  · exact settle_settled _
  · exact h

/-- The return of a step's lines is no condition of a start (R163). -/
theorem orderFigures_returnAll (s : State) : orderFigures (returnAll s) = orderFigures s :=
  returnAll_keeps orderFigures (fun _ _ _ => rfl) s

theorem orderFigures_permitLoss (s : State) : orderFigures (permitLoss s) = orderFigures s := by
  unfold permitLoss
  split
  · exact Eq.trans (by simp [orderFigures]) (orderFigures_returnAll s)
  · rfl

/-- CLOSE_INHIBIT is a condition of a start, and its change is settled; the other inputs are none (R163, R180). -/
theorem levelEffect_settled {n : InputLine} (level : Bool) {s : State} (h : n ≠ .inp0 → Settled s) :
    Settled (levelEffect n level s) := by
  unfold levelEffect
  split
  · exact settle_settled _
  · exact settle_settled _
  · exact settled_of_figures (s := s) rfl (h (by simp))
  · exact h (by simp)
  · exact settled_of_figures (orderFigures_permitLoss s) (h (by simp))

theorem keepsSettled_levelChange (n : InputLine) (level : Bool) : KeepsSettled (levelChange n level) := by
  intro s h
  unfold levelChange
  split
  · exact h
  · refine levelEffect_settled level fun other => settled_of_figures (s := s) ?_ h
    cases n with
    | inp0 => contradiction
    | inp1 => rfl
    | inp2 => rfl

/-! ### Requests -/

/-- A request is taken, passed by or ignored; only its work can bring an order about (R190, R191, R203). -/
theorem settled_takeRequest {work : Handler} {code tag : Byte} {s : State} (h : Settled s)
    (hw : Settled (consume s) → Settled (work (consume s)).1) : Settled (takeRequest code tag work s) := by
  unfold takeRequest
  split
  · exact settled_of_figures (s := s) rfl h
  · split
    · have worked := hw (settled_of_figures (s := s) rfl h)
      exact settled_of_figures (s := (work (consume s)).1) rfl worked
    · exact settled_of_figures (s := s) rfl h

section

variable (s : State)

theorem orderFigures_readStep (step page : Byte) : orderFigures (readStep step page s).1 = orderFigures s := by
  unfold readStep
  (repeat' split) <;> rfl

theorem orderFigures_readChannel (channel page : Byte) :
    orderFigures (readChannel channel page s).1 = orderFigures s := by
  unfold readChannel
  (repeat' split) <;> rfl

theorem orderFigures_readYard (page : Byte) : orderFigures (readYard page s).1 = orderFigures s := by
  unfold readYard
  (repeat' split) <;> rfl

theorem orderFigures_readSetting (ident : Byte) : orderFigures (readSetting ident s).1 = orderFigures s := by
  unfold readSetting
  split <;> rfl

theorem orderFigures_writeSetting (ident : Byte) (value : Word) :
    orderFigures (writeSetting ident value s).1 = orderFigures s := by
  have stored (y : YardId) (v : Nat) : orderFigures (storeYard y v s) = orderFigures s := by
    rw [storeYard_frame]
    rfl
  unfold writeSetting
  split
  · rfl
  · dsimp only
    split
    · exact stored _ _
    · rfl

theorem orderFigures_readStepSetting (step ident : Byte) :
    orderFigures (readStepSetting step ident s).1 = orderFigures s := by
  unfold readStepSetting
  split <;> rfl

theorem orderFigures_defaultSettings : orderFigures (defaultSettings s) = orderFigures s := by
  simp [orderFigures, defaultSettings, capHarmTrip, capHarmAlarm, capDead, capFast, capBand]

theorem orderFigures_readAlarm (index : Byte) : orderFigures (readAlarm index s).1 = orderFigures s := by
  unfold readAlarm
  split <;> rfl

theorem orderFigures_ackAlarm (kind subject : Byte) : orderFigures (ackAlarm kind subject s).1 = orderFigures s := by
  unfold ackAlarm
  (repeat' split) <;> rfl

theorem orderFigures_readOrder (mode slot generation page : Byte) :
    orderFigures (readOrder mode slot generation page s).1 = orderFigures s := by
  unfold readOrder
  (repeat' split) <;> rfl

theorem orderFigures_stageLines (step close trip : Byte) :
    orderFigures (stageLines step close trip s).1 = orderFigures s := by
  unfold stageLines
  split <;> rfl

theorem orderFigures_returnLines (step : Byte) : orderFigures (returnLines step s).1 = orderFigures s := by
  unfold returnLines giveBack returnDirect
  (repeat' split) <;> rfl

theorem orderFigures_frameAbort (bits : Nat) : orderFigures (frameAbort bits s) = orderFigures s := by
  unfold frameAbort
  (repeat' split) <;> rfl

theorem orderFigures_fillerFrame : orderFigures (fillerFrame s) = orderFigures s := by
  unfold fillerFrame
  (repeat' split) <;> rfl

theorem orderFigures_responseLoad : orderFigures (responseLoad s) = orderFigures s := by
  unfold responseLoad
  split <;> rfl

end

/-- OPERATION_COUNT is the one per-step setting of the step's record, and no condition of a start (R58, R163). -/
theorem keepsSettled_writeStepSetting (step ident : Byte) (value : Word) :
    KeepsSettled fun s => (writeStepSetting step ident value s).1 := by
  intro s h
  have stored (i : StepId) (p : StepSettingId) (x : Int) : Settled (storeStep i p (stepClamp p x) s) := by
    by_cases hp : p = .operationCount
    · subst hp
      rw [storeStep_operationCount]
      exact settled_modStep (fun _ => rfl) h
    · rw [storeStep_eq hp, stepStored_eq]
      exact settled_of_figures (s := s) rfl h
  unfold writeStepSetting
  split
  · dsimp only
    split
    · exact stored _ _ _
    · exact h
  · exact settled_of_figures (s := s) rfl h

theorem keepsSettled_requestMode (mode : Byte) : KeepsSettled fun s => (requestMode mode s).1 := by
  intro s h
  have set (auto : Bool) : Settled (setMode auto s) := by
    unfold setMode
    split
    · exact h
    · split
      · exact settled_of_figures (s := s) rfl h
      · exact settle_settled _
  unfold requestMode
  split
  · exact set false
  · split
    · exact set true
    · exact h

theorem keepsSettled_noteDirect (i : StepId) (rises : Bool) : KeepsSettled (noteDirect i rises) := by
  intro s h
  unfold noteDirect
  split
  · exact settled_modStep (fun _ => rfl) h
  · exact h

theorem keepsSettled_handover (step : Byte) : KeepsSettled fun s => (handover step s).1 := by
  intro s h
  dsimp only
  unfold handover
  split
  · exact settled_of_figures (s := s) rfl h
  · next i _ =>
    split
    · show Settled (if (s.lines i).direct then s else becomeDirect i s)
      split
      · exact h
      · exact keepsSettled_noteDirect i _ _ (settled_of_figures (s := s) rfl h)
    · exact h

theorem keepsSettled_driveLines (step close trip : Byte) : KeepsSettled fun s => (driveLines step close trip s).1 := by
  intro s h
  dsimp only
  unfold driveLines
  split
  · exact h
  · split
    · exact keepsSettled_noteDirect _ _ _ (settled_of_figures (s := s) rfl h)
    · exact h

/-! ### Requests that name an order slot -/

theorem settled_byHandle {work : SlotId → State → State × Answer} {slot gen : Byte} {s : State} (h : Settled s)
    (hw : ∀ i, Settled (work i s).1) : Settled (byHandle slot gen work s).1 := by
  unfold byHandle
  split
  · exact h
  · split
    · exact hw _
    · exact h

theorem keepsSettled_postSlot (i : SlotId) : KeepsSettled fun s => (postSlot i s).1 := by
  intro s h
  dsimp only
  unfold postSlot
  split
  · exact h
  · split
    · exact h
    · split
      · exact h
      · exact settle_settled _

theorem keepsSettled_withdrawSlot (i : SlotId) : KeepsSettled fun s => (withdrawSlot i s).1 := by
  intro s h
  dsimp only
  unfold withdrawSlot
  split
  · exact settle_settled _
  · exact h
  · exact h

section

variable {s : State} {i : SlotId}

/-- An order that is neither POSTED nor EXECUTING neither waits nor runs (R155, R166). -/
theorem poolOk_idle (pool : PoolOk s) (posted : (s.slot i).state ≠ .posted) (executing : (s.slot i).state ≠ .executing) :
    i ∉ s.oe.posted ∧ s.oe.executing ≠ some i := by
  obtain ⟨_, _, each⟩ := pool
  obtain ⟨_, waits, runs, _⟩ := each i
  exact ⟨fun h => posted (waits.mp h), fun h => executing (runs.mp h)⟩

/-- A slot that is FREE, a DRAFT or FINISHED may be changed at will. -/
theorem settled_idleSlot {f : Slot → Slot} {queue : List SlotId} (pool : PoolOk s)
    (posted : (s.slot i).state ≠ .posted) (executing : (s.slot i).state ≠ .executing) (h : Settled s) :
    Settled (({ s with oe.freeQueue := queue } : State).modSlot i f) := by
  obtain ⟨waits, runs⟩ := poolOk_idle pool posted executing
  have queued : Settled { s with oe.freeQueue := queue } :=
    SameOrders.settled (s := s) ⟨rfl, rfl, fun _ _ => rfl, fun _ => rfl, rfl⟩ rfl rfl h
  exact settled_modSlot waits runs queued

theorem settled_takeSlot (pool : PoolOk s) (h : Settled s) : Settled (takeSlot s).1 := by
  unfold takeSlot
  split
  · exact h
  · next i rest queue =>
    have free : (s.slot i).state = .free := by
      obtain ⟨_, _, each⟩ := pool
      exact (each i).1.mp (by simp [queue])
    exact settled_idleSlot pool (by simp [free]) (by simp [free]) h

theorem settled_fillSlot (kind step timing : Byte) (notBefore deadline : Half) (pool : PoolOk s) (h : Settled s) :
    Settled (fillSlot kind step timing notBefore deadline i s).1 := by
  unfold fillSlot
  split
  · next draft => exact settled_idleSlot (queue := s.oe.freeQueue) pool (by simp [draft]) (by simp [draft]) h
  · exact h

theorem settled_retireSlot (pool : PoolOk s) (h : Settled s) : Settled (retireSlot i s).1 := by
  unfold retireSlot
  split
  · next finished => exact settled_idleSlot pool (by simp [finished]) (by simp [finished]) h
  · next draft => exact settled_idleSlot pool (by simp [draft]) (by simp [draft]) h
  · exact h

end

/-! ### Every command -/

/-- The requests that change an order slot beside the posted queue. -/
def editsSlot : Instr → Bool
  | .takeSlot _ | .fillOrder .. | .retireOrder .. => true
  | _ => false

theorem settled_live {f : State → State} {s t : State} (run : live s f = .next t) (h : Settled s)
    (hf : Settled s → Settled (f s)) : Settled t := by
  cases run
  split
  · exact h
  · exact hf h

theorem settled_live_same {f : State → State} {s t : State} (run : live s f = .next t) (h : Settled s)
    (same : ∀ s, orderFigures (f s) = orderFigures s) : Settled t :=
  settled_live run h (settled_of_figures (same s))

theorem settled_request {work : Handler} {code tag : Byte} {s t : State}
    (run : live s (takeRequest code tag work) = .next t) (h : Settled s) (hw : KeepsSettled fun s => (work s).1) :
    Settled t := settled_live run h fun h => settled_takeRequest h (hw (consume s))

theorem settled_request_same {work : Handler} {code tag : Byte} {s t : State}
    (run : live s (takeRequest code tag work) = .next t) (h : Settled s)
    (same : ∀ s, orderFigures (work s).1 = orderFigures s) : Settled t :=
  settled_request run h (keepsSettled_of_figures same)

/-- Every command leaves nothing that could start; one that changes a slot does so where the pool is in order. -/
theorem exec_settled (c : Instr) {s t : State} (pool : editsSlot c = true → PoolOk s) (h : Settled s)
    (run : exec c s = .next t) : Settled t := by
  cases c with
  | resetAssert =>
    cases run
    exact settled_of_figures (s := s) rfl h
  | resetRelease pins =>
    cases run
    exact released_settled pins s.pending s.freeDraws s.extraBits
  | frameEnd f => exact settled_live run h (keepsSettled_frameEnd f s)
  | scheduledClosePulse => exact settled_live run h (keepsSettled_scheduledPulse s)
  | windowTimerExpiry => exact settled_live_same run h fun _ => rfl
  | feedTimerExpiry => exact settled_live_same run h orderFigures_feedExpiry
  | windowEnd => exact settled_live run h (keepsSettled_takeWindowEnd s)
  | publication => exact settled_live_same run h orderFigures_publish
  | vcEvaluation => exact settled_live run h (keepsSettled_vcEvaluate s)
  | harmonicEvaluation => exact settled_live run h (keepsSettled_hsEvaluate s)
  | unbalanceEvaluation => exact settled_live run h (keepsSettled_ubEvaluate s)
  | cooldownExpiry i => exact settled_live (f := cooldownExpiry i) run h settled_if
  | holdoffExpiry i => exact settled_live (f := holdoffExpiry i) run h settled_if
  | closePulseEnd i => exact settled_live_same (f := fun s => s.modLane i _) run h fun _ => rfl
  | tripPulseEnd i => exact settled_live_same (f := fun s => s.modLane i _) run h fun _ => rfl
  | closeConfirmExpiry i => exact settled_live run h (keepsSettled_closeConfirmExpiry i s)
  | openConfirmExpiry i => exact settled_live run h (keepsSettled_openConfirmExpiry i s)
  | yardTripEnd => exact settled_live_same (f := fun s => { s with seq.yardTrip := 0 }) run h fun _ => rfl
  | syncWaitExpiry => exact settled_live run h (keepsSettled_syncWaitExpiry s)
  | settleExpiry => exact settled_live run h (keepsSettled_settleExpiry s)
  | resonanceWatchExpiry => exact settled_live_same (f := fun s => { s with hs.watch := none }) run h fun _ => rfl
  | notBeforeElapsed j => exact settled_live (f := notBeforeElapsed j) run h settled_if
  | deadlineExpiry j => exact settled_live (f := deadlineExpiry j) run h settled_if
  | inputLevelChange n level => exact settled_live run h (keepsSettled_levelChange n level s)
  | frameAbort bits => exact settled_live_same run h fun s => orderFigures_frameAbort s bits
  | fillerFrame => exact settled_live_same run h orderFigures_fillerFrame
  | responseLoad => exact settled_live_same run h orderFigures_responseLoad
  | badCode code tag => exact settled_request_same run h fun _ => rfl
  | poll tag => exact settled_request_same run h fun _ => rfl
  | readIdent tag => exact settled_request_same run h fun _ => rfl
  | readStep tag step page => exact settled_request_same run h fun s => orderFigures_readStep s step page
  | readChannel tag channel page => exact settled_request_same run h fun s => orderFigures_readChannel s channel page
  | readYard tag page => exact settled_request_same run h fun s => orderFigures_readYard s page
  | readSetting tag ident => exact settled_request_same run h fun s => orderFigures_readSetting s ident
  | writeSetting tag ident value =>
    exact settled_request_same run h fun s => orderFigures_writeSetting s ident value
  | readStepSetting tag step ident =>
    exact settled_request_same run h fun s => orderFigures_readStepSetting s step ident
  | writeStepSetting tag step ident value =>
    exact settled_request run h (keepsSettled_writeStepSetting step ident value)
  | defaultSettings tag => exact settled_request_same run h orderFigures_defaultSettings
  | setMode tag mode => exact settled_request run h (keepsSettled_requestMode mode)
  | readAlarm tag index => exact settled_request_same run h fun s => orderFigures_readAlarm s index
  | ackAlarm tag kind subject => exact settled_request_same run h fun s => orderFigures_ackAlarm s kind subject
  | ackAll tag => exact settled_request_same run h fun _ => rfl
  | takeSlot tag =>
    have ordered : PoolOk (consume s) := pool rfl
    exact settled_live run h fun h => settled_takeRequest h (settled_takeSlot ordered)
  | fillOrder tag slot generation kind step timing notBefore deadline =>
    have ordered : PoolOk (consume s) := pool rfl
    exact settled_live run h fun h => settled_takeRequest h fun h =>
      settled_byHandle h fun _ => settled_fillSlot kind step timing notBefore deadline ordered h
  | postOrder tag slot generation =>
    exact settled_request run h fun s h => settled_byHandle h fun i => keepsSettled_postSlot i s h
  | withdrawOrder tag slot generation =>
    exact settled_request run h fun s h => settled_byHandle h fun i => keepsSettled_withdrawSlot i s h
  | retireOrder tag slot generation =>
    have ordered : PoolOk (consume s) := pool rfl
    exact settled_live run h fun h => settled_takeRequest h fun h =>
      settled_byHandle h fun _ => settled_retireSlot ordered h
  | readOrder tag mode slot generation page =>
    exact settled_request_same run h fun s => orderFigures_readOrder s mode slot generation page
  | stageLines tag step close trip => exact settled_request_same run h fun s => orderFigures_stageLines s step close trip
  | handover tag step => exact settled_request run h (keepsSettled_handover step)
  | driveLines tag step close trip => exact settled_request run h (keepsSettled_driveLines step close trip)
  | returnLines tag step => exact settled_request_same run h fun s => orderFigures_returnLines s step
  | readLines tag => exact settled_request_same run h fun _ => rfl
  | firstFrameSync => exact settled_live_same run h orderFigures_firstSync

/-! ### The tick -/

/-- A countdown leaves every timer that runs running, and a settle unfinished (R92, R164). -/
theorem settled_countDown {s : State} (h : Settled s) : Settled (countDown s) := by
  have busy : winner (countDown s).arb = winner s.arb := by
    cases hb : s.arb.busy <;> simp [winner, countDown, Busy.down, hb]
  refine SameOrders.settled (s := s) ⟨rfl, rfl, fun j _ => ?_, fun _ => rfl, rfl⟩ rfl busy h
  rw [countDown_slot]
  simp [slotFace, Slot.down]

/-- A filter that goes on sampling keeps its level (R179). -/
theorem sampleFilter_level (f : InputFilter) : (sampleFilter f).level = f.level := by
  unfold sampleFilter
  (repeat' split) <;> rfl

theorem settled_sampled (n : InputLine) {s : State} (h : Settled s) :
    Settled (s.setInput n (sampleFilter (s.input n))) := by
  refine settled_of_figures (s := s) ?_ h
  cases n with
  | inp0 => simp [orderFigures, State.setInput, State.input, sampleFilter_level]
  | inp1 => rfl
  | inp2 => rfl

/-- A running time is no order slot's request: its expiry needs no order in the pool. -/
theorem editsSlot_of_remaining {c : Instr} {s : State} (h : remaining s c = 1) : editsSlot c = false := by
  cases c <;> simp_all [remaining, editsSlot]

theorem tick_settled {s t : State} (h : Settled s) (run : tick s = .next t) : Settled t := by
  have expiry (c : Instr) (s t : State) (h : Settled s) (run : takeExpiry c s = .next t) : Settled t := by
    unfold takeExpiry at run
    split at run
    · next due => exact exec_settled c (by simp [editsSlot_of_remaining due]) h run
    · cases run
      exact h
  have sampled (n : InputLine) (s t : State) (h : Settled s) (run : sampleInput n s = .next t) : Settled t := by
    unfold sampleInput at run
    dsimp only at run
    split at run
    · exact exec_settled _ (by simp [editsSlot]) h run
    · cases run
      exact settled_sampled n h
  refine andThen_invariant (fun u => inTurn_invariant expiry _ (settled_countDown h)) (fun u t hu => ?_) run
  refine andThen_invariant (fun v => sampled .inp0 u v hu) fun v t hv => ?_
  exact andThen_invariant (fun w => sampled .inp1 v w hv) fun w t hw => sampled .inp2 w t hw

/-- Settles O10: whatever a step did to orders or right, its `settle` found nothing left that could start; what it
did besides is no condition of a start. -/
theorem nothingThatCouldStartIsLeft : Obligations.NothingThatCouldStartIsLeft := by
  unfold Obligations.NothingThatCouldStartIsLeft
  intro s t pool h run
  unfold step at run
  split at run
  · unfold idle at run
    split at run
    · cases run
      exact h
    · split at run
      · exact exec_settled _ (fun _ => pool) h run
      · exact tick_settled h run
  · next c rest _ =>
    exact exec_settled c (s := { s with pending := rest }) (fun _ => pool) (settled_of_figures (s := s) rfl h) run

end Sys2Proof.Proofs

namespace Sys2Proof.Proofs

open Sys2Proof.Machine Sys2Proof.Safety Sys2Proof.Laws

/-! ### The sync wait and the settle expire (R80, R92) -/

section

variable {i : StepId} {o : Operation} {tm : Timing} {s : State}

/-- A running sync wait that expires is at 0 before the close that waits is looked at (R80, log 24). -/
theorem exec_syncWaitExpiry {n : Nat} (hr : s.resetHeld = false) (hw : s.seq.syncWait = some (n + 1)) :
    exec .syncWaitExpiry s = .next (settle (endAwaiting { s with seq.syncWait := some 0 })) := by
  show live s syncWaitExpiry = _
  rw [live_running s _ hr, syncWaitExpiry, hw]

/-- The one close that has not started its pulse ends when it is AWAITING_VALID, and stands when it is SCHEDULED
(R80). -/
theorem endAwaiting_held (ho : (s.lane i).op = some o) (hk : o.kind = .close tm) (hp : o.phase ≠ .inMotion)
    (hn : NoOtherHeldClose i s) :
    endAwaiting s = if o.phase = .awaitingValid then abandonClose i .failed (some .noSync) s else s := by
  have held : unpulsedClose s = some (i, o) := by
    rw [unpulsedClose_eq ho hn, unpulsed_close hk]
    simp [hp]
  rw [endAwaiting, held]

/-- A close that ends without a pulse leaves the step table and its CLOSE line as they are (R77, R80). -/
theorem abandonClose_tbl_closePulse (i : StepId) (out : OrderOutcome) (r : Option Reason) (s : State) :
    (abandonClose i out r s).tbl = s.tbl ∧ ((abandonClose i out r s).lane i).closePulse = (s.lane i).closePulse := by
  cases ho : (s.lane i).op with
  | none => simp [abandonClose, ho]
  | some o =>
    rw [abandonClose_eq out r ho]
    simp [State.lane, State.modLane]

end

/-- Settles O37: the sync wait ends the close that still awaits VALID, the settle frees the right, and the grant rule is
read off its cases (R93). -/
theorem syncWaitSettleAndGrantRule : Obligations.SyncWaitSettleAndGrantRule := by
  unfold Obligations.SyncWaitSettleAndGrantRule
  refine ⟨⟨fun i o tm n s hr hw ho hk hp hn => ?syncWait, fun n s hr hb => ?settle⟩, fun a => ⟨?busy, fun free => ?free⟩⟩
  case syncWait =>
    refine ⟨_, exec_syncWaitExpiry hr hw, ?_⟩
    rw [endAwaiting_held (s := { s with seq.syncWait := some 0 }) ho hk hp hn]
    refine ⟨fun scheduled => by simp [scheduled], fun awaiting => ?_⟩
    rw [if_pos awaiting]
    obtain ⟨tbl, closePulse⟩ :=
      abandonClose_tbl_closePulse i .failed (some .noSync) { s with seq.syncWait := some 0 }
    obtain ⟨op, schedule, syncWait, arb⟩ :=
      abandonClose_spec (s := { s with seq.syncWait := some 0 }) .failed (some .noSync) ho
    exact ⟨tbl, op, closePulse, schedule, syncWait, arb, fun j oe running =>
      abandonClose_oe (s := { s with seq.syncWait := some 0 }) .failed (some .noSync) ho oe running⟩
  case settle =>
    show live s settleExpiry = _
    rw [live_running s _ hr, settleExpiry, hb]
    rfl
  case busy => exact fun busy => if_pos busy
  case free =>
    refine ⟨fun vc => ?_, fun vc oe => ?_, fun vc oe => ?_, fun vc oe holder => ?_, fun vc oe holder => ?_,
      fun vc oe => ?_⟩
    all_goals simp [winner, *]

end Sys2Proof.Proofs

namespace Sys2Proof.Proofs

open Sys2Proof.Machine Sys2Proof.Safety Sys2Proof.Laws

/-! ### CLOSE_INHIBIT and the closes without a pulse (R77, R180) -/

section

variable {i : StepId} {o : Operation} {tm : Timing} {s : State}

theorem closeBar_inhibited (inhibit : s.io.inp0.level = true) (i : StepId) : closeBar s i = some (some .inhibit) := by
  simp [closeBar, closeInhibit, inhibit]

/-- Under CLOSE_INHIBIT the watch ends a close that has not started its pulse (R77). -/
theorem watchClose_inhibited (inhibit : s.io.inp0.level = true) (ho : (s.lane i).op = some o)
    (hu : o.unpulsed = true) : watchClose i s = abandonClose i .preempted (some .inhibit) s := by
  simp [watchClose, ho, hu, closeBar_inhibited inhibit]

/-- A lane without a close that has not started its pulse. -/
def withdrawnLane (l : Lane) : Lane := if l.op.any Operation.unpulsed then { l with op := none } else l

/-- A close that ends without a pulse leaves every lane but its own. -/
theorem abandonClose_lane (i j : StepId) (out : OrderOutcome) (r : Option Reason) (s : State) :
    (abandonClose i out r s).lane j = if j = i then { s.lane i with op := none } else s.lane j := by
  cases ho : (s.lane i).op with
  | none =>
    have own : { s.lane i with op := none } = s.lane i := by rw [← ho]
    rw [own]
    simp only [abandonClose, ho]
    split
    · next e => rw [e]
    · rfl
  | some o =>
    rw [abandonClose_eq out r ho]
    simp [State.lane, State.modLane, look_put]

theorem watchClose_lane_inhibited (inhibit : s.io.inp0.level = true) (j : StepId) :
    (watchClose i s).lane j = if j = i then withdrawnLane (s.lane i) else s.lane j := by
  by_cases held : (s.lane i).op.any Operation.unpulsed = true
  · obtain ⟨o, ho, hu⟩ := (Option.any_eq_true _ _).mp held
    rw [watchClose_inhibited inhibit ho hu, abandonClose_lane]
    simp [withdrawnLane, held]
  · rw [watchClose_eq_self (Bool.eq_false_iff.mpr held), withdrawnLane, if_neg held]
    split
    · next e => rw [e]
    · rfl

/-! ### The watch over every step -/

/-- The watch of every step, in ascending order (R77, R180). -/
def watchAll (s : State) : State := forEach watchClose allSteps s

theorem watchAll_tbl (s : State) : (watchAll s).tbl = s.tbl :=
  forEach_keeps State.tbl watchClose watchClose_tbl allSteps s

theorem watchAll_io (s : State) : (watchAll s).io = s.io :=
  forEach_keeps State.io watchClose (fun i s => by simp) allSteps s

/-- Under CLOSE_INHIBIT every close that has not started its pulse is gone. -/
theorem watchAll_lane_inhibited (inhibit : s.io.inp0.level = true) (i : StepId) :
    (watchAll s).lane i = withdrawnLane (s.lane i) := by
  have watched (b : StepId) (t : State) (h : t.io = s.io) : (watchClose b t).io = s.io := by simpa using h
  have lane (b : StepId) (t : State) (h : t.io = s.io) :
      (watchClose b t).lane i = if i = b then withdrawnLane (t.lane b) else t.lane i :=
    watchClose_lane_inhibited (by rwa [h]) i
  refine (forEach_once (P := fun t => t.io = s.io ∧ t.lane i = s.lane i)
    (Q := fun t => t.io = s.io ∧ t.lane i = withdrawnLane (s.lane i)) ?_ ?_ ?_ allSteps_nodup (mem_allSteps i)
    ⟨rfl, rfl⟩).2
  · exact fun b t other ⟨io, same⟩ => ⟨watched b t io, by rw [lane b t io, if_neg other.symm, same]⟩
  · exact fun t ⟨io, same⟩ => ⟨watched i t io, by rw [lane i t io, if_pos rfl, same]⟩
  · exact fun b t other ⟨io, gone⟩ => ⟨watched b t io, by rw [lane b t io, if_neg other.symm, gone]⟩

/-- Where one step alone holds a close without a pulse, its watch is the watch of all. -/
theorem watchAll_only (inhibit : s.io.inp0.level = true) (hn : NoOtherHeldClose i s) :
    watchAll s = watchClose i s := by
  refine forEach_once (P := fun t => t = s) (Q := fun t => t = watchClose i s) ?_ (fun t h => by rw [h]) ?_
    allSteps_nodup (mem_allSteps i) rfl
  · rintro b t other rfl
    exact watchClose_eq_self (hn b other)
  · rintro b t other rfl
    refine watchClose_eq_self ?_
    rw [watchClose_lane_inhibited inhibit, if_neg other]
    exact hn b other

/-- Where no step holds a close without a pulse, nothing happens. -/
theorem watchAll_none (h : ∀ i, (s.lane i).op.any Operation.unpulsed = false) : watchAll s = s := by
  refine forEach_invariant (fun t => t = s) watchClose ?_ allSteps s rfl
  rintro i t rfl
  exact watchClose_eq_self (h i)

/-- A close that is in the way of CLOSE_INHIBIT ends PREEMPTED INHIBIT (R77). -/
theorem watchAll_ended (inhibit : s.io.inp0.level = true) (ho : (s.lane i).op = some o) (hk : o.kind = .close tm)
    (hp : o.phase ≠ .inMotion) (hn : NoOtherHeldClose i s) : CloseEnded i o.source (some .inhibit) s (watchAll s) := by
  have hu : o.unpulsed = true := by
    rw [unpulsed_close hk]
    exact decide_eq_true hp
  rw [watchAll_only inhibit hn, watchClose_inhibited inhibit ho hu]
  exact abandonClose_ended _ ho

end

/-! ### Level changes (R180 to R182) -/

/-- The state in which an input shows a level (R179, log 23). -/
def levelled (n : InputLine) (level : Bool) (s : State) : State := s.setInput n (InputFilter.settled level)

/-- A level change of an input acts on the state in which the new level stands (R179). -/
theorem exec_inputLevelChange {n : InputLine} {level : Bool} {s : State} (hr : s.resetHeld = false)
    (hl : (s.input n).level ≠ level) :
    exec (.inputLevelChange n level) s = .next (levelEffect n level (levelled n level s)) := by
  show live s (levelChange n level) = _
  rw [live_running s _ hr, levelChange, if_neg hl, levelled]

theorem anyDirect_iff (s : State) : anyDirect s = true ↔ ∃ i, (s.lines i).direct = true := by
  simp only [anyDirect, List.any_eq_true]
  exact ⟨fun ⟨i, _, h⟩ => ⟨i, h⟩, fun ⟨i, h⟩ => ⟨i, mem_allSteps i, h⟩⟩

/-- The return of all lines changes the lines alone. -/
theorem returnAll_eq (s : State) : ∃ lines, returnAll s = { s with io.lines := lines } := by
  have rest : { returnAll s with io.lines := s.io.lines } = s :=
    returnAll_keeps (fun t => { t with io.lines := s.io.lines }) (fun _ _ _ => rfl) s
  generalize returnAll s = t at rest
  refine ⟨t.io.lines, ?_⟩
  calc
    t = { { t with io.lines := s.io.lines } with io.lines := t.io.lines } := rfl
    _ = { s with io.lines := t.io.lines } := by rw [rest]

/-- A permit loss returns every DIRECT-owned step, and raises PERMIT_LOST when there was one (R182). -/
theorem permitLoss_spec (s : State) :
    permitLoss s = { s with io.lines := (permitLoss s).io.lines, link.alarms := (permitLoss s).link.alarms } ∧
    (∀ i, (permitLoss s).lines i = if (s.lines i).direct then ⟨false, false, false, false, false⟩ else s.lines i) ∧
    ((∃ i, (s.lines i).direct = true) → AlarmStands .permitLost .yard (permitLoss s)) ∧
    ((∀ i, (s.lines i).direct = false) → (permitLoss s).link.alarms = s.link.alarms) := by
  by_cases direct : anyDirect s = true
  · have run : permitLoss s = raise .permitLost .yard (returnAll s) := if_pos direct
    obtain ⟨i, hi⟩ := (anyDirect_iff s).mp direct
    have returned := returnAll_lines (s := s)
    obtain ⟨lines, back⟩ := returnAll_eq s
    rw [back] at run returned
    rw [run]
    exact ⟨rfl, returned, fun _ => alarmStands_raise _ _ _, fun none => by simp [none i] at hi⟩
  · have run : permitLoss s = s := if_neg direct
    have none (i : StepId) : (s.lines i).direct = false :=
      Bool.eq_false_iff.mpr fun h => direct ((anyDirect_iff s).mpr ⟨i, h⟩)
    rw [run]
    exact ⟨rfl, fun i => by simp [none], fun ⟨i, h⟩ => by simp [none] at h, fun _ => rfl⟩

/-- Settles O39: CLOSE_INHIBIT is the watch over all steps, the end of EMERGENCY_OPEN a cause-end notice, and the loss
of MAINT_PERMIT the return of the lines. -/
theorem inputLevelsActAsTheirInput : Obligations.InputLevelsActAsTheirInput := by
  unfold Obligations.InputLevelsActAsTheirInput
  refine ⟨fun s hr hl => ?inhibit, fun s hr hl => ?released, fun s hr hl => ?emergencyEnds, fun s hr hl => ?permit,
    fun s hr hl => ?permitLost⟩
  case inhibit =>
    have inhibited : (levelled .inp0 true s).io.inp0.level = true := rfl
    refine ⟨watchAll (levelled .inp0 true s), exec_inputLevelChange hr (by simp [State.input, hl]), watchAll_io _,
      watchAll_tbl _, fun quiet => ?none_held, fun i o tm ho hk hp hn => ?held, fun i => ?lanes⟩
    case none_held =>
      have lanes (i : StepId) : ((levelled .inp0 true s).lane i).op.any Operation.unpulsed = false := by
        obtain ⟨j, other⟩ := exists_ne i
        exact quiet j i other.symm
      rw [watchAll_none lanes]
      exact ⟨rfl, rfl, rfl, rfl⟩
    case held =>
      obtain ⟨_, schedule, syncWait, arb, vc, oe⟩ := watchAll_ended inhibited ho hk hp hn
      exact ⟨schedule, syncWait, arb, vc, fun ours => ⟨(oe ours).1, (oe ours).2.2⟩⟩
    case lanes =>
      have lane : (watchAll (levelled .inp0 true s)).lane i = withdrawnLane (s.lane i) :=
        watchAll_lane_inhibited inhibited i
      rw [lane]
      rcases s.lane i with ⟨_ | ⟨_ | _, src, _ | _ | _, under⟩, closePulse, tripPulse, confirm⟩ <;> exact ⟨rfl, rfl, rfl⟩
  case released =>
    exact ⟨watchAll (levelled .inp0 false s), exec_inputLevelChange hr (by simp [State.input, hl]), watchAll_io _,
      watchAll_tbl _⟩
  case emergencyEnds =>
    refine (exec_inputLevelChange hr (by simp [State.input, hl])).trans (congrArg _ ?_)
    exact (endCause_latching rfl .yard _).trans (by simp [causeOverIf, levelled, State.setInput, InputFilter.settled])
  case permit => exact exec_inputLevelChange hr (by simp [State.input, hl])
  case permitLost =>
    obtain ⟨frame, lines, stands, same⟩ := permitLoss_spec (levelled .inp2 false s)
    refine ⟨permitLoss (levelled .inp2 false s), exec_inputLevelChange hr (by simp [State.input, hl]), ?_, ?_, lines,
      stands, same⟩
    all_goals
      rw [frame]
      rfl

end Sys2Proof.Proofs

namespace Sys2Proof.Proofs

open Sys2Proof.Machine Sys2Proof.Safety Sys2Proof.Laws

/-! ### A departure from CLOSED that the unit takes (R138, R150, log 37) -/

section

variable {i : StepId} {s : State}

/-- Without a learning no order ends with the step's disarming (R138, R150). -/
theorem disarm_oe (h : (s.unb i).learning = none) : (disarm i s).oe = s.oe := by
  unfold disarm
  dsimp only
  rw [interruptLearning_none (by simp [clearStages_unb, h])]
  simp

theorem takeDeparture_none (h : (s.unb i).departed = false) : takeDeparture i s = s := by simp [takeDeparture, h]

/-- A departure that is taken of a step that is not CLOSED again disarms it, and nothing else (R138). -/
theorem takeDeparture_left (h : (s.unb i).departed = true) (left : (s.stepRec i).state ≠ .closed) :
    takeDeparture i s = (disarm i s).modUnb i fun u => { u with departed := false } := by
  unfold takeDeparture
  rw [if_pos h]
  refine if_neg ?_
  rwa [stepRec_congr (s := s) (by simp)]

theorem takeDeparture_unb (left : (s.stepRec i).state ≠ .closed) :
    (takeDeparture i s).unb i =
      if (s.unb i).departed = true then { disarmedUnb (s.unb i) with departed := false } else s.unb i := by
  split
  · next h => rw [takeDeparture_left h left, State.modUnb_unb_self, disarm_unb_of, if_pos rfl]
  · next h => rw [takeDeparture_none (Bool.eq_false_iff.mpr h)]

theorem takeDeparture_alarms (i : StepId) (s : State) :
    (takeDeparture i s).link.alarms =
      droppedIf ((s.unb i).departed && (s.unb i).alarmActive) .unbalanceAlarm (.step i) s.link.alarms := by
  cases hd : (s.unb i).departed with
  | false => simp [takeDeparture_none hd]
  | true =>
    rw [Bool.true_and, ← disarm_alarms]
    simp only [takeDeparture, hd, if_true]
    split <;> rfl

theorem takeDeparture_oe (h : (s.unb i).departed = false ∨ (s.unb i).learning = none) :
    (takeDeparture i s).oe = s.oe := by
  cases hd : (s.unb i).departed with
  | false => rw [takeDeparture_none hd]
  | true =>
    have none_learns := h.resolve_left (by simp [hd])
    simp only [takeDeparture, hd, if_true]
    split <;> exact disarm_oe none_learns

end

end Sys2Proof.Proofs


namespace Sys2Proof.Proofs

open Sys2Proof.Machine Sys2Proof.Safety Sys2Proof.Laws

/-! ### A right-free order starts (R166) -/

/-- An order has ended with an outcome and a reason, at the time of a state, and waits no longer (R154, R155, R168). -/
def OrderEnded (j : SlotId) (out : OrderOutcome) (why : Option Reason) (s t : State) : Prop :=
  (t.slot j).state = .finished ∧ (t.slot j).outcome = some out ∧ (t.slot j).reason = why ∧
  (t.slot j).finishedAt = some s.clock.seconds ∧ j ∉ t.oe.posted

section

variable {j : SlotId} {st : StepId} {s : State}

/-- The end of an order that has left the posted queue. -/
theorem finishSlot_ended {u : State} (out : OrderOutcome) (why : Option Reason) (clock : u.clock = s.clock)
    (left : j ∉ u.oe.posted) : OrderEnded j out why s (finishSlot j out why u) := by
  unfold finishSlot OrderEnded
  rw [State.modSlot_slot_self, clock]
  exact ⟨rfl, rfl, rfl, rfl, left⟩

theorem not_mem_leavePosted (j : SlotId) (s : State) : j ∉ (leavePosted j s).oe.posted := by simp [leavePosted]

/-- An order that fails a check ends REFUSED with its reason, and the engine stays as it is (R166). -/
theorem startRightFree_refused {k : OrderKind} {why : Reason} (fails : startCheck s k st = some why) :
    OrderEnded j .refused (some why) s (startRightFree ⟨j, k, st⟩ s) ∧
    (startRightFree ⟨j, k, st⟩ s).oe.executing = s.oe.executing := by
  have run : startRightFree ⟨j, k, st⟩ s = finishSlot j .refused (some why) (leavePosted j s) := by
    have same : startCheck (leavePosted j s) k st = some why := fails
    simp only [startRightFree, same]
  rw [run]
  exact ⟨finishSlot_ended _ _ rfl (not_mem_leavePosted j s), rfl⟩

/-- An order that passes its checks does its work (R166). -/
theorem startRightFree_runs {k : OrderKind} (passes : startCheck s k st = none) :
    startRightFree ⟨j, k, st⟩ s = runRightFree ⟨j, k, st⟩ (leavePosted j s) := by
  have same : startCheck (leavePosted j s) k st = none := passes
  simp only [startRightFree, same]

/-- An order whose work leaves clock and posted queue ends DONE (R166). -/
theorem work_ended {work : State → State} (clock : ∀ u, (work u).clock = u.clock)
    (posted : ∀ u, (work u).oe.posted = u.oe.posted) :
    OrderEnded j .done none s (finishSlot j .done none (work (leavePosted j s))) := by
  refine finishSlot_ended _ _ (clock _) ?_
  rw [posted]
  exact not_mem_leavePosted j s

/-- The end of an order is its slot's alone. -/
theorem finishSlot_beside (i : StepId) (out : OrderOutcome) (why : Option Reason) (u : State) :
    (finishSlot j out why u).stepRec i = u.stepRec i ∧ (finishSlot j out why u).unb i = u.unb i ∧
    (finishSlot j out why u).oe.executing = u.oe.executing ∧ (finishSlot j out why u).link = u.link :=
  ⟨rfl, rfl, rfl, rfl⟩

theorem finishSlot_executing {out : OrderOutcome} {why : Option Reason} {u : State}
    (same : u.oe = (leavePosted j s).oe) : (finishSlot j out why u).oe.executing = s.oe.executing :=
  (congrArg OrderEngine.executing same).trans rfl

/-! ### RESET_LOCKOUT (R147, R173) -/

/-- The unit clears the tripped flag and, with it, the cause of UNBALANCE_TRIP (R147). -/
def clearTripped (i : StepId) (s : State) : State :=
  (if (s.unb i).tripped then endCause .unbalanceTrip (.step i) s else s).modUnb i fun u => { u with tripped := false }

/-- The step without its LOCKOUT (R54, R173). -/
def unlocked (i : StepId) (s : State) : State := s.modStep i fun c => { c with lockout := none }

theorem runResetLockout_eq (i : StepId) (s : State) :
    runResetLockout i s = clearTripped i (clearStages i (takeDeparture i (unlocked i s))) := rfl

theorem clearTripped_unb (i : StepId) (s : State) :
    (clearTripped i s).unb i = { s.unb i with tripped := false } := by
  unfold clearTripped
  rw [State.modUnb_unb_self]
  split
  · rw [unb_congr (t := endCause .unbalanceTrip (.step i) s) (s := s) (by simp)]
  · rfl

theorem clearTripped_over (i : StepId) (s : State) :
    CauseOver .unbalanceTrip (.step i) (s.unb i).tripped s (clearTripped i s) := by
  unfold clearTripped
  cases (s.unb i).tripped with
  | true => exact CauseOver.congr (endCause_over (k := .unbalanceTrip) rfl (.step i) s) rfl rfl
  | false => exact causeOver_false rfl _

theorem clearTripped_frame (i : StepId) (s : State) :
    (clearTripped i s).tbl = s.tbl ∧ (clearTripped i s).oe = s.oe := by
  unfold clearTripped
  split <;> simp

theorem runResetLockout_unb (left : (s.stepRec st).state ≠ .closed) :
    (runResetLockout st s).unb st =
      { (if (s.unb st).departed = true then { disarmedUnb (s.unb st) with departed := false } else s.unb st) with
        tripped := false, alarmCount := 0, alarmActive := false, tripTiming := false, tripCount := 0 } := by
  have still : ((unlocked st s).stepRec st).state ≠ .closed := by
    rw [unlocked, State.modStep_stepRec_self]
    exact left
  rw [runResetLockout_eq, clearTripped_unb, clearStages_unb, if_pos rfl, takeDeparture_unb still]
  rfl

theorem runResetLockout_stepRec (i : StepId) (s : State) :
    (runResetLockout i s).stepRec i = { s.stepRec i with lockout := none } := by
  have same : (runResetLockout i s).tbl = (unlocked i s).tbl := by
    rw [runResetLockout_eq, (clearTripped_frame i _).1]
    simp
  rw [stepRec_congr (congrArg StepTable.recs same)]
  exact State.modStep_stepRec_self i (fun c => { c with lockout := none }) s

/-- Where no learning hangs on a departure the order engine has no other order to end (R150). -/
theorem runResetLockout_oe (h : (s.unb st).departed = false ∨ (s.unb st).learning = none) :
    (runResetLockout st s).oe = s.oe := by
  rw [runResetLockout_eq, (clearTripped_frame st _).2, (clearStages_frame st _).2.2.2.2.2.2.2.2.2.2.1]
  exact takeDeparture_oe (s := unlocked st s) h

/-- The cause of UNBALANCE_TRIP ends with the tripped flag; the other entries that may go are not of its kind (R147). -/
theorem runResetLockout_over (left : (s.stepRec st).state ≠ .closed) :
    CauseOver .unbalanceTrip (.step st) (s.unb st).tripped s (runResetLockout st s) := by
  have dropped (b : Bool) (as : List AlarmEntry) :
      ofKind .unbalanceTrip (droppedIf b .unbalanceAlarm (.step st) as) = ofKind .unbalanceTrip as :=
    droppedIf_filter (passes_ofKind (k := .unbalanceTrip) (k' := .unbalanceAlarm) nofun _) b as
  have tripped : ((clearStages st (takeDeparture st (unlocked st s))).unb st).tripped = (s.unb st).tripped := by
    have still : ((unlocked st s).stepRec st).state ≠ .closed := by
      rw [unlocked, State.modStep_stepRec_self]
      exact left
    rw [clearStages_unb, if_pos rfl, takeDeparture_unb still]
    split <;> rfl
  have ends := clearTripped_over st (clearStages st (takeDeparture st (unlocked st s)))
  rw [tripped] at ends
  refine CauseOver.congr ends ?_ rfl
  have cleared : (clearStages st (takeDeparture st (unlocked st s))).link.alarms =
      droppedIf ((takeDeparture st (unlocked st s)).unb st).alarmActive .unbalanceAlarm (.step st)
        (takeDeparture st (unlocked st s)).link.alarms := by
    rw [clearStages_eq]
    rfl
  rw [cleared, dropped, takeDeparture_alarms, dropped]
  rfl

/-! ### RETIRE_STEP and REINSTATE_STEP (R77, R175, R176) -/

/-- The watch over a close that is not the order engine's ends no order (R77). -/
theorem watchClose_oe {i : StepId} (h : ∀ o, (s.lane i).op = some o → o.source ≠ .oe) :
    (watchClose i s).oe = s.oe := by
  unfold watchClose
  split
  · rfl
  · next o ho =>
    split
    · split
      · rfl
      · rw [abandonClose_eq _ _ ho]
        cases hs : o.source with
        | oe => exact absurd hs (h o ho)
        | vc => rfl
        | protection => rfl
    · rfl

theorem runRetire_stepRec (i : StepId) (s : State) : (runRetire i s).stepRec i = { s.stepRec i with retired := true } :=
  (watchClose_stepRec i i _).trans (State.modStep_stepRec_self i (fun c => { c with retired := true }) s)

theorem runReinstate_stepRec (i : StepId) (s : State) :
    (runReinstate i s).stepRec i = { s.stepRec i with retired := false, cooling := true } := by
  rw [runReinstate, startCooldown_stepRec, if_pos rfl, State.modStep_stepRec_self]

theorem runRetire_oe {i : StepId} (h : ∀ o, (s.lane i).op = some o → o.source ≠ .oe) :
    (runRetire i s).oe = s.oe :=
  watchClose_oe (s := s.modStep i fun c => { c with retired := true }) h

theorem runReinstate_oe {i : StepId} (h : ∀ o, (s.lane i).op = some o → o.source ≠ .oe) :
    (runReinstate i s).oe = s.oe := by
  unfold runReinstate startCooldown
  exact watchClose_oe h

theorem runReinstate_cooldown (i : StepId) (s : State) :
    ((runReinstate i s).timers i).cooldown = 1000 * (s.stepCfg i).dischargeTime := by
  rw [runReinstate, startCooldown_timers, if_pos rfl]
  rfl

end

/-! ### The six orders -/

section

variable (j : SlotId) {st : StepId} {s : State}

/-- A hold is set or lifted with no further check but ABSENT (R171, R172). -/
theorem hold_done (present : (s.stepRec st).state ≠ .absent) :
    (OrderEnded j .done none s (startRightFree ⟨j, .hold, st⟩ s) ∧
      (startRightFree ⟨j, .hold, st⟩ s).oe.executing = s.oe.executing) ∧
    (startRightFree ⟨j, .hold, st⟩ s).stepRec st = { s.stepRec st with hold := true } := by
  rw [startRightFree_runs (by simp [startCheck, firstFailing, present])]
  exact ⟨⟨work_ended (work := runHold st) (fun _ => rfl) fun _ => rfl, rfl⟩,
    State.modStep_stepRec_self st (fun c => { c with hold := true }) s⟩

theorem release_done (present : (s.stepRec st).state ≠ .absent) :
    (OrderEnded j .done none s (startRightFree ⟨j, .release, st⟩ s) ∧
      (startRightFree ⟨j, .release, st⟩ s).oe.executing = s.oe.executing) ∧
    (startRightFree ⟨j, .release, st⟩ s).stepRec st = { s.stepRec st with hold := false } := by
  rw [startRightFree_runs (by simp [startCheck, firstFailing, present])]
  exact ⟨⟨work_ended (work := runRelease st) (fun _ => rfl) fun _ => rfl, rfl⟩,
    State.modStep_stepRec_self st (fun c => { c with hold := false }) s⟩

/-- LOCKOUT is reset on an OPEN step that carries it, and the unit's stages with it (R147, R173). -/
theorem resetLockout_spec (opened : (s.stepRec st).state = .opened) (locked : (s.stepRec st).lockout ≠ none) :
    (let t := startRightFree ⟨j, .resetLockout, st⟩ s
     OrderEnded j .done none s t ∧
     ((s.unb st).departed = false ∨ (s.unb st).learning = none → t.oe.executing = s.oe.executing) ∧
     t.stepRec st = { s.stepRec st with lockout := none } ∧
     (let u := if (s.unb st).departed = true then
          { s.unb st with armed := false, armCount := 0, learning := none, departed := false }
        else s.unb st
      t.unb st = { u with tripped := false, alarmCount := 0, alarmActive := false, tripTiming := false,
                          tripCount := 0 }) ∧
     CauseOver .unbalanceTrip (.step st) (s.unb st).tripped s t) := by
  have left : ((leavePosted j s).stepRec st).state ≠ .closed := by
    show (s.stepRec st).state ≠ .closed
    simp [opened]
  have run : startRightFree ⟨j, .resetLockout, st⟩ s =
      finishSlot j .done none (runResetLockout st (leavePosted j s)) :=
    startRightFree_runs (by simp [startCheck, firstFailing, opened, locked])
  have ended : OrderEnded j .done none s (finishSlot j .done none (runResetLockout st (leavePosted j s))) :=
    work_ended (fun _ => by simp) fun _ => by simp
  have over_flag := runResetLockout_over left
  have oe := runResetLockout_oe (st := st) (s := leavePosted j s)
  have same : (leavePosted j s).unb st = s.unb st := rfl
  have unb := runResetLockout_unb left
  rw [same] at unb
  have record := runResetLockout_stepRec st (leavePosted j s)
  dsimp only
  rw [run]
  generalize runResetLockout st (leavePosted j s) = t at *
  refine ⟨ended, fun h => finishSlot_executing (oe h), record, unb.trans ?_, over_flag⟩
  cases (s.unb st).departed <;> rfl

/-- A learning begins on a CLOSED step that is armed (R148, R174). -/
theorem learnBaseline_begun (closed : (s.stepRec st).state = .closed) (armed : (s.unb st).armed = true)
    (there : (s.unb st).departed = false) :
    startRightFree ⟨j, .learnBaseline, st⟩ s = runLearn st (beginExecuting j (leavePosted j s)) := by
  rw [startRightFree_runs (by simp [startCheck, firstFailing, closed, armed, there, Unbalance.isArmed])]
  rfl

/-- A step that is OPEN or FAULTED and in service is retired (R175). -/
theorem retireStep_done (outside : (s.stepRec st).state = .opened ∨ (s.stepRec st).state.isFaulted = true)
    (serving : (s.stepRec st).retired = false) :
    startRightFree ⟨j, .retireStep, st⟩ s = finishSlot j .done none (runRetire st (leavePosted j s)) := by
  have present : (s.stepRec st).state ≠ .absent := by
    rintro h
    simp [h, StepState.isFaulted] at outside
  have passes : startCheck s .retireStep st = none := by
    rcases outside with h | h <;> simp [startCheck, firstFailing, h, present, serving]
  rw [startRightFree_runs passes]
  rfl

/-- A retired step that is OPEN and CONTROLLED is reinstated (R176). -/
theorem reinstateStep_done (retired : (s.stepRec st).retired = true) (controlled : (s.lines st).direct = false)
    (present : (s.stepRec st).state = .opened) :
    startRightFree ⟨j, .reinstateStep, st⟩ s = finishSlot j .done none (runReinstate st (leavePosted j s)) := by
  rw [startRightFree_runs (by simp [startCheck, firstFailing, retired, controlled, present])]
  rfl

end

/-- Settles O58: each right-free order is its checks in their order, then its work, then its end. -/
theorem rightFreeOrdersDoTheirWork : Obligations.RightFreeOrdersDoTheirWork := by
  unfold Obligations.RightFreeOrdersDoTheirWork
  intro j st s present
  refine ⟨hold_done j present, release_done j present, ?resetLockout, ?learnBaseline, ?retireStep, ?reinstateStep⟩
  case resetLockout =>
    split
    · next free => exact startRightFree_refused (by simp [startCheck, firstFailing, present, free])
    · next locked =>
      split
      · next elsewhere =>
        refine startRightFree_refused ?_
        simp [startCheck, firstFailing, present, Option.isNone_iff_eq_none, locked, elsewhere]
      · next opened =>
        rw [not_not] at opened
        exact resetLockout_spec j opened locked
  case learnBaseline =>
    split
    · next ready =>
      obtain ⟨closed, armed, there⟩ := ready
      dsimp only
      rw [learnBaseline_begun j closed armed there]
      exact ⟨by simp [runLearn, beginExecuting, State.slot, State.modUnb, State.modSlot], rfl,
        by simp [runLearn]⟩
    · next other =>
      refine startRightFree_refused ?_
      have unready : (decide ((s.stepRec st).state = .closed) && (s.unb st).isArmed) = false := by
        simpa [Unbalance.isArmed] using other
      simp [startCheck, firstFailing, present, unready]
  case retireStep =>
    split
    · next outside =>
      split
      · next retired =>
        refine startRightFree_refused ?_
        rcases outside with h | h <;> simp [startCheck, firstFailing, present, retired, h]
      · next serving =>
        dsimp only
        rw [retireStep_done j outside (Bool.eq_false_iff.mpr serving)]
        refine ⟨⟨work_ended (work := runRetire st) (fun _ => by simp) fun _ => by simp, fun others => ?_⟩,
          runRetire_stepRec st (leavePosted j s), fun o tm ho hk hp vc hs hi hl hc hh => ?_⟩
        · exact finishSlot_executing (runRetire_oe (s := leavePosted j s) others)
        · have hu : o.unpulsed = true := by
            rw [unpulsed_close hk]
            exact decide_eq_true hp
          obtain ⟨lane, schedule, syncWait, arb, ours, _⟩ :=
            runRetire_ends (s := leavePosted j s) ho hu hi hs hl hc hh
          exact ⟨lane, schedule, syncWait, arb, (ours vc).2, finishSlot_executing (ours vc).1⟩
    · next inside => exact startRightFree_refused (by simp_all [startCheck, firstFailing])
  case reinstateStep =>
    split
    · next serving => exact startRightFree_refused (by simp [startCheck, firstFailing, present, serving])
    · next retired =>
      rw [Bool.not_eq_false] at retired
      split
      · next direct => exact startRightFree_refused (by simp [startCheck, firstFailing, present, retired, direct])
      · next controlled =>
        rw [Bool.not_eq_true] at controlled
        split
        · next elsewhere =>
          exact startRightFree_refused (by simp [startCheck, firstFailing, present, retired, controlled, elsewhere])
        · next opened =>
          rw [not_not] at opened
          dsimp only
          rw [reinstateStep_done j retired controlled opened]
          refine ⟨⟨work_ended (work := runReinstate st) (fun _ => by simp) fun _ => by simp, fun others => ?_⟩,
            runReinstate_stepRec st (leavePosted j s), runReinstate_cooldown st (leavePosted j s)⟩
          exact finishSlot_executing (runReinstate_oe (s := leavePosted j s) others)

end Sys2Proof.Proofs

namespace Sys2Proof.Proofs

open Sys2Proof.Machine Sys2Proof.Safety Sys2Proof.Laws

/-! ### A trip pulse of a step that is CLOSED (R86, R138, R150) -/

section

variable {i : StepId} {s : State}

theorem disarm_eq (i : StepId) (s : State) :
    disarm i s = interruptLearning i ((clearStages i s).modUnb i fun u => { u with armed := false, armCount := 0 }) :=
  rfl

/-- With the engine IDLE a disarming has no order to end. -/
theorem disarm_idle (he : s.oe.executing = none) : (disarm i s).oe = s.oe := by
  rw [disarm_eq, interruptLearning_idle (by simp [he])]
  simp

/-- A disarming ends the learning that the engine's order makes (R150). -/
theorem disarm_failed {j : SlotId} (h : (s.unb i).learning ≠ none) (he : s.oe.executing = some j) :
    LearningFailed j (disarm i s) :=
  interruptLearning_some (by simpa [clearStages_unb] using h) (by simp [he])

theorem windowAtUnit_congr {s t : State} (rx : t.rx = s.rx) (mu : t.mu = s.mu) : WindowAtUnit t ↔ WindowAtUnit s := by
  rw [← dueFor_ub_good, ← dueFor_ub_good, dueFor, rx, mu, dueFor]

/-- All that follows a trip pulse of a CLOSED step, beside its lane and its record, is its departure (R138). -/
theorem startTripPulse_departs (o : Operation) (closed : (s.stepRec i).state = .closed) :
    startTripPulse i o s = leaveClosed i (relisted i .opening (tripPulsed i o s)) := by
  have left : ((tripPulsed i o s).stepRec i).state = .closed := by rwa [tripPulsed_stepRec, if_pos rfl]
  rw [startTripPulse_eq, moveStep_eq, left]
  exact (tripPulsed_quiet i o s).watch (by simp [leaveState, enterState])

/-- What a departure from CLOSED does to the unit's record and to the order engine (R138, R150, log 37). -/
structure Departed (i : StepId) (s t : State) : Prop where
  order : (s.unb i).learning = none ∨ s.oe.executing = none ∨ WindowAtUnit s → t.oe = s.oe
  noted : WindowAtUnit s → t.unb i = { s.unb i with departed := true }
  disarmed : ¬WindowAtUnit s → t.unb i = disarmedUnb (s.unb i)
  failed : ∀ j, ¬WindowAtUnit s → (s.unb i).learning ≠ none → s.oe.executing = some j → LearningFailed j t

theorem leaveClosed_departed (i : StepId) (s : State) : Departed i s (leaveClosed i s) := by
  rcases leaveClosed_cases i s with ⟨window, eq⟩ | ⟨none_there, eq⟩ <;> rw [eq]
  · exact ⟨fun _ => rfl, fun _ => State.modUnb_unb_self i (fun u => { u with departed := true }) s,
      fun h => absurd window h, fun _ h => absurd window h⟩
  · refine ⟨?_, fun h => absurd h none_there, fun _ => ?_, fun j _ => disarm_failed⟩
    · rintro (h | h | h)
      · exact disarm_oe h
      · exact disarm_idle h
      · exact absurd h none_there
    · rw [disarm_unb_of, if_pos rfl]

theorem startTripPulse_departed (o : Operation) (closed : (s.stepRec i).state = .closed) :
    Departed i s (startTripPulse i o s) := by
  rw [startTripPulse_departs o closed]
  have frame : (relisted i .opening (tripPulsed i o s)).rx = s.rx ∧
      (relisted i .opening (tripPulsed i o s)).mu = s.mu ∧
      (relisted i .opening (tripPulsed i o s)).ub = s.ub ∧ (relisted i .opening (tripPulsed i o s)).oe = s.oe := by
    simp [tripPulsed]
  generalize relisted i .opening (tripPulsed i o s) = r at *
  obtain ⟨rx, mu, ub, oe⟩ := frame
  have window := windowAtUnit_congr rx mu
  have unb := unb_congr ub i
  obtain ⟨order, noted, disarmed, failed⟩ := leaveClosed_departed i r
  rw [unb, oe, window] at order
  rw [unb, window] at noted disarmed
  rw [unb, oe, window] at failed
  exact ⟨order, noted, disarmed, failed⟩

/-! ### A voluntary open under the right (R85, R86) -/

/-- An open of a CLOSED step under part control starts its pulse. -/
theorem takeOpen_pulse (src : Requester) (closed : (s.stepRec i).state = .closed) (part : (s.lines i).direct = false) :
    takeOpen i src s = startTripPulse i ⟨.trip, src, .inMotion, true⟩ { s with arb.busy := .inOperation } :=
  if_pos ⟨closed, part⟩

/-- Any other ends PREEMPTED, NOT_CLOSED, with the right free (R85). -/
theorem takeOpen_ends (src : Requester) (h : (s.stepRec i).state ≠ .closed ∨ (s.lines i).direct = true) :
    takeOpen i src s =
      freeRight (endReport src .preempted (some .notClosed) { s with arb.busy := .inOperation }) := by
  refine if_neg fun both => ?_
  rcases h with h | h
  · exact h both.1
  · exact Bool.noConfusion (h.symm.trans both.2)

end

end Sys2Proof.Proofs

namespace Sys2Proof.Proofs

open Sys2Proof.Machine Sys2Proof.Safety Sys2Proof.Laws

/-! ### A lone order that can start, with the right free (R93, R167) -/

/-- The one order of the pool is a switching order that is startable, the engine is IDLE, the right is free and
voltage control asks for nothing (R93, R163, R167). -/
structure LoneOrder (j : SlotId) (k : OrderKind) (i : StepId) (s : State) : Prop where
  posted : s.oe.posted = [j]
  idle : s.oe.executing = none
  free : s.arb.busy = .notBusy
  quiet : s.arb.vcRequest = .absent
  switching : k.switching = true
  ready : startable s [] j = some (k, i)

/-- The state in which the engine holds the right and the order waits no longer (R93, R155). -/
def taken (j : SlotId) (s : State) : State :=
  leavePosted j { s with arb := ⟨.oe, s.arb.busy, s.arb.vcRequest, false⟩ }

/-- The state in which the engine hands the order to the sequencer (R167). -/
def begun (j : SlotId) (s : State) : State := beginExecuting j (taken j s)

section

variable {j : SlotId} {k : OrderKind} {i : StepId} {s : State}

theorem LoneOrder.oldest (h : LoneOrder j k i s) (switching : Bool) :
    oldestStartable s switching [] s.oe.posted = if switching = true then some ⟨j, k, i⟩ else none := by
  rw [h.posted]
  cases switching <;> simp [oldestStartable, h.ready, h.switching]

/-- The engine has no right-free order to start and asks for the right. -/
theorem LoneOrder.reexamine (h : LoneOrder j k i s) : reexamine s = { s with arb.oeRequest := true } := by
  have still : startFree s.oe.posted.length s = s := by
    rw [h.posted]
    simp [startFree, h.idle, h.oldest]
  have wants : wantsRight s = true := by simp [wantsRight, h.idle, h.oldest]
  simp only [Machine.reexamine, still, wants]

/-- The rounds that are left find nothing to do. -/
theorem settleLoop_quiet {u : State} (posted : u.oe.posted = []) (request : u.arb.vcRequest = .absent)
    (oe : u.arb.oeRequest = false) : settleLoop 2 u = u := by
  have quiet := settle_of_quiet u posted request oe
  rwa [settle, posted] at quiet

theorem LoneOrder.settle (h : LoneOrder j k i s) :
    settle s = settleLoop 2
      (match startCheck s k i with
       | some r => finishSlot j .refused (some r) (taken j s)
       | none => handOver ⟨j, k, i⟩ (taken j s)) := by
  have wins : winner { s.arb with oeRequest := true } = some .oe := by simp [winner, h.free, h.quiet]
  have same : SameOrders s { s with arb.holder := .oe, arb.oeRequest := false } := .of_parts rfl rfl rfl
  have granted : grant .oe { s with arb.oeRequest := true } =
      match startCheck s k i with
      | some r => finishSlot j .refused (some r) (taken j s)
      | none => handOver ⟨j, k, i⟩ (taken j s) := by
    have oldest := (same.oldestStartable true).trans (h.oldest true)
    simp only [grant, h.posted, List.length_singleton, oeGranted, h.idle] at oldest ⊢
    rw [oldest]
    rfl
  have rounds : Machine.settle s = settleLoop 3 s := by simp [Machine.settle, h.posted]
  rw [rounds, settleLoop, h.reexamine, ← granted]
  simp only [wins]

end

end Sys2Proof.Proofs

namespace Sys2Proof.Proofs

open Sys2Proof.Machine Sys2Proof.Safety Sys2Proof.Laws

/-! ### A lone order that is refused, or whose work begins (R76, R167, R169, R170) -/

/-- A lone order has ended REFUSED, and the right that was granted for it is free (R167, R168). -/
def Refused (j : SlotId) (why : Reason) (s t : State) : Prop :=
  t.oe.posted = [] ∧ t.oe.executing = none ∧
  (t.slot j).state = .finished ∧ (t.slot j).outcome = some .refused ∧ (t.slot j).reason = some why ∧
  (t.slot j).finishedAt = some s.clock.seconds ∧ t.arb = ⟨.oe, .notBusy, .absent, false⟩ ∧
  t.tbl = s.tbl ∧ t.seq = s.seq

/-- A lone order is EXECUTING and waits no longer, under the right that the engine holds (R155, R167). -/
def UnderWay (j : SlotId) (s t : State) : Prop :=
  t.oe.posted = [] ∧ t.oe.executing = some j ∧
  t.slot j = { s.slot j with state := .executing, notBeforeTimer := none, deadlineTimer := none } ∧
  t.arb = ⟨.oe, .inOperation, .absent, false⟩

section

variable {j : SlotId} {k : OrderKind} {i : StepId} {s : State}

theorem LoneOrder.taken_posted (h : LoneOrder j k i s) : (taken j s).oe.posted = [] := by
  show s.oe.posted.filter (· ≠ j) = []
  simp [h.posted]

theorem LoneOrder.taken_arb (h : LoneOrder j k i s) : (taken j s).arb = ⟨.oe, .notBusy, .absent, false⟩ := by
  show Arbiter.mk _ s.arb.busy s.arb.vcRequest _ = _
  rw [h.free, h.quiet]

/-- A failing check ends the order and the right stays free (R167). -/
theorem LoneOrder.refused (h : LoneOrder j k i s) {why : Reason} (fails : startCheck s k i = some why) :
    Refused j why s (Machine.settle s) := by
  have posted := h.taken_posted
  have arb := h.taken_arb
  have rest : settleLoop 2 (finishSlot j .refused (some why) (taken j s)) =
      finishSlot j .refused (some why) (taken j s) :=
    settleLoop_quiet posted (congrArg Arbiter.vcRequest arb) (congrArg Arbiter.oeRequest arb)
  have own : (finishSlot j .refused (some why) (taken j s)).slot j =
      { (taken j s).slot j with
        state := .finished, outcome := some .refused, reason := some why, finishedAt := some s.clock.seconds,
        notBeforeTimer := none, deadlineTimer := none } := State.modSlot_slot_self ..
  rw [h.settle, fails]
  dsimp only
  rw [rest]
  refine ⟨posted, h.idle, ?_, ?_, ?_, ?_, arb, rfl, rfl⟩ <;> rw [own]

/-- Work of the sequencer that leaves the engine and takes the right has begun an order (R167). -/
theorem LoneOrder.underWay (h : LoneOrder j k i s) {t : State} (oe : t.oe = (begun j s).oe)
    (arb : t.arb = { (begun j s).arb with busy := .inOperation }) : UnderWay j s t := by
  have own : (begun j s).slot j =
      { s.slot j with state := .executing, notBeforeTimer := none, deadlineTimer := none } := by
    simp [begun, beginExecuting, taken, leavePosted, State.slot, State.modSlot]
  have right : (begun j s).arb = ⟨.oe, .notBusy, .absent, false⟩ := h.taken_arb
  have slot : t.slot j = (begun j s).slot j := congrArg (fun e : OrderEngine => look e.slots j) oe
  refine ⟨?_, ?_, slot.trans own, by rw [arb, right]⟩
  · rw [oe]
    exact h.taken_posted
  · rw [oe]
    rfl

/-- With the checks passed the sequencer's work is all there is (R167). -/
theorem LoneOrder.begins (h : LoneOrder j k i s) {t : State} (passes : startCheck s k i = none)
    (work : handOver ⟨j, k, i⟩ (taken j s) = t) (under : UnderWay j s t) : Machine.settle s = t := by
  obtain ⟨posted, -, -, arb⟩ := under
  rw [h.settle, passes]
  dsimp only
  rw [work]
  exact settleLoop_quiet posted (by rw [arb]) (by rw [arb])

/-- The sequencer sees the step, its lane and its unit's record as they were before the grant. -/
theorem begun_frame (j : SlotId) (s : State) :
    (begun j s).tbl = s.tbl ∧ (begun j s).seq = s.seq ∧ (begun j s).ub = s.ub ∧ (begun j s).hs = s.hs ∧
    (begun j s).io = s.io ∧ (begun j s).cfg = s.cfg ∧ (begun j s).rx = s.rx :=
  ⟨rfl, rfl, rfl, rfl, rfl, rfl, rfl⟩

/-! ### An OPEN order (R86, R170) -/

/-- The pulse of an operation has begun on a step, and no other step has changed (R48). -/
def PulseBegun (j : SlotId) (i : StepId) (new : StepState) (l : Lane) (s t : State) : Prop :=
  UnderWay j s t ∧ (t.stepRec i).state = new ∧ (t.stepRec i).lastSource = .order ∧ t.lane i = l ∧
  ∀ n, n ≠ i → t.stepRec n = s.stepRec n ∧ t.lane n = s.lane n

theorem LoneOrder.opens (h : LoneOrder j .openStep i s) (closed : (s.stepRec i).state = .closed)
    (serving : (s.stepRec i).retired = false) (part : (s.lines i).direct = false)
    (unlearned : (s.unb i).learning = none) :
    PulseBegun j i .opening
      ⟨some ⟨.trip, .oe, .inMotion, true⟩, 0, s.cfg.yard.tripPulse, some s.cfg.yard.confirmTime⟩ s
      (Machine.settle s) := by
  let u : State := { begun j s with arb.busy := .inOperation }
  let o : Operation := ⟨.trip, .oe, .inMotion, true⟩
  have work : handOver ⟨j, .openStep, i⟩ (taken j s) = startTripPulse i o u := takeOpen_pulse .oe closed part
  have recs (n : StepId) : (startTripPulse i o u).stepRec n = _ := startTripPulse_stepRec i n o u
  have lanes (n : StepId) : (startTripPulse i o u).lane n = _ := startTripPulse_lane i n o u
  have own := recs i
  rw [if_pos rfl] at own
  have under : UnderWay j s (startTripPulse i o u) :=
    h.underWay ((startTripPulse_departed (s := u) o closed).order (.inl unlearned)) (startTripPulse_still i o u).1
  rw [h.begins (by simp [startCheck, firstFailing, closed, serving]) work under]
  refine ⟨under, ?_, ?_, ?_, fun n hn => ⟨?_, ?_⟩⟩
  · rw [own]
    cases (u.stepRec i).state <;> rfl
  · rw [own]
    cases (u.stepRec i).state <;> rfl
  · rw [lanes, if_pos rfl]
    rfl
  · rw [recs, if_neg hn]
    rfl
  · rw [lanes, if_neg hn]
    rfl

/-! ### A CLOSE order (R76, R78 to R81, R169) -/

theorem handOver_close (j : SlotId) (i : StepId) {tm : Timing} (s : State) (ht : timingOf (s.slot j).timing = some tm) :
    handOver ⟨j, .closeStep, i⟩ (taken j s) = takeClose i .oe tm (begun j s) := by
  have own : ((taken j s).slot j).timing = (s.slot j).timing := by
    simp [taken, leavePosted, State.slot, State.modSlot]
  simp only [handOver, own, ht]
  rfl

/-- The order's close with its sync wait timer, as the sequencer has taken it (R75, R80). -/
def orderClose (j : SlotId) (i : StepId) (tm : Timing) (w : Option Nat) (s : State) : State :=
  { takenClose i .oe tm (begun j s) with seq.syncWait := w }

theorem orderClose_lane (tm : Timing) (w : Option Nat) (n : StepId) :
    (orderClose j i tm w s).lane n =
      if n = i then { s.lane i with op := some ⟨.close tm, .oe, .awaitingValid, true⟩ } else s.lane n :=
  State.modLane_lane i n (fun l => { l with op := some ⟨.close tm, .oe, .awaitingValid, true⟩ }) (begun j s)

/-- A close pulse that starts at once for the order (R81). -/
theorem LoneOrder.closes (h : LoneOrder j .closeStep i s) {tm : Timing} {w : Option Nat}
    (passes : startCheck s .closeStep i = none) (opened : (s.stepRec i).state = .opened)
    (work : handOver ⟨j, .closeStep, i⟩ (taken j s) = startClosePulse i (orderClose j i tm w s)) :
    PulseBegun j i .closing ⟨some ⟨.close tm, .oe, .inMotion, true⟩, s.cfg.yard.closePulse, (s.lane i).tripPulse,
      some s.cfg.yard.confirmTime⟩ s (Machine.settle s) ∧
    (Machine.settle s).hs = { s.hs with snapshot := some ⟨i, s.hs.dv⟩ } := by
  have lane := orderClose_lane (j := j) (i := i) (s := s) tm w
  have op : ((orderClose j i tm w s).lane i).op = some ⟨.close tm, .oe, .awaitingValid, true⟩ := by
    rw [lane, if_pos rfl]
  have pulsed := startClosePulse_pulsed op opened
  have under : UnderWay j s (startClosePulse i (orderClose j i tm w s)) := h.underWay pulsed.oe pulsed.arb
  rw [h.begins passes work under]
  refine ⟨⟨under, pulsed.state, pulsed.source, ?_, fun n hn => ⟨pulsed.others n hn, ?_⟩⟩, pulsed.hs⟩
  · rw [pulsed.lane, if_pos rfl, lane, if_pos rfl]
    rfl
  · rw [pulsed.lane, if_neg hn, lane, if_neg hn]

/-- The conditions of R76 stand where a CLOSE order's checks pass and nothing makes it wait (R76, R163, R169). -/
structure CloseReady (i : StepId) (s : State) : Prop where
  opened : (s.stepRec i).state = .opened
  serving : (s.stepRec i).retired = false
  part : (s.lines i).direct = false
  unlocked : (s.stepRec i).lockout = none
  cooled : (s.stepRec i).cooling = false
  held : (s.stepRec i).holdoff = false
  free : s.io.inp0.level = false

theorem CloseReady.passes (c : CloseReady i s) : startCheck s .closeStep i = none := by
  simp [startCheck, firstFailing, StepState.isFaulted, c.opened, c.serving, c.part, c.unlocked]

theorem CloseReady.clear (c : CloseReady i s) : closeBar s i = none :=
  closeBar_none c.free c.opened c.unlocked c.cooled c.held c.serving c.part

/-- An IMMEDIATE close starts its pulse (R78). -/
theorem handOver_immediate (c : CloseReady i s)
    (timing : timingOf (s.slot j).timing = some .immediate) :
    handOver ⟨j, .closeStep, i⟩ (taken j s) =
      startClosePulse i (orderClose j i .immediate s.seq.syncWait s) := by
  have bar : closeBar (takenClose i .oe .immediate (begun j s)) i = none := c.clear
  rw [handOver_close j i s timing, takeClose_eq, bar]
  exact tryClosePulse_clear bar

/-- A SYNCHRONIZED close goes on by the measurement state, its sync wait running (R79, R80). -/
theorem handOver_synchronized (c : CloseReady i s)
    (timing : timingOf (s.slot j).timing = some .synchronized) :
    handOver ⟨j, .closeStep, i⟩ (taken j s) =
      synchronizeClose i .oe (orderClose j i .synchronized (some s.cfg.yard.syncWait) s) := by
  have bar : closeBar (begun j s) i = none := c.clear
  rw [handOver_close j i s timing, takeClose_synchronized bar]
  rfl

/-- A SYNCHRONIZED close whose pulse frame is the current one starts its pulse (R79). -/
theorem handOver_now (c : CloseReady i s)
    (timing : timingOf (s.slot j).timing = some .synchronized) (valid : s.rx.meas = .valid)
    (now : pulseDelay s.rx.wave.toNat (mechFrames (s.stepCfg i).mechTime s.cfg.yard.nominalFrequency) = 0) :
    handOver ⟨j, .closeStep, i⟩ (taken j s) =
      startClosePulse i (orderClose j i .synchronized (some s.cfg.yard.syncWait) s) := by
  have bar : closeBar (orderClose j i .synchronized (some s.cfg.yard.syncWait) s) i = none := c.clear
  rw [handOver_synchronized c timing]
  exact (if_pos valid).trans (scheduleClose_now now bar)

/-- A SYNCHRONIZED close is held in a phase, its sync wait running (R79, R80). -/
def CloseHeld (j : SlotId) (i : StepId) (ph : Phase) (s t : State) : Prop :=
  UnderWay j s t ∧ t.tbl = s.tbl ∧ t.seq.syncWait = some s.cfg.yard.syncWait ∧
  t.lane i = { s.lane i with op := some ⟨.close .synchronized, .oe, ph, true⟩ }

/-- A SYNCHRONIZED close whose pulse frame lies ahead is SCHEDULED (R79). -/
theorem LoneOrder.scheduled (h : LoneOrder j .closeStep i s) (c : CloseReady i s)
    (timing : timingOf (s.slot j).timing = some .synchronized) (valid : s.rx.meas = .valid)
    (ahead : pulseDelay s.rx.wave.toNat (mechFrames (s.stepCfg i).mechTime s.cfg.yard.nominalFrequency) ≠ 0) :
    CloseHeld j i .scheduled s (Machine.settle s) ∧
    (Machine.settle s).seq.schedule = some ⟨s.rx.frameNumber + BitVec.ofNat 32
      (pulseDelay s.rx.wave.toNat (mechFrames (s.stepCfg i).mechTime s.cfg.yard.nominalFrequency)), i⟩ := by
  have work := handOver_close j i s timing
  obtain ⟨lane, schedule, syncWait, arb, tbl, oe, -⟩ :=
    (takeClose_synchronizes (s := begun j s) .oe c.clear c.opened).ahead valid ahead
  have under : UnderWay j s (takeClose i .oe .synchronized (begun j s)) := h.underWay oe arb
  rw [h.begins c.passes work under]
  exact ⟨⟨under, tbl, syncWait, lane⟩, schedule⟩

/-- Without VALID measurement an order's SYNCHRONIZED close waits (R80). -/
theorem LoneOrder.awaits (h : LoneOrder j .closeStep i s) (c : CloseReady i s)
    (timing : timingOf (s.slot j).timing = some .synchronized) (lost : s.rx.meas ≠ .valid) :
    CloseHeld j i .awaitingValid s (Machine.settle s) := by
  have work := handOver_close j i s timing
  obtain ⟨lane, -, syncWait, arb, tbl, oe, -⟩ :=
    (takeClose_synchronizes (s := begun j s) .oe c.clear c.opened).waits lost rfl
  have under : UnderWay j s (takeClose i .oe .synchronized (begun j s)) := h.underWay oe arb
  rw [h.begins c.passes work under]
  exact ⟨under, tbl, syncWait, lane⟩

end

end Sys2Proof.Proofs

namespace Sys2Proof.Proofs

open Sys2Proof.Machine Sys2Proof.Safety Sys2Proof.Laws

/-! ### A grant to voltage control (R93, R107) -/

/-- The right as voltage control holds it after a grant, its request gone (R93). -/
def vcHolds (s : State) : State := { s with arb.holder := .vc, arb.vcRequest := .absent }

section

variable {s : State}

theorem grant_vc_fast (due : s.vc.fastDue = true) :
    grant .vc s =
      match s.tbl.closedOrder with
      | [] => vcRelease { vcHolds s with vc.fastDue := false }
      | i :: _ => takeOpen i .vc (vcOperating { vcHolds s with vc.fastDue := false }) := by
  simp only [grant, vcGranted, due, if_true]
  rfl

/-- Voltage control may select an add candidate (R107, log 34). -/
def AddAllowed (s : State) : Prop :=
  s.vc.auto = true ∧ s.rx.meas = .valid ∧ s.hs.vActive = false ∧ s.vc.deadAcc = 0 ∧ s.io.inp0.level = false

/-- Voltage control may select a remove candidate (R107, log 34). -/
def RemoveAllowed (s : State) : Prop := s.vc.auto = true ∧ s.rx.meas = .valid

theorem addAllowed_iff :
    (s.vc.auto && decide (s.rx.meas = .valid) && !s.hs.vActive && !deadCondition s.vc && !closeInhibit s) = true ↔
      AddAllowed s := by
  simp [AddAllowed, deadCondition, closeInhibit, and_assoc]

theorem removeAllowed_iff : (s.vc.auto && decide (s.rx.meas = .valid)) = true ↔ RemoveAllowed s := by
  simp [RemoveAllowed]

/-- Below the band voltage control adds the candidate, if it may and there is one (R104, R107). -/
theorem grant_vc_low (fast : s.vc.fastDue = false) (low : s.vc.lowReached = true) :
    (¬AddAllowed s → grant .vc s = vcRelease (vcHolds s)) ∧
    (AddAllowed s →
      (addCandidate s = none → grant .vc s = vcRelease (noteSelection none (vcHolds s))) ∧
      ∀ i, addCandidate s = some i →
        grant .vc s = takeClose i .vc .synchronized (vcOperating (noteSelection (some i) (vcHolds s)))) := by
  have candidate : addCandidate (vcHolds s) = addCandidate s := rfl
  have again (c : Option StepId) : addCandidate (noteSelection c (vcHolds s)) = addCandidate s := rfl
  have work : grant .vc s = vcGranted (vcHolds s) := rfl
  have later : (vcHolds s).vc.fastDue = false ∧ (vcHolds s).vc.lowReached = true := ⟨fast, low⟩
  rw [work, vcGranted, later.1, if_neg Bool.false_ne_true, if_pos later.2]
  refine ⟨fun barred => if_neg (mt addAllowed_iff.mp barred), fun allowed => ?_⟩
  have may := addAllowed_iff (s := vcHolds s).mpr allowed
  refine ⟨fun none_there => ?_, fun i found => ?_⟩
  · rw [if_pos may]
    dsimp only
    rw [candidate, none_there, again, none_there]
  · rw [if_pos may]
    dsimp only
    rw [candidate, found, again, found]

/-- Above the band it removes the candidate, if it may and there is one (R104, R107). -/
theorem grant_vc_high (fast : s.vc.fastDue = false) (low : s.vc.lowReached = false)
    (high : s.vc.highReached = true) :
    (¬RemoveAllowed s → grant .vc s = vcRelease (vcHolds s)) ∧
    (RemoveAllowed s →
      (removeCandidate s = none → grant .vc s = vcRelease (noteSelection none (vcHolds s))) ∧
      ∀ i, removeCandidate s = some i →
        grant .vc s = takeOpen i .vc (vcOperating (noteSelection (some i) (vcHolds s)))) := by
  have candidate : removeCandidate (vcHolds s) = removeCandidate s := rfl
  have again (c : Option StepId) : removeCandidate (noteSelection c (vcHolds s)) = removeCandidate s := rfl
  have work : grant .vc s = vcGranted (vcHolds s) := rfl
  have later : (vcHolds s).vc.fastDue = false ∧ (vcHolds s).vc.lowReached = false ∧
      (vcHolds s).vc.highReached = true := ⟨fast, low, high⟩
  rw [work, vcGranted, later.1, if_neg Bool.false_ne_true, later.2.1, if_neg Bool.false_ne_true, if_pos later.2.2]
  refine ⟨fun barred => if_neg (mt removeAllowed_iff.mp barred), fun allowed => ?_⟩
  have may := removeAllowed_iff (s := vcHolds s).mpr allowed
  refine ⟨fun none_there => ?_, fun i found => ?_⟩
  · rw [if_pos may]
    dsimp only
    rw [candidate, none_there, again, none_there]
  · rw [if_pos may]
    dsimp only
    rw [candidate, found, again, found]

theorem grant_vc_idle (fast : s.vc.fastDue = false) (low : s.vc.lowReached = false)
    (high : s.vc.highReached = false) : grant .vc s = vcRelease (vcHolds s) := by
  simp only [grant, vcGranted, fast, low, high, Bool.false_eq_true, if_false]
  rfl

end

/-! ### An open under the right (R85, R86) -/

section

variable {i : StepId} {s : State}

/-- An open that starts its pulse: the right, the step, its lane and its departure (R48, R86, R138). -/
theorem takeOpen_started {src : Requester} (closed : (s.stepRec i).state = .closed)
    (part : (s.lines i).direct = false) :
    (let t := takeOpen i src s
     t.vc = s.vc ∧ t.arb = { s.arb with busy := .inOperation } ∧ (t.stepRec i).state = .opening ∧
     (t.stepRec i).lastSource = sourceOf src ∧
     t.lane i = ⟨some ⟨.trip, src, .inMotion, true⟩, 0, s.cfg.yard.tripPulse, some s.cfg.yard.confirmTime⟩ ∧
     (∀ k, k ≠ i → t.stepRec k = s.stepRec k ∧ t.lane k = s.lane k) ∧ Departed i s t) := by
  let o : Operation := ⟨.trip, src, .inMotion, true⟩
  let u : State := { s with arb.busy := .inOperation }
  have work : takeOpen i src s = startTripPulse i o u := takeOpen_pulse src closed part
  have recs (n : StepId) : (startTripPulse i o u).stepRec n = _ := startTripPulse_stepRec i n o u
  have lanes (n : StepId) : (startTripPulse i o u).lane n = _ := startTripPulse_lane i n o u
  have own := recs i
  rw [if_pos rfl] at own
  obtain ⟨arb, vc, -⟩ := startTripPulse_still i o u
  obtain ⟨order, noted, disarmed, failed⟩ := startTripPulse_departed (s := u) o closed
  dsimp only
  rw [work]
  refine ⟨vc, arb, ?_, ?_, ?_, fun n hn => ⟨?_, ?_⟩, ⟨order, noted, disarmed, failed⟩⟩
  · rw [own]
    cases (u.stepRec i).state <;> rfl
  · rw [own]
    cases (u.stepRec i).state <;> rfl
  · rw [lanes, if_pos rfl]
    rfl
  · rw [recs, if_neg hn]
    rfl
  · rw [lanes, if_neg hn]
    rfl

/-- An open that ends PREEMPTED changes no step and no lane, and its requester has its report (R75, R85). -/
theorem takeOpen_preempted {src : Requester} (h : (s.stepRec i).state ≠ .closed ∨ (s.lines i).direct = true) :
    (let t := takeOpen i src s
     t.arb = { s.arb with busy := .notBusy } ∧ t.tbl = s.tbl ∧ t.seq = s.seq ∧
     Reported src .preempted (some .notClosed) s t) := by
  dsimp only
  rw [takeOpen_ends src h]
  have report := endReport_reported src .preempted (some .notClosed) { s with arb.busy := .inOperation }
  have frame : (endReport src .preempted (some .notClosed) { s with arb.busy := .inOperation }).tbl = s.tbl ∧
      (endReport src .preempted (some .notClosed) { s with arb.busy := .inOperation }).seq = s.seq ∧
      { (endReport src .preempted (some .notClosed) { s with arb.busy := .inOperation }).arb with
        busy := Busy.notBusy } = { s.arb with busy := .notBusy } := by simp
  generalize endReport src .preempted (some .notClosed) { s with arb.busy := .inOperation } = t at *
  obtain ⟨tbl, seq, arb⟩ := frame
  refine ⟨arb, tbl, seq, ⟨fun e => ?_, fun e => ?_, fun e => ?_⟩⟩
  · exact report.vc e
  · exact report.oe e
  · exact report.protection e

end

/-- A step that is neither CLOSING nor OPENING, with nothing else in its way, lets its lone order start (R163). -/
theorem startable_alone {j : SlotId} {k : OrderKind} {i : StepId} {s : State}
    (kind : orderKindOf (s.slot j).kind = some k) (names : (s.slot j).step.toNat = i.val)
    (due : (s.slot j).notBeforeTimer = none) (idle : s.oe.executing = none)
    (still : (s.stepRec i).state ≠ .closing ∧ (s.stepRec i).state ≠ .opening)
    (ready : k = .closeStep →
      (s.stepRec i).cooling = false ∧ (s.stepRec i).holdoff = false ∧ s.io.inp0.level = false) :
    startable s [] j = some (k, i) := by
  simpa [startable, kind, stepOfByte_of_val names, due, earlierOrder, idle, stepBusy, still, closeInhibit] using ready

/-- Of the station link the consequences of an event reach the alarm set alone. -/
theorem settle_link (s : State) : (settle s).link = { s.link with alarms := (settle s).link.alarms } := by
  have frame : (settle s).link.rxBytes = s.link.rxBytes ∧ (settle s).link.rxBits = s.link.rxBits ∧
      (settle s).link.tx = s.link.tx ∧ (settle s).link.composed = s.link.composed ∧
      (settle s).link.ready = s.link.ready ∧ (settle s).link.overrun = s.link.overrun ∧
      (settle s).link.pubCount = s.link.pubCount ∧ (settle s).link.dataOut = s.link.dataOut ∧
      (settle s).link.ignoring = s.link.ignoring := by simp
  generalize (settle s).link = l at *
  cases l
  simp_all

/-- Settles O57: a lone order's grant from its first round on, the cases of R107 and R85, and what `settle` leaves. -/
theorem grantedWorkReachesTheSequencer : Obligations.GrantedWorkReachesTheSequencer := by
  unfold Obligations.GrantedWorkReachesTheSequencer
  refine ⟨fun j i s posted idle names due free quiet unlearned => ?_, fun s => ?_, fun i src s hsrc => ?_,
    settle_of_quiet, fun s => ?_⟩
  · have lone {k : OrderKind} (switching : k.switching = true) (kind : orderKindOf (s.slot j).kind = some k)
        (still : (s.stepRec i).state ≠ .closing ∧ (s.stepRec i).state ≠ .opening)
        (ready : k = .closeStep →
          (s.stepRec i).cooling = false ∧ (s.stepRec i).holdoff = false ∧ s.io.inp0.level = false) :
        LoneOrder j k i s :=
      ⟨posted, idle, free, quiet, switching, startable_alone kind names due idle still ready⟩
    have close (kind : (s.slot j).kind = 1) (cooled : (s.stepRec i).cooling = false)
        (held : (s.stepRec i).holdoff = false) (free : s.io.inp0.level = false)
        (still : (s.stepRec i).state ≠ .closing ∧ (s.stepRec i).state ≠ .opening) : LoneOrder j .closeStep i s :=
      lone rfl (by rw [kind]; rfl) still fun _ => ⟨cooled, held, free⟩
    refine ⟨fun kind => ?_, fun kind timing cooled held free => ?_,
      fun kind timing cooled held free opened serving part unlocked => ?_⟩
    · have opening (still : (s.stepRec i).state ≠ .closing ∧ (s.stepRec i).state ≠ .opening) :
          LoneOrder j .openStep i s := lone rfl (by rw [kind]; rfl) still nofun
      refine ⟨fun closed serving part => ?_, fun closed retired => ?_, fun present elsewhere still still' => ?_⟩
      · obtain ⟨⟨gone, executing, slot, arb⟩, state, source, lane, others⟩ :=
          (opening (by simp [closed])).opens closed serving part unlearned
        exact ⟨⟨gone, executing, slot, arb, source, others⟩, state, lane⟩
      · exact (opening (by simp [closed])).refused (by simp [startCheck, firstFailing, closed, retired])
      · exact (opening ⟨still, still'⟩).refused (by simp [startCheck, firstFailing, present, elsewhere])
    · refine ⟨fun opened serving part unlocked => ?_, fun unknown => ?_, fun ⟨c, faulted⟩ => ?_,
        fun closed => ?_, fun opened direct => ?_, fun opened part retired => ?_,
        fun opened part serving locked => ?_⟩
      · have ready : CloseReady i s := ⟨opened, serving, part, unlocked, cooled, held, free⟩
        have work := handOver_immediate (j := j) ready (by rw [timing]; rfl)
        obtain ⟨⟨⟨gone, executing, slot, arb⟩, state, source, lane, others⟩, hs⟩ :=
          (close kind cooled held free (by simp [opened])).closes ready.passes opened work
        exact ⟨⟨gone, executing, slot, arb, source, others⟩, state, lane, hs⟩
      · exact (close kind cooled held free (by simp [unknown])).refused (by simp [startCheck, firstFailing, unknown])
      · exact (close kind cooled held free (by simp [faulted])).refused
          (by simp [startCheck, firstFailing, StepState.isFaulted, faulted])
      · exact (close kind cooled held free (by simp [closed])).refused
          (by simp [startCheck, firstFailing, StepState.isFaulted, closed])
      · exact (close kind cooled held free (by simp [opened])).refused
          (by simp [startCheck, firstFailing, StepState.isFaulted, opened, direct])
      · exact (close kind cooled held free (by simp [opened])).refused
          (by simp [startCheck, firstFailing, StepState.isFaulted, opened, part, retired])
      · exact (close kind cooled held free (by simp [opened])).refused
          (by simp [startCheck, firstFailing, StepState.isFaulted, opened, part, serving, Option.isSome_iff_ne_none,
            locked])
    · have ready : CloseReady i s := ⟨opened, serving, part, unlocked, cooled, held, free⟩
      have order := close kind cooled held free (by simp [opened])
      have synchronized : timingOf (s.slot j).timing = some .synchronized := by rw [timing]; rfl
      refine ⟨fun valid ahead => ?_, fun valid now => ?_, fun lost => ?_⟩
      · obtain ⟨⟨⟨gone, executing, slot, arb⟩, tbl, syncWait, lane⟩, schedule⟩ :=
          order.scheduled ready synchronized valid ahead
        exact ⟨⟨gone, executing, slot, arb, tbl, syncWait, lane⟩, schedule⟩
      · have work := handOver_now (j := j) ready synchronized valid now
        obtain ⟨⟨⟨gone, executing, slot, arb⟩, state, source, lane, others⟩, -⟩ :=
          order.closes ready.passes opened work
        exact ⟨⟨gone, executing, slot, arb, source, others⟩, state, lane⟩
      · obtain ⟨⟨gone, executing, slot, arb⟩, tbl, syncWait, lane⟩ := order.awaits ready synchronized lost
        exact ⟨gone, executing, slot, arb, tbl, syncWait, lane⟩
  · refine ⟨fun fast => ?_, fun fast low => ?_, fun fast low high => ?_, grant_vc_idle⟩
    · rw [grant_vc_fast fast]
      exact ⟨fun empty => by rw [empty]; rfl, fun i rest first => by rw [first]; rfl⟩
    · obtain ⟨barred, allowed⟩ := grant_vc_low fast low
      exact ⟨barred, fun may => (allowed may).1, fun i may => (allowed may).2 i⟩
    · obtain ⟨barred, allowed⟩ := grant_vc_high fast low high
      exact ⟨barred, fun may => (allowed may).1, fun i may => (allowed may).2 i⟩
  · refine ⟨fun closed part => ?_, fun h => ?_⟩
    · obtain ⟨vc, arb, state, source, lane, others, order, noted, disarmed, failed⟩ :=
        takeOpen_started (src := src) closed part
      refine ⟨vc, arb, state, source, lane, others, order, noted, fun j there learning busy => ?_⟩
      obtain ⟨idle, ended⟩ := failed j there learning busy
      exact ⟨by rw [disarmed there]; rfl, idle, ended⟩
    · obtain ⟨arb, tbl, seq, report⟩ := takeOpen_preempted (src := src) h
      refine ⟨arb, tbl, seq, report.vc, fun e => ?_⟩
      obtain ⟨vc, -, ended⟩ := report.oe e
      exact ⟨vc, ended⟩
  · refine ⟨by simp, by simp, by simp, by simp, by simp, by simp, by simp, settle_link s⟩

end Sys2Proof.Proofs

namespace Sys2Proof.Proofs

open Sys2Proof.Machine Sys2Proof.Safety Sys2Proof.Laws

/-! ### What the unit's own work leaves as it is -/

/-- The steps, the sequencer, the window end in hand, the lines and the yard settings are the same. -/
structure BesideUnit (s t : State) : Prop where
  tbl : t.tbl = s.tbl
  seq : t.seq = s.seq
  rx : t.rx = s.rx
  mu : t.mu = s.mu
  io : t.io = s.io
  yard : t.cfg.yard = s.cfg.yard

theorem BesideUnit.refl (s : State) : BesideUnit s s := ⟨rfl, rfl, rfl, rfl, rfl, rfl⟩

theorem BesideUnit.trans {s t u : State} (h : BesideUnit s t) (h' : BesideUnit t u) : BesideUnit s u :=
  ⟨h'.tbl.trans h.tbl, h'.seq.trans h.seq, h'.rx.trans h.rx, h'.mu.trans h.mu, h'.io.trans h.io, h'.yard.trans h.yard⟩

section

variable (i : StepId) (s : State)

theorem alarmEdge_frame (k : AlarmKind) (sub : Subject) (was now : Bool) :
    (alarmEdge k sub was now s).ub = s.ub ∧ (alarmEdge k sub was now s).cfg = s.cfg ∧
    BesideUnit s (alarmEdge k sub was now s) := by
  unfold alarmEdge
  (repeat' split) <;> exact ⟨by simp, by simp, by simp, by simp, by simp, by simp, by simp, by simp⟩

theorem beside_modUnb (f : Unbalance → Unbalance) : BesideUnit s (s.modUnb i f) := ⟨rfl, rfl, rfl, rfl, rfl, rfl⟩

theorem beside_armStep : BesideUnit s (armStep i s) := by
  unfold armStep
  split
  · exact beside_modUnb i s _
  · exact .refl s

theorem beside_interruptLearning : BesideUnit s (interruptLearning i s) :=
  ⟨by simp, by simp, by simp, by simp, by simp, by simp⟩

theorem beside_completeLearning (sumRe sumIm : Int) : BesideUnit s (completeLearning i sumRe sumIm s) := by
  rw [completeLearning_eq]
  exact ⟨by simp [storedBaseline], by simp [storedBaseline], by simp [storedBaseline], by simp [storedBaseline],
    by simp [storedBaseline], by simp [storedBaseline]⟩

theorem beside_takeDeparture : BesideUnit s (takeDeparture i s) :=
  ⟨by simp, by simp, by simp, by simp, by simp, by simp⟩

/-! ### The window in a learning (R148 to R150) -/

/-- A step's record with its stages cleared (R143, R145, R149). -/
def stagesCleared (u : Unbalance) : Unbalance :=
  { u with alarmCount := 0, alarmActive := false, tripTiming := false, tripCount := 0 }

/-- What a window does to a step by its learning: a completed one clears the stages, with the entry of
UNBALANCE_ALARM (R145, R148 to R150). -/
structure Learnt (i : StepId) (whole : Bool) (s t : State) : Prop where
  unb : ∃ l : Option Learning,
    t.unb i = { (if whole = true then stagesCleared (s.unb i) else s.unb i) with learning := l }
  alarms : t.link.alarms =
    droppedIf (whole && (s.unb i).alarmActive) .unbalanceAlarm (.step i) s.link.alarms
  beside : BesideUnit s t

theorem interruptLearning_learnt : Learnt i false s (interruptLearning i s) where
  unb := ⟨none, interruptLearning_unb i s⟩
  alarms := by simp
  beside := beside_interruptLearning i s

theorem completeLearning_learnt (sumRe sumIm : Int) : Learnt i true s (completeLearning i sumRe sumIm s) where
  unb := by
    have own := clearStages_unb i i (storedBaseline i sumRe sumIm s)
    rw [if_pos rfl] at own
    have ub : (completeLearning i sumRe sumIm s).ub =
        ((clearStages i (storedBaseline i sumRe sumIm s)).modUnb i fun u => { u with learning := none }).ub := by
      rw [completeLearning_eq]
      simp
    refine ⟨none, (unb_congr ub i).trans ((State.modUnb_unb_self i (fun u => { u with learning := none }) _).trans ?_)⟩
    rw [own]
    rfl
  alarms := by
    have link : (completeLearning i sumRe sumIm s).link = (clearStages i (storedBaseline i sumRe sumIm s)).link := by
      rw [completeLearning_eq]
      simp
    rw [link, clearStages_eq]
    rfl
  beside := beside_completeLearning i s sumRe sumIm

/-- A learning is complete only with its sixteenth window (R149). -/
theorem learnWindow_learnt : ∃ whole : Bool, Learnt i whole s (learnWindow i s) ∧
    (whole = true → ∃ l, (s.unb i).learning = some l ∧ l.count = 15) := by
  unfold learnWindow
  split
  · exact ⟨false, ⟨⟨(s.unb i).learning, rfl⟩, by simp, .refl s⟩, nofun⟩
  · next l hl =>
    dsimp only
    split
    · exact ⟨false, interruptLearning_learnt i s, nofun⟩
    · split
      · next count => exact ⟨true, completeLearning_learnt i s _ _, fun _ => ⟨l, hl, Nat.succ.inj count⟩⟩
      · refine ⟨false, ⟨⟨_, State.modUnb_unb_self i _ s⟩, by simp, beside_modUnb i s _⟩, nofun⟩

/-! ### The stages of an armed step (R141, R142, R145) -/

/-- A step's record after u and its alarm stage (R139, R141). -/
def alarmStaged (u : Nat) (c : StepSettings) (x : Unbalance) : Unbalance :=
  let r := alarmStage (some u) c.unbAlarm c.unbAlarmDelay x.alarmCount x.alarmActive
  { x with lastU := u, alarmCount := r.1, alarmActive := r.2 }

/-- The state after both stages of an armed step that is not TRIPPED (R141, R142). -/
def staged : State :=
  (ubAlarm i (stepU s i) (s.modUnb i fun x => { x with lastU := stepU s i })).modUnb i
    (ubTripStage (stepU s i) (s.stepCfg i))

/-- A trip is due at this window (R142). -/
def TripDue : Prop :=
  (s.stepCfg i).unbTrip ≤ stepU s i ∧
  min ((s.unb i).tripCount + 1) (s.stepCfg i).unbTripDelay = (s.stepCfg i).unbTripDelay

/-- The alarm stage after this window (R141). -/
def stageOf : Nat × Bool :=
  alarmStage (some (stepU s i)) (s.stepCfg i).unbAlarm (s.stepCfg i).unbAlarmDelay (s.unb i).alarmCount
    (s.unb i).alarmActive

theorem ubAlarm_frame (u : Nat) : (ubAlarm i u s).cfg = s.cfg ∧ BesideUnit s (ubAlarm i u s) :=
  ⟨(alarmEdge_frame ..).2.1, (beside_modUnb i s _).trans (alarmEdge_frame ..).2.2⟩

theorem staged_frame : (staged i s).cfg = s.cfg ∧ BesideUnit s (staged i s) := by
  obtain ⟨cfg, beside⟩ := ubAlarm_frame i (s.modUnb i fun x => { x with lastU := stepU s i }) (stepU s i)
  exact ⟨cfg, ((beside_modUnb i s _).trans beside).trans (beside_modUnb i _ _)⟩

theorem staged_unb : (staged i s).unb i =
    ubTripStage (stepU s i) (s.stepCfg i) (alarmStaged (stepU s i) (s.stepCfg i) (s.unb i)) := by
  have lastU := State.modUnb_unb_self i (fun x => { x with lastU := stepU s i }) s
  unfold staged ubAlarm
  rw [State.modUnb_unb_self, unb_congr (alarmEdge_frame ..).1, State.modUnb_unb_self, lastU]
  rfl

/-- The alarm set after the notice of an alarm state that goes from one level to another (R121, R145). -/
def edgedAlarms (k : AlarmKind) (sub : Subject) (was now : Bool) (time : Word) (as : List AlarmEntry) :
    List AlarmEntry :=
  if (now && !was) = true then raiseIn time k sub false as else droppedIf (was && !now) k sub as

theorem alarmEdge_alarms {k : AlarmKind} (hk : k.latching = false) (sub : Subject) (was now : Bool) :
    (alarmEdge k sub was now s).link.alarms = edgedAlarms k sub was now s.clock.seconds s.link.alarms := by
  cases now with
  | false =>
    rw [alarmEdge_off hk]
    simp [edgedAlarms]
  | true =>
    cases was with
    | false => exact State.modAlarms_alarms ..
    | true => simp [edgedAlarms, alarmEdge]

theorem staged_alarms : (staged i s).link.alarms =
    edgedAlarms .unbalanceAlarm (.step i) (s.unb i).alarmActive (stageOf i s).2 s.clock.seconds s.link.alarms := by
  have lastU := State.modUnb_unb_self i (fun x => { x with lastU := stepU s i }) s
  refine (alarmEdge_alarms _ rfl _ _ _).trans ?_
  rw [lastU]
  rfl

/-! ### The evaluation of both stages (R139, R142, R143) -/

theorem ubDue_iff (u : Nat) (c : StepSettings) (x : Unbalance) :
    ubDue u c (ubTripStage u c (alarmStaged u c x)) = true ↔
      c.unbTrip ≤ u ∧ min (x.tripCount + 1) c.unbTripDelay = c.unbTripDelay := by
  by_cases reached : c.unbTrip ≤ u
  · simp [ubDue, ubTripStage, alarmStaged, reached]
  · simp [ubDue, reached]

theorem ubStages_unarmed (h : (s.unb i).armed = false) : ubStages i s = (s, false) := by simp [ubStages, h]

theorem ubStages_tripped (armed : (s.unb i).armed = true) (tripped : (s.unb i).tripped = true) :
    ubStages i s = (s.modUnb i fun x => { x with lastU := stepU s i }, false) := by
  have lastU := State.modUnb_unb_self i (fun x => { x with lastU := stepU s i }) s
  simp [ubStages, armed, lastU, tripped]

theorem ubStages_staged (armed : (s.unb i).armed = true) (untripped : (s.unb i).tripped = false) :
    (TripDue i s → ubStages i s = (ubTrip i (staged i s), true)) ∧
    (¬TripDue i s → ubStages i s = (staged i s, false)) := by
  have lastU := State.modUnb_unb_self i (fun x => { x with lastU := stepU s i }) s
  have cfg : (staged i s).stepCfg i = s.stepCfg i := by rw [State.stepCfg, (staged_frame i s).1, State.stepCfg]
  have due : ubDue (stepU s i) ((staged i s).stepCfg i) ((staged i s).unb i) = true ↔ TripDue i s := by
    rw [cfg, staged_unb, ubDue_iff, TripDue]
  have eq : ubStages i s =
      if ubDue (stepU s i) ((staged i s).stepCfg i) ((staged i s).unb i) then (ubTrip i (staged i s), true)
      else (staged i s, false) := by
    unfold ubStages
    dsimp only
    rw [if_pos armed, lastU, untripped, if_neg Bool.false_ne_true]
    rfl
  rw [eq]
  exact ⟨fun h => if_pos (due.mpr h), fun h => if_neg (mt due.mp h)⟩

end

end Sys2Proof.Proofs

namespace Sys2Proof.Proofs

open Sys2Proof.Machine Sys2Proof.Safety Sys2Proof.Laws

/-! ### A trip is made (R143, log 14) -/

section

variable (i : StepId) (s : State)

theorem startTripPulse_unb (o : Operation) : (startTripPulse i o s).unb i = leftUnb (s.stepRec i).state i s := by
  have own : ((tripPulsed i o s).stepRec i).state = (s.stepRec i).state := by rw [tripPulsed_stepRec, if_pos rfl]
  rw [startTripPulse_eq, moveStep_unb, if_pos rfl, own]
  rfl

theorem startTripPulse_alarms (o : Operation) :
    (startTripPulse i o s).link.alarms = leftAlarms (s.stepRec i).state i s := by
  have own : ((tripPulsed i o s).stepRec i).state = (s.stepRec i).state := by rw [tripPulsed_stepRec, if_pos rfl]
  rw [startTripPulse_eq, moveStep_alarms, own]
  rfl

/-- A protective open reaches the unit as a departure from CLOSED, or not at all (R89, R90, R138). -/
theorem protectiveOpen_unit : protectiveOpen i s = s ∨
    ((s.stepRec i).state = .closed ∨ (s.stepRec i).state = .closing) ∧
    (protectiveOpen i s).unb i = leftUnb (s.stepRec i).state i s ∧
    (protectiveOpen i s).link.alarms = leftAlarms (s.stepRec i).state i s := by
  by_cases closing : (s.stepRec i).state = .closing
  · refine .inr ⟨.inr closing, ?_⟩
    cases ho : (s.lane i).op with
    | none =>
      rw [protectiveOpen_closing_bare closing ho]
      exact ⟨startTripPulse_unb i s _, startTripPulse_alarms i s _⟩
    | some o =>
      rw [protectiveOpen_closing closing ho]
      have report : (endReport o.source .preempted none (startTripPulse i (protectiveTrip o.underRight) s)).ub =
          (startTripPulse i (protectiveTrip o.underRight) s).ub ∧
          (endReport o.source .preempted none (startTripPulse i (protectiveTrip o.underRight) s)).link =
          (startTripPulse i (protectiveTrip o.underRight) s).link := by simp
      obtain ⟨ub, link⟩ := report
      exact ⟨(unb_congr ub i).trans (startTripPulse_unb i s _),
        (congrArg Link.alarms link).trans (startTripPulse_alarms i s _)⟩
  by_cases closed : (s.stepRec i).state = .closed
  · rw [protectiveOpen_closed closed]
    split
    · exact .inl rfl
    · exact .inr ⟨.inl closed, startTripPulse_unb i s _, startTripPulse_alarms i s _⟩
  · exact .inl (protectiveOpen_other closed closing)

/-- What a departure leaves of a step's record, at once or behind a window end (R138, log 37). -/
def LeftUnb (u v : Unbalance) : Prop := v = u ∨ v = disarmedUnb u ∨ v = { u with departed := true }

theorem leftUnb_left (old : StepState) : LeftUnb (s.unb i) (leftUnb old i s) := by
  unfold leftUnb
  split
  · split
    · exact .inr (.inl rfl)
    · exact .inr (.inr rfl)
  · exact .inl rfl

/-- No alarm state stands, so no entry goes with the departure (R138, R145). -/
theorem leftAlarms_inactive {old : StepState} (h : old = .closed ∨ old = .closing)
    (inactive : (s.unb i).alarmActive = false) :
    leftAlarms old i s = s.link.alarms := by
  rcases h with rfl | rfl
  · simp [leftAlarms, inactive]
  · rfl

/-- The LOCKOUT and the protective open of a trip, for a step whose stages are cleared (R54, R89, R143). -/
structure TripMade (i : StepId) (s t : State) : Prop where
  alarms : t.link.alarms = s.link.alarms
  lockout : (t.stepRec i).lockout = some ((s.stepRec i).lockout.getD .unbalance)
  unb : LeftUnb (s.unb i) (t.unb i)
  away : (s.stepRec i).state ≠ .closed → t.unb i = s.unb i
  still : (s.stepRec i).state ≠ .closed → (s.stepRec i).state ≠ .closing →
    t.stepRec i = { s.stepRec i with lockout := some ((s.stepRec i).lockout.getD .unbalance) } ∧
    (t.lane i).tripPulse = (s.lane i).tripPulse ∧ (t.lane i).confirm = (s.lane i).confirm
  opens : (s.stepRec i).state = .closed → (s.lines i).direct = false →
    (t.stepRec i).state = .opening ∧ (t.lane i).tripPulse = s.cfg.yard.tripPulse ∧
    (¬WindowAtUnit s → t.unb i = disarmedUnb (s.unb i))
  direct : (s.stepRec i).state = .closed → (s.lines i).direct = true →
    (t.stepRec i).state = .closed ∧ t.unb i = s.unb i

/-- The watch ends a close and leaves the lane's pulses and its confirmation (R77). -/
theorem watchClose_lane : ((watchClose i s).lane i).tripPulse = (s.lane i).tripPulse ∧
    ((watchClose i s).lane i).confirm = (s.lane i).confirm := by
  unfold watchClose
  split
  · exact ⟨rfl, rfl⟩
  · split
    · split
      · exact ⟨rfl, rfl⟩
      · rw [abandonClose_lane, if_pos rfl]
        exact ⟨rfl, rfl⟩
    · exact ⟨rfl, rfl⟩

theorem addLockout_stepRec (r : LockoutReason) :
    (addLockout i r s).stepRec i = { s.stepRec i with lockout := some ((s.stepRec i).lockout.getD r) } :=
  (watchClose_stepRec i i _).trans
    (State.modStep_stepRec_self i (fun c => { c with lockout := some (c.lockout.getD r) }) s)

theorem ubTripOut_made (inactive : (s.unb i).alarmActive = false) : TripMade i s (ubTripOut i s) := by
  have record := addLockout_stepRec i s .unbalance
  have lane := watchClose_lane i (s.modStep i fun c => { c with lockout := some (c.lockout.getD .unbalance) })
  have frame : (addLockout i .unbalance s).ub = s.ub ∧ (addLockout i .unbalance s).link = s.link ∧
      (addLockout i .unbalance s).io = s.io ∧ (addLockout i .unbalance s).cfg = s.cfg ∧
      (addLockout i .unbalance s).rx = s.rx ∧ (addLockout i .unbalance s).mu = s.mu := by simp
  change ((addLockout i .unbalance s).lane i).tripPulse = (s.lane i).tripPulse ∧
    ((addLockout i .unbalance s).lane i).confirm = (s.lane i).confirm at lane
  unfold ubTripOut
  generalize addLockout i .unbalance s = l at *
  obtain ⟨ub, link, io, cfg, rx, mu⟩ := frame
  have own : l.unb i = s.unb i := unb_congr ub i
  have state : (l.stepRec i).state = (s.stepRec i).state := by rw [record]
  have lines : l.lines i = s.lines i := by rw [State.lines, io, State.lines]
  have unit := protectiveOpen_unit i l
  have left := leftUnb_left i l (l.stepRec i).state
  rw [own] at left
  have lockout : ((protectiveOpen i l).stepRec i).lockout = (l.stepRec i).lockout := by
    rcases protectiveOpen_cases i l with same | trip
    · rw [same]
    · rw [trip.own]
  refine ⟨?_, lockout.trans (by rw [record]), ?_, fun away => ?_, fun closed closing => ?_, fun closed part => ?_,
    fun closed direct => ?_⟩
  · rcases unit with same | ⟨states, -, alarms⟩
    · rw [same, link]
    · rw [alarms, leftAlarms_inactive i l states (by rw [own, inactive]), link]
  · rcases unit with same | ⟨-, unb, -⟩
    · exact .inl (by rw [same, own])
    · rw [unb]
      exact left
  · rcases unit with same | ⟨-, unb, -⟩
    · rw [same, own]
    · rw [unb, leftUnb, if_neg (by rwa [state]), own]
  · rw [protectiveOpen_other (by rwa [state]) (by rwa [state]), record]
    exact ⟨rfl, lane⟩
  · have trip := protectiveOpen_tripped (s := l) (.inl ⟨by rw [state, closed], by rw [lines, part]⟩)
    refine ⟨by rw [trip.own], by rw [trip.lane, if_pos rfl, cfg]; rfl, fun none_there => ?_⟩
    rcases unit with same | ⟨-, unb, -⟩
    · have moved := congrArg (fun t : State => (t.stepRec i).state) same
      simp [trip.own, state, closed] at moved
    · have now : departsNow .closed l = true := (departsNow_iff l).mpr (mt (windowAtUnit_congr rx mu).mp none_there)
      rw [unb, state, closed, leftUnb, if_pos rfl, now, if_pos rfl, own]
  · have same : protectiveOpen i l = l := by
      rw [protectiveOpen_closed (by rw [state, closed]), lines, direct, if_pos rfl]
    rw [same, state]
    exact ⟨closed, own⟩

end

end Sys2Proof.Proofs

namespace Sys2Proof.Proofs

open Sys2Proof.Machine Sys2Proof.Safety Sys2Proof.Laws

/-! ### The entries of UNBALANCE_ALARM (R145, R199) -/

section

variable {k : AlarmKind} {sub : Subject}

theorem entriesOf_dropped_true (as : List AlarmEntry) : entriesOf k sub (droppedIf true k sub as) = [] := by
  simp [entriesOf, droppedIf]

theorem entriesOf_dropped_nil {b : Bool} {as : List AlarmEntry} (h : entriesOf k sub as = []) :
    entriesOf k sub (droppedIf b k sub as) = [] := by
  cases b with
  | false => rwa [droppedIf_false]
  | true => exact entriesOf_dropped_true as

theorem alarmAbsent_iff {s : State} : AlarmAbsent k sub s ↔ entriesOf k sub s.link.alarms = [] := by
  simp [AlarmAbsent, entriesOf]

/-- An edge to inactive drops the entry (R145). -/
theorem edgedAlarms_falls (time : Word) (as : List AlarmEntry) :
    entriesOf k sub (edgedAlarms k sub true false time as) = [] := entriesOf_dropped_true as

theorem edgedAlarms_same (now : Bool) (time : Word) (as : List AlarmEntry) :
    edgedAlarms k sub now now time as = as := by
  cases now <;> simp [edgedAlarms]

theorem edgedAlarms_rises (time : Word) (as : List AlarmEntry) :
    edgedAlarms k sub false true time as = raiseIn time k sub false as := rfl

theorem edgedAlarms_filter {p : AlarmEntry → Bool} (hp : Passes p k sub) (was now : Bool) (time : Word)
    (as : List AlarmEntry) : (edgedAlarms k sub was now time as).filter p = as.filter p := by
  unfold edgedAlarms
  split
  · exact raiseIn_filter hp ..
  · exact droppedIf_filter hp ..

theorem alarmStands_of_raised {s : State} {time : Word} {cut : Bool} {as : List AlarmEntry}
    (h : s.link.alarms = raiseIn time k sub cut as) : AlarmStands k sub s := by
  obtain ⟨e, he, kind, subject, fresh, -⟩ := raiseIn_mem time k sub cut as
  exact ⟨e, h ▸ he, kind, subject, fresh⟩

end

/-! ### A step that is armed (R137) -/

section

variable {i : StepId} {s : State}

theorem armStep_armed (h : (s.unb i).armed = true) : armStep i s = s := by simp [armStep, h]

theorem armStep_idle (closed : (s.stepRec i).state ≠ .closed) (here : (s.unb i).departed = false) :
    armStep i s = s := by simp [armStep, closed, here]

theorem armStep_counts (h : (s.unb i).armed = false)
    (closed : (s.stepRec i).state = .closed ∨ (s.unb i).departed = true) :
    armStep i s = s.modUnb i fun u => { u with
      armCount := min (u.armCount + 1) 10, armed := decide (10 ≤ u.armCount + 1) } := by simp [armStep, h, closed]

theorem armStep_unb (closed : (s.stepRec i).state = .closed ∨ (s.unb i).departed = true) :
    (armStep i s).unb i =
      if (s.unb i).armed = true then s.unb i
      else { s.unb i with
        armCount := min ((s.unb i).armCount + 1) 10, armed := decide (10 ≤ (s.unb i).armCount + 1) } := by
  split
  · next h => rw [armStep_armed h]
  · next h => rw [armStep_counts (Bool.eq_false_iff.mpr h) closed, State.modUnb_unb_self]

/-- A window that makes no learning and finds the step unarmed and without a departure ends with the arming (R137). -/
theorem ubStep_unarmed (unarmed : ((armStep i s).unb i).armed = false)
    (unlearned : ((armStep i s).unb i).learning = none)
    (here : ((armStep i s).unb i).departed = false) : ubStep i s = armStep i s := by
  have window : learnWindow i (armStep i s) = armStep i s := by simp [learnWindow, unlearned]
  simp only [ubStep, ubStages_unarmed i _ unarmed, window, takeDeparture_none here, Bool.false_eq_true, if_false]

/-- The evaluation goes by what the arming leaves. -/
theorem ubStep_congr {s' : State} (h : armStep i s' = armStep i s) : ubStep i s' = ubStep i s := by
  simp only [ubStep, h]

end

end Sys2Proof.Proofs

namespace Sys2Proof.Proofs

open Sys2Proof.Machine Sys2Proof.Safety Sys2Proof.Laws

/-! ### What the evaluation of a step's stages comes to (R139) -/

section

variable (i : StepId) (s : State)

theorem ubTrip_unb : (ubTrip i s).unb i = { stagesCleared (s.unb i) with tripped := true } := by
  have own := clearStages_unb i i s
  rw [if_pos rfl] at own
  refine (State.modUnb_unb_self i (fun x => { x with tripped := true }) (clearStages i s)).trans ?_
  rw [own]
  rfl

theorem ubTrip_alarms : ∃ time, (ubTrip i s).link.alarms =
    raiseIn time .unbalanceTrip (.step i) false
      (droppedIf (s.unb i).alarmActive .unbalanceAlarm (.step i) s.link.alarms) := by
  refine ⟨_, (State.modAlarms_alarms ..).trans (congrArg _ ?_)⟩
  rw [clearStages_eq]
  rfl

theorem beside_ubTrip : BesideUnit s (ubTrip i s) :=
  ⟨by simp [ubTrip], by simp [ubTrip], by simp [ubTrip], by simp [ubTrip], by simp [ubTrip], by simp [ubTrip]⟩

/-- The record of an armed step after its stages, up to the stages themselves (R139). -/
structure StagesKept (u v : Unbalance) : Prop where
  armed : v.armed = u.armed
  armCount : v.armCount = u.armCount
  learning : v.learning = u.learning
  departed : v.departed = u.departed

theorem ubTripStage_kept (u : Nat) (c : StepSettings) (x : Unbalance) :
    StagesKept x (ubTripStage u c x) ∧ (ubTripStage u c x).lastU = x.lastU ∧
    (ubTripStage u c x).tripped = x.tripped ∧ (ubTripStage u c x).alarmCount = x.alarmCount ∧
    (ubTripStage u c x).alarmActive = x.alarmActive := by
  unfold ubTripStage
  (repeat' split) <;> exact ⟨⟨rfl, rfl, rfl, rfl⟩, rfl, rfl, rfl, rfl⟩

/-- The record after both stages: u, the alarm stage, and the tripped flag as it was (R141). -/
structure StagedUnb (i : StepId) (s : State) (v : Unbalance) : Prop where
  kept : StagesKept (s.unb i) v
  lastU : v.lastU = stepU s i
  tripped : v.tripped = (s.unb i).tripped
  alarm : (v.alarmCount, v.alarmActive) = stageOf i s

theorem staged_stagedUnb : StagedUnb i s ((staged i s).unb i) := by
  rw [staged_unb]
  obtain ⟨⟨armed, armCount, learning, departed⟩, lastU, tripped, alarmCount, alarmActive⟩ :=
    ubTripStage_kept (stepU s i) (s.stepCfg i) (alarmStaged (stepU s i) (s.stepCfg i) (s.unb i))
  exact ⟨⟨armed, armCount, learning, departed⟩, lastU, tripped, Prod.ext alarmCount alarmActive⟩

/-- What the stages leave of a step, and what a trip brings (R139, R143). -/
structure Evaluated (i : StepId) (s : State) (r : State × Bool) : Prop where
  kept : StagesKept (s.unb i) (r.1.unb i)
  beside : BesideUnit s r.1
  lastU : (s.unb i).armed = true → (r.1.unb i).lastU = stepU s i
  trips : r.2 = true ↔ (s.unb i).armed = true ∧ (s.unb i).tripped = false ∧ TripDue i s
  tripped : (r.1.unb i).tripped = ((s.unb i).tripped || r.2)
  stands : r.2 = true → AlarmStands .unbalanceTrip (.step i) r.1
  told : (s.unb i).alarmActive = true ∨ entriesOf .unbalanceAlarm (.step i) s.link.alarms = [] →
    (r.1.unb i).alarmActive = true ∨ entriesOf .unbalanceAlarm (.step i) r.1.link.alarms = []

theorem passes_entriesOf {k k' : AlarmKind} (h : k' ≠ k) (sub sub' : Subject) :
    Passes (fun e => decide (e.kind = k ∧ e.subject = sub)) k' sub' := fun _ own _ =>
  decide_eq_false fun both => h (own.symm.trans both.1)

/-- An alarm state that stands has its entry told of by its end: where it is no longer active no entry stands. -/
theorem staged_told (h : (s.unb i).alarmActive = true ∨ entriesOf .unbalanceAlarm (.step i) s.link.alarms = []) :
    ((staged i s).unb i).alarmActive = true ∨
      entriesOf .unbalanceAlarm (.step i) (staged i s).link.alarms = [] := by
  have active : ((staged i s).unb i).alarmActive = (stageOf i s).2 := congrArg Prod.snd (staged_stagedUnb i s).alarm
  rw [active, staged_alarms]
  cases (stageOf i s).2 with
  | true => exact .inl rfl
  | false =>
    refine .inr ?_
    cases was : (s.unb i).alarmActive with
    | true => exact edgedAlarms_falls ..
    | false =>
      rw [edgedAlarms_same]
      exact h.resolve_left (by simp [was])

theorem ubTrip_told (h : (s.unb i).alarmActive = true ∨ entriesOf .unbalanceAlarm (.step i) s.link.alarms = []) :
    entriesOf .unbalanceAlarm (.step i) (ubTrip i s).link.alarms = [] := by
  obtain ⟨time, alarms⟩ := ubTrip_alarms i s
  rw [alarms, entriesOf, raiseIn_filter (passes_entriesOf (by decide) _ _)]
  rcases h with active | empty
  · rw [active]
    exact entriesOf_dropped_true _
  · exact entriesOf_dropped_nil empty

theorem ubStages_evaluated : Evaluated i s (ubStages i s) := by
  have same : StagesKept (s.unb i) (s.unb i) := ⟨rfl, rfl, rfl, rfl⟩
  cases armed : (s.unb i).armed with
  | false =>
    rw [ubStages_unarmed i s armed]
    exact ⟨same, .refl s, by simp [armed], by simp [armed], by simp, nofun, id⟩
  | true =>
    cases tripped : (s.unb i).tripped with
    | true =>
      have own := State.modUnb_unb_self i (fun x => { x with lastU := stepU s i }) s
      rw [ubStages_tripped i s armed tripped]
      have beside := beside_modUnb i s fun x => { x with lastU := stepU s i }
      refine ⟨?_, beside, fun _ => ?_, by simp [tripped], ?_, nofun, ?_⟩ <;> rw [own]
      · exact ⟨rfl, rfl, rfl, rfl⟩
      · exact (Bool.or_false _).symm
      · exact id
    | false =>
      obtain ⟨due, quiet⟩ := ubStages_staged i s armed tripped
      obtain ⟨kept, lastU, same_tripped, -⟩ := staged_stagedUnb i s
      have beside := (staged_frame i s).2
      by_cases h : TripDue i s
      · have own := ubTrip_unb i (staged i s)
        obtain ⟨time, alarms⟩ := ubTrip_alarms i (staged i s)
        rw [due h]
        refine ⟨?_, beside.trans (beside_ubTrip i _), fun _ => ?_, by simp [armed, tripped, h], ?_,
          fun _ => alarmStands_of_raised alarms, fun told => .inr (ubTrip_told i _ (staged_told i s told))⟩
        · rw [own]
          exact ⟨kept.armed, kept.armCount, kept.learning, kept.departed⟩
        · rw [own]
          exact lastU
        · rw [own]
          exact (Bool.or_true _).symm
      · rw [quiet h]
        exact ⟨kept, beside, fun _ => lastU, by simp [h], by rw [same_tripped, Bool.or_false], nofun, staged_told i s⟩

end

end Sys2Proof.Proofs

namespace Sys2Proof.Proofs

open Sys2Proof.Machine Sys2Proof.Safety Sys2Proof.Laws

/-! ### A step that has just left CLOSED (R138, R143, log 37) -/

section

variable {i : StepId} {s t : State} {whole : Bool}

/-- An alarm state that stands, or no entry: so after the learning too (R145, R149). -/
theorem Learnt.told (h : Learnt i whole s t)
    (told : (s.unb i).alarmActive = true ∨ entriesOf .unbalanceAlarm (.step i) s.link.alarms = []) :
    (t.unb i).alarmActive = true ∨ entriesOf .unbalanceAlarm (.step i) t.link.alarms = [] := by
  obtain ⟨⟨l, unb⟩, alarms, -⟩ := h
  rw [unb, alarms]
  rcases told with active | empty
  · cases whole with
    | false => exact .inl active
    | true =>
      rw [active]
      exact .inr (entriesOf_dropped_true _)
  · exact .inr (entriesOf_dropped_nil empty)

theorem Learnt.kept (h : Learnt i whole s t) :
    (t.unb i).tripped = (s.unb i).tripped ∧ (t.unb i).lastU = (s.unb i).lastU ∧
    (t.unb i).armed = (s.unb i).armed ∧ (t.unb i).armCount = (s.unb i).armCount ∧
    (t.unb i).departed = (s.unb i).departed := by
  obtain ⟨⟨l, unb⟩, -, -⟩ := h
  rw [unb]
  cases whole <;> exact ⟨rfl, rfl, rfl, rfl, rfl⟩

theorem Learnt.stands (h : Learnt i whole s t) (stands : AlarmStands .unbalanceTrip (.step i) s) :
    AlarmStands .unbalanceTrip (.step i) t := by
  refine (alarmStands_congr ?_).mpr stands
  rw [h.alarms]
  exact droppedIf_filter (passes_entriesOf (by decide) _ _) ..

/-- The state in which the window has been taken into a learning and the departure after it (R138, R139). -/
def windowTaken (i : StepId) (s : State) : State := takeDeparture i (learnWindow i (ubStages i (armStep i s)).1)

theorem ubStep_eq (i : StepId) (s : State) : ubStep i s =
    if (ubStages i (armStep i s)).2 = true then ubTripOut i (windowTaken i s) else windowTaken i s := rfl

/-- The arming changes no figure that the stages read but `armed` itself (R137). -/
theorem armStep_figures (i : StepId) (s : State) :
    stepU (armStep i s) i = stepU s i ∧ (TripDue i (armStep i s) ↔ TripDue i s) ∧
    (armStep i s).link = s.link ∧
    ((armStep i s).unb i).alarmActive = (s.unb i).alarmActive ∧ ((armStep i s).unb i).tripped = (s.unb i).tripped ∧
    ((armStep i s).unb i).departed = (s.unb i).departed ∧ ((armStep i s).unb i).learning = (s.unb i).learning ∧
    ((s.unb i).armed = true → ((armStep i s).unb i).armed = true) ∧
    ((s.unb i).armed = false → (s.unb i).armCount < 9 → ((armStep i s).unb i).armed = false) := by
  unfold armStep
  split
  · next unarmed =>
    have own := State.modUnb_unb_self i (fun u => { u with
      armCount := min (u.armCount + 1) 10, armed := decide (10 ≤ u.armCount + 1) }) s
    rw [TripDue, own]
    exact ⟨rfl, Iff.rfl, rfl, rfl, rfl, rfl, rfl, fun armed => by simp [armed] at unarmed, fun _ few =>
      decide_eq_false (by omega)⟩
  · exact ⟨rfl, Iff.rfl, rfl, rfl, rfl, rfl, rfl, id, fun h _ => h⟩

/-- What an evaluation leaves of a step whose departure it takes (R138, R139, R143). -/
structure DepartureTaken (i : StepId) (s t : State) : Prop where
  unb : ∃ f u, t.unb i = ⟨false, 0, 0, false, false, 0, f, u, none, false⟩ ∧
    f = ((s.unb i).tripped || (ubStages i (armStep i s)).2) ∧ ((s.unb i).armed = true → u = stepU s i)
  beside : BesideUnit s t
  absent : (s.unb i).alarmActive = true → AlarmAbsent .unbalanceAlarm (.step i) t
  stands : (ubStages i (armStep i s)).2 = true → AlarmStands .unbalanceTrip (.step i) t

theorem windowTaken_departed (departed : (s.unb i).departed = true) (left : (s.stepRec i).state ≠ .closed) :
    DepartureTaken i s (windowTaken i s) := by
  obtain ⟨u, -, link, active, tripped, departs, -, arms, -⟩ := armStep_figures i s
  obtain ⟨kept, beside, lastU, -, flag, stands, told⟩ := ubStages_evaluated i (armStep i s)
  obtain ⟨whole, learnt, -⟩ := learnWindow_learnt i (ubStages i (armStep i s)).1
  have all := ((beside_armStep i s).trans beside).trans learnt.beside
  obtain ⟨tripped', lastU', -, -, departed'⟩ := learnt.kept
  have told' := fun h => learnt.told (told h)
  have stands' := fun h => learnt.stands (stands h)
  unfold windowTaken
  generalize learnWindow i (ubStages i (armStep i s)).1 = w at *
  have gone : (w.unb i).departed = true := by rw [departed', kept.departed, departs, departed]
  have away : (w.stepRec i).state ≠ .closed := by rwa [stepRec_congr (congrArg StepTable.recs all.tbl)]
  have own := takeDeparture_unb away
  rw [if_pos gone] at own
  have alarms := takeDeparture_alarms i w
  rw [gone, Bool.true_and] at alarms
  refine ⟨⟨_, _, own, ?_, fun armed => ?_⟩, all.trans (beside_takeDeparture i w), fun was => ?_, fun trips => ?_⟩
  · exact tripped'.trans (flag.trans (by rw [tripped]))
  · exact lastU'.trans ((lastU (arms armed)).trans u)
  · rw [alarmAbsent_iff, alarms]
    rcases told' (.inl (active.trans was)) with stood | empty
    · rw [stood]
      exact entriesOf_dropped_true _
    · exact entriesOf_dropped_nil empty
  · refine (alarmStands_congr ?_).mpr (stands' trips)
    rw [alarms]
    exact droppedIf_filter (passes_entriesOf (by decide) _ _) ..

end

end Sys2Proof.Proofs

namespace Sys2Proof.Proofs

open Sys2Proof.Machine Sys2Proof.Safety Sys2Proof.Laws

/-! ### The arming of a CLOSED step (R137) -/

section

variable {i : StepId} {s : State}

/-- A step's record changes by what the change makes of it. -/
theorem modUnb_of_eq {f g : Unbalance → Unbalance} (h : f (s.unb i) = g (s.unb i)) : s.modUnb i f = s.modUnb i g :=
  congrArg (fun u => { s with ub := put s.ub i u }) h

/-- An earlier window counts towards the arming (R137). -/
theorem ubStep_counts (unarmed : (s.unb i).armed = false) (closed : (s.stepRec i).state = .closed)
    (few : (s.unb i).armCount < 9) (unlearned : (s.unb i).learning = none) (here : (s.unb i).departed = false) :
    ubStep i s = s.modUnb i fun u => { u with armCount := u.armCount + 1 } := by
  obtain ⟨-, -, -, -, -, departed, learning, -, still⟩ := armStep_figures i s
  rw [ubStep_unarmed (still unarmed few) (learning.trans unlearned) (departed.trans here),
    armStep_counts unarmed (.inl closed)]
  refine modUnb_of_eq ?_
  have count : min ((s.unb i).armCount + 1) 10 = (s.unb i).armCount + 1 := by omega
  have below : decide (10 ≤ (s.unb i).armCount + 1) = (s.unb i).armed := by
    rw [unarmed]
    exact decide_eq_false (by omega)
  rw [count, below]

/-- The tenth window arms the step, and the step is evaluated at once as an armed one (R137). -/
theorem ubStep_arms (unarmed : (s.unb i).armed = false) (tenth : (s.unb i).armCount = 9)
    (closed : (s.stepRec i).state = .closed ∨ (s.unb i).departed = true) :
    ubStep i s = ubStep i (s.modUnb i fun x => { x with armed := true, armCount := 10 }) := by
  refine ubStep_congr ?_
  rw [armStep_counts unarmed closed]
  have armed : ((s.modUnb i fun x => { x with armed := true, armCount := 10 }).unb i).armed = true := by
    rw [State.modUnb_unb_self]
  refine ((armStep_armed armed).trans (modUnb_of_eq ?_)).symm
  rw [tenth]
  rfl

/-! ### An armed step (R138, R141 to R143) -/

theorem ubStep_here (armed : (s.unb i).armed = true) (here : (s.unb i).departed = false) :
    ubStep i s =
      if (ubStages i s).2 = true then ubTripOut i (learnWindow i (ubStages i s).1)
      else learnWindow i (ubStages i s).1 := by
  obtain ⟨whole, learnt, -⟩ := learnWindow_learnt i (ubStages i s).1
  obtain ⟨-, -, -, -, departed⟩ := learnt.kept
  have still := departed.trans ((ubStages_evaluated i s).kept.departed.trans here)
  rw [ubStep_eq, windowTaken, armStep_armed armed, takeDeparture_none still]

/-- Without a trip an armed step stays armed, with u (R139). -/
theorem ubStep_untripped (armed : (s.unb i).armed = true) (here : (s.unb i).departed = false)
    (none_due : (ubStages i s).2 = false) :
    ((ubStep i s).unb i).armed = true ∧ ((ubStep i s).unb i).armCount = (s.unb i).armCount := by
  obtain ⟨whole, learnt, -⟩ := learnWindow_learnt i (ubStages i s).1
  obtain ⟨-, -, armed', armCount', -⟩ := learnt.kept
  have kept := (ubStages_evaluated i s).kept
  rw [ubStep_here armed here, none_due, if_neg Bool.false_ne_true]
  exact ⟨armed'.trans (kept.armed.trans armed), armCount'.trans kept.armCount⟩

/-- The window of a due trip is taken into a learning: u, cleared stages and the tripped flag (R143, log 15). -/
structure TripTaken (i : StepId) (s t : State) : Prop where
  unb : ∃ l : Option Learning, t.unb i = { stagesCleared (s.unb i) with
    lastU := stepU s i, tripped := true, learning := l }
  alarms : ∃ time, t.link.alarms = raiseIn time .unbalanceTrip (.step i) false
    (droppedIf (stageOf i s).2 .unbalanceAlarm (.step i) (staged i s).link.alarms)
  beside : BesideUnit s t

theorem learnWindow_tripped : TripTaken i s (learnWindow i (ubTrip i (staged i s))) := by
  obtain ⟨whole, ⟨⟨l, unb⟩, alarms, beside⟩, -⟩ := learnWindow_learnt i (ubTrip i (staged i s))
  obtain ⟨time, raised⟩ := ubTrip_alarms i (staged i s)
  obtain ⟨⟨armed, armCount, -, departed⟩, lastU, -, alarm⟩ := staged_stagedUnb i s
  have active : ((staged i s).unb i).alarmActive = (stageOf i s).2 := congrArg Prod.snd alarm
  have own := ubTrip_unb i (staged i s)
  have inactive : ((ubTrip i (staged i s)).unb i).alarmActive = false := by
    rw [own]
    rfl
  refine ⟨⟨l, ?_⟩, ⟨time, ?_⟩, ((staged_frame i s).2.trans (beside_ubTrip i _)).trans beside⟩
  · rw [unb, own]
    cases whole <;> simp [stagesCleared, armed, armCount, departed, lastU]
  · rw [alarms, inactive, Bool.and_false, droppedIf_false, raised, active]

/-- The entries of UNBALANCE_ALARM go where the alarm state was or became active, and are as they were otherwise
(R143, R145). -/
theorem TripTaken.entries {t : State} (h : TripTaken i s t) :
    entriesOf .unbalanceAlarm (.step i) t.link.alarms =
      if (s.unb i).alarmActive = true ∨ (stageOf i s).2 = true then []
      else entriesOf .unbalanceAlarm (.step i) s.link.alarms := by
  obtain ⟨time, alarms⟩ := h.alarms
  have own : entriesOf .unbalanceAlarm (.step i) t.link.alarms = entriesOf .unbalanceAlarm (.step i)
      (droppedIf (stageOf i s).2 .unbalanceAlarm (.step i) (staged i s).link.alarms) := by
    rw [alarms]
    exact raiseIn_filter (passes_entriesOf (by decide) _ _) ..
  rw [own, staged_alarms]
  cases now : (stageOf i s).2 with
  | true =>
    rw [if_pos (.inr rfl)]
    exact entriesOf_dropped_true _
  | false =>
    rw [droppedIf_false]
    cases was : (s.unb i).alarmActive with
    | true =>
      rw [if_pos (.inl rfl)]
      exact edgedAlarms_falls ..
    | false => rw [edgedAlarms_same, if_neg (by simp)]

end

end Sys2Proof.Proofs

namespace Sys2Proof.Proofs

open Sys2Proof.Machine Sys2Proof.Safety Sys2Proof.Laws

/-! ### The evaluation of UNBALANCE_EVALUATION's steps -/

section

variable {i : StepId} {s : State}

/-- The window end is taken from the unit, and every step is evaluated, in ascending number (R139, log 14). -/
theorem exec_unbalanceEvaluation_good {h : InHand} (running : s.resetHeld = false) (hh : s.rx.inHand = some h)
    (ub : h.ub = true) (good : h.good = true) (published : s.mu.computing = none) :
    exec .unbalanceEvaluation s = .next (settle ([0, 1, 2, 3, 4, 5, 6, 7].foldl (fun t i => ubStep i t)
      { s with rx.inHand := if h.vc || h.hs then some { h with ub := false } else none })) := by
  have due : dueFor InHand.ub s = some true := by simp [dueFor, hh, ub, good, published]
  have rest : consumed (fun h => { h with ub := false }) s =
      { s with rx.inHand := if h.vc || h.hs then some { h with ub := false } else none } := by
    simp [consumed, hh]
  have evaluated : ubEvaluate s = settle (forEach ubStep allSteps (consumed (fun h => { h with ub := false }) s)) := by
    simp only [ubEvaluate, due, if_true]
  have steps : allSteps = [0, 1, 2, 3, 4, 5, 6, 7] := rfl
  rw [rest, forEach_eq_foldl, steps] at evaluated
  rw [← evaluated]
  exact live_running s ubEvaluate running

/-- A step whose departure is taken, when a trip is made of it and when none is (R138, R143). -/
theorem ubStep_departed (departed : (s.unb i).departed = true) (left : (s.stepRec i).state ≠ .closed) :
    DepartureTaken i s (windowTaken i s) ∧
    ((ubStages i (armStep i s)).2 = false ∧ ubStep i s = windowTaken i s ∨
      (ubStages i (armStep i s)).2 = true ∧ TripMade i (windowTaken i s) (ubStep i s)) := by
  have took := windowTaken_departed departed left
  refine ⟨took, ?_⟩
  rw [ubStep_eq]
  cases (ubStages i (armStep i s)).2 with
  | false => exact .inl ⟨rfl, if_neg Bool.false_ne_true⟩
  | true =>
    obtain ⟨f, u, unb, -⟩ := took.unb
    have made := ubTripOut_made i (windowTaken i s) (by rw [unb])
    rw [if_pos rfl]
    exact .inr ⟨rfl, made⟩

/-- Either way the unit's record is the one the departure leaves. -/
theorem ubStep_departed_unb (departed : (s.unb i).departed = true) (left : (s.stepRec i).state ≠ .closed) :
    (ubStep i s).unb i = (windowTaken i s).unb i ∧ (ubStep i s).link.alarms = (windowTaken i s).link.alarms := by
  obtain ⟨took, ⟨-, same⟩ | ⟨-, made⟩⟩ := ubStep_departed departed left
  · rw [same]
    exact ⟨rfl, rfl⟩
  · have still : ((windowTaken i s).stepRec i).state ≠ .closed := by
      rwa [stepRec_congr (congrArg StepTable.recs took.beside.tbl)]
    exact ⟨made.away still, made.alarms⟩

end

/-- An armed step that is TRIPPED, or whose trip is not due, stays so (R142, R143). -/
theorem ubStages_untripped {i : StepId} {s : State} (h : (s.unb i).tripped = true ∨ ¬TripDue i s) :
    (ubStages i s).2 = false := by
  refine Bool.eq_false_iff.mpr fun trips => ?_
  obtain ⟨-, untripped, due⟩ := (ubStages_evaluated i s).trips.mp trips
  rcases h with tripped | none_due
  · simp [untripped] at tripped
  · exact none_due due

/-- A due trip of an armed step: the window first, then its LOCKOUT and its protective open (R143, log 15). -/
theorem ubStep_due {i : StepId} {s : State} (armed : (s.unb i).armed = true) (here : (s.unb i).departed = false)
    (untripped : (s.unb i).tripped = false) (due : TripDue i s) :
    ∃ w, TripTaken i s w ∧ TripMade i w (ubStep i s) := by
  have taken := learnWindow_tripped (i := i) (s := s)
  obtain ⟨l, unb⟩ := taken.unb
  have eq : ubStep i s = ubTripOut i (learnWindow i (ubTrip i (staged i s))) := by
    rw [ubStep_here armed here, (ubStages_staged i s armed untripped).1 due, if_pos rfl]
  rw [eq]
  exact ⟨_, taken, ubTripOut_made i _ (by rw [unb, stagesCleared])⟩

theorem ubStep_quiet {i : StepId} {s : State} (armed : (s.unb i).armed = true) (here : (s.unb i).departed = false)
    (untripped : (s.unb i).tripped = false) (none_due : ¬TripDue i s) :
    ubStep i s = learnWindow i (staged i s) := by
  rw [ubStep_here armed here, (ubStages_staged i s armed untripped).2 none_due, if_neg Bool.false_ne_true]

theorem LeftUnb.lastU {u v : Unbalance} (h : LeftUnb u v) : v.lastU = u.lastU := by
  rcases h with rfl | rfl | rfl <;> rfl

/-- The tripped flag stands and the stages are cleared, whatever became of the step (R143). -/
theorem TripMade.cleared {i : StepId} {w t : State} {x : Unbalance} {u : Nat} {l : Option Learning}
    (made : TripMade i w t)
    (unb : w.unb i = { stagesCleared x with lastU := u, tripped := true, learning := l }) :
    (t.unb i).tripped = true ∧ (t.unb i).alarmCount = 0 ∧ (t.unb i).tripCount = 0 ∧
    (t.unb i).alarmActive = false ∧ (t.unb i).tripTiming = false := by
  rcases made.unb with left | left | left <;> rw [left, unb] <;> exact ⟨rfl, rfl, rfl, rfl, rfl⟩

/-- An armed step's last u is this window's (R139). -/
theorem ubStep_lastU {i : StepId} {s : State} (armed : (s.unb i).armed = true) (here : (s.unb i).departed = false) :
    ((ubStep i s).unb i).lastU = stepU s i := by
  cases trips : (ubStages i s).2 with
  | true =>
    obtain ⟨-, untripped, due⟩ := (ubStages_evaluated i s).trips.mp trips
    obtain ⟨w, ⟨⟨l, unb⟩, -, -⟩, made⟩ := ubStep_due armed here untripped due
    rw [made.unb.lastU, unb]
  | false =>
    obtain ⟨whole, learnt, -⟩ := learnWindow_learnt i (ubStages i s).1
    obtain ⟨-, lastU, -⟩ := learnt.kept
    rw [ubStep_here armed here, trips, if_neg Bool.false_ne_true]
    exact lastU.trans ((ubStages_evaluated i s).lastU armed)

/-- The trip timing and the trip counter after u (R142). -/
theorem ubTripStage_timing (u : Nat) (c : StepSettings) (x : Unbalance) :
    (ubTripStage u c x).tripTiming =
      (if c.unbTrip ≤ u then true else if dropOut c.unbTrip ≤ u then x.tripTiming else false) ∧
    (ubTripStage u c x).tripCount =
      (if c.unbTrip ≤ u then min (x.tripCount + 1) c.unbTripDelay
       else if dropOut c.unbTrip ≤ u then x.tripCount else 0) := by
  unfold ubTripStage
  (repeat' split) <;> exact ⟨rfl, rfl⟩

/-- Whether an entry is not one of UNBALANCE_ALARM for a step. -/
theorem passes_otherUnbalance (i : StepId) :
    Passes (fun e => decide (e.kind ≠ .unbalanceAlarm ∨ e.subject ≠ .step i)) .unbalanceAlarm (.step i) :=
  fun e kind subject => by simp [kind, subject]

section

variable {i : StepId} {s : State}

/-- A step that has just left CLOSED is evaluated all the same, and then disarmed; a due trip finds it as it is (R138,
log 37). -/
theorem ubStep_departed_spec (departed : (s.unb i).departed = true) (left : (s.stepRec i).state ≠ .closed) :
    (ubStep i s).unb i =
      ⟨false, 0, 0, false, false, 0, ((ubStep i s).unb i).tripped, ((ubStep i s).unb i).lastU, none, false⟩ ∧
    ((s.stepRec i).state ≠ .closing →
      ((ubStep i s).stepRec i).state = (s.stepRec i).state ∧
      ((ubStep i s).lane i).tripPulse = (s.lane i).tripPulse ∧
      ((ubStep i s).lane i).confirm = (s.lane i).confirm) ∧
    ((s.unb i).alarmActive = true → AlarmAbsent .unbalanceAlarm (.step i) (ubStep i s)) ∧
    ((s.unb i).armed = true → ((ubStep i s).unb i).lastU = stepU s i) ∧
    ((s.unb i).armed = true → (s.unb i).tripped = false → (s.stepRec i).state ≠ .closing → TripDue i s →
      ((ubStep i s).unb i).tripped = true ∧ AlarmStands .unbalanceTrip (.step i) (ubStep i s) ∧
      (ubStep i s).stepRec i =
        { s.stepRec i with lockout := some ((s.stepRec i).lockout.getD .unbalance) }) ∧
    ((s.unb i).tripped = true ∨ ¬TripDue i s ∨ ((s.unb i).armed = false ∧ (s.unb i).armCount < 9) →
      ((ubStep i s).unb i).tripped = (s.unb i).tripped ∧ (ubStep i s).tbl = s.tbl ∧ (ubStep i s).seq = s.seq) := by
  obtain ⟨-, due_iff, -, -, tripped, -, -, arms, waits⟩ := armStep_figures i s
  have trips_iff := (ubStages_evaluated i (armStep i s)).trips
  obtain ⟨took, outcome⟩ := ubStep_departed departed left
  obtain ⟨own, alarms⟩ := ubStep_departed_unb departed left
  obtain ⟨f, u, unb, flag, lastU⟩ := took.unb
  have record : (windowTaken i s).stepRec i = s.stepRec i := stepRec_congr (congrArg StepTable.recs took.beside.tbl) i
  have lane : (windowTaken i s).lane i = s.lane i := lane_congr took.beside.seq i
  rw [own, unb]
  refine ⟨rfl, fun closing => ?_, fun active => ?_, lastU, fun armed untripped closing due => ?_, fun none_due => ?_⟩
  · rcases outcome with ⟨-, same⟩ | ⟨-, made⟩
    · rw [same, record, lane]
      exact ⟨rfl, rfl, rfl⟩
    · obtain ⟨rec', tripPulse, confirm⟩ := made.still (by rwa [record]) (by rwa [record])
      rw [rec', tripPulse, confirm, record, lane]
      exact ⟨rfl, rfl, rfl⟩
  · refine (alarmAbsent_congr ?_).mpr (took.absent active)
    rw [alarms]
  · have trips := trips_iff.mpr ⟨arms armed, tripped.trans untripped, due_iff.mpr due⟩
    refine ⟨by rw [flag, trips, Bool.or_true], (alarmStands_congr (by rw [alarms])).mpr (took.stands trips), ?_⟩
    rcases outcome with ⟨none_made, -⟩ | ⟨-, made⟩
    · exact Bool.noConfusion (none_made.symm.trans trips)
    · rw [(made.still (by rwa [record]) (by rwa [record])).1, record]
  · have none_made : (ubStages i (armStep i s)).2 = false := by
      refine Bool.eq_false_iff.mpr fun trips => ?_
      obtain ⟨armed, untripped, due⟩ := trips_iff.mp trips
      rcases none_due with flagged | low | ⟨unarmed, few⟩
      · exact Bool.noConfusion (untripped.symm.trans (tripped.trans flagged))
      · exact low (due_iff.mp due)
      · exact Bool.noConfusion ((waits unarmed few).symm.trans armed)
    rcases outcome with ⟨-, same⟩ | ⟨trips, -⟩
    · rw [same, flag, none_made, Bool.or_false]
      exact ⟨rfl, took.beside.tbl, took.beside.seq⟩
    · exact Bool.noConfusion (none_made.symm.trans trips)

/-- A due trip of an armed step, with its neighbours' part (R143, R145). -/
theorem ubStep_due_spec (armed : (s.unb i).armed = true) (untripped : (s.unb i).tripped = false)
    (here : (s.unb i).departed = false) (due : TripDue i s) :
    ((ubStep i s).unb i).tripped = true ∧ ((ubStep i s).unb i).alarmCount = 0 ∧
    ((ubStep i s).unb i).tripCount = 0 ∧ ((ubStep i s).unb i).alarmActive = false ∧
    ((ubStep i s).unb i).tripTiming = false ∧ AlarmStands .unbalanceTrip (.step i) (ubStep i s) ∧
    (if (s.unb i).alarmActive = true ∨ (stageOf i s).2 = true then
      AlarmAbsent .unbalanceAlarm (.step i) (ubStep i s)
     else entriesOf .unbalanceAlarm (.step i) (ubStep i s).link.alarms =
      entriesOf .unbalanceAlarm (.step i) s.link.alarms) ∧
    ((ubStep i s).stepRec i).lockout = some ((s.stepRec i).lockout.getD .unbalance) ∧
    ((s.stepRec i).state = .closed → (s.lines i).direct = false →
      ((ubStep i s).stepRec i).state = .opening ∧ ((ubStep i s).lane i).tripPulse = s.cfg.yard.tripPulse ∧
      (¬WindowAtUnit s → ((ubStep i s).unb i).armed = false)) ∧
    ((s.stepRec i).state = .closed → (s.lines i).direct = true →
      ((ubStep i s).stepRec i).state = .closed ∧ ((ubStep i s).unb i).armed = true) := by
  obtain ⟨w, taken, made⟩ := ubStep_due armed here untripped due
  obtain ⟨⟨l, unb⟩, ⟨time, raised⟩, beside⟩ := taken
  have record : w.stepRec i = s.stepRec i := stepRec_congr (congrArg StepTable.recs beside.tbl) i
  have lines : w.lines i = s.lines i := by rw [State.lines, beside.io, State.lines]
  have entries : entriesOf .unbalanceAlarm (.step i) (ubStep i s).link.alarms = _ :=
    (congrArg _ made.alarms).trans (TripTaken.entries ⟨⟨l, unb⟩, ⟨time, raised⟩, beside⟩)
  obtain ⟨flag, alarmCount, tripCount, alarmActive, tripTiming⟩ := made.cleared unb
  refine ⟨flag, alarmCount, tripCount, alarmActive, tripTiming,
    alarmStands_of_raised (made.alarms.trans raised), ?_, by rw [made.lockout, record], fun closed part => ?_,
    fun closed direct => ?_⟩
  · split
    · next active => exact alarmAbsent_iff.mpr (entries.trans (if_pos active))
    · next inactive => exact entries.trans (if_neg inactive)
  · obtain ⟨state, pulse, disarms⟩ := made.opens (by rwa [record]) (by rwa [lines])
    refine ⟨state, by rw [pulse, beside.yard], fun none_there => ?_⟩
    rw [disarms (mt (windowAtUnit_congr beside.rx beside.mu).mp none_there)]
    rfl
  · obtain ⟨state, own⟩ := made.direct (by rwa [record]) (by rwa [lines])
    rw [own, unb]
    exact ⟨state, armed⟩

/-- An armed step without a due trip: its stages and the entry of UNBALANCE_ALARM, unless a completed learning clears
them (R141, R142, R145). -/
theorem ubStep_quiet_spec (armed : (s.unb i).armed = true) (untripped : (s.unb i).tripped = false)
    (here : (s.unb i).departed = false) (none_due : ¬TripDue i s) :
    ((ubStep i s).unb i).tripped = false ∧ (ubStep i s).tbl = s.tbl ∧ (ubStep i s).seq = s.seq ∧
    ((ubStep i s).link.alarms.filter fun e => decide (e.kind ≠ .unbalanceAlarm ∨ e.subject ≠ .step i)) =
      (s.link.alarms.filter fun e => decide (e.kind ≠ .unbalanceAlarm ∨ e.subject ≠ .step i)) ∧
    ((∀ l, (s.unb i).learning = some l → l.count ≠ 15) →
      (((ubStep i s).unb i).alarmCount, ((ubStep i s).unb i).alarmActive) = stageOf i s ∧
      ((stageOf i s).2 = true → (s.unb i).alarmActive = false →
        AlarmStands .unbalanceAlarm (.step i) (ubStep i s)) ∧
      ((stageOf i s).2 = false → (s.unb i).alarmActive = true →
        AlarmAbsent .unbalanceAlarm (.step i) (ubStep i s)) ∧
      ((stageOf i s).2 = (s.unb i).alarmActive →
        entriesOf .unbalanceAlarm (.step i) (ubStep i s).link.alarms =
          entriesOf .unbalanceAlarm (.step i) s.link.alarms) ∧
      ((ubStep i s).unb i).tripTiming = (if (s.stepCfg i).unbTrip ≤ stepU s i then true
        else if dropOut (s.stepCfg i).unbTrip ≤ stepU s i then (s.unb i).tripTiming else false) ∧
      ((ubStep i s).unb i).tripCount =
        (if (s.stepCfg i).unbTrip ≤ stepU s i then min ((s.unb i).tripCount + 1) (s.stepCfg i).unbTripDelay
         else if dropOut (s.stepCfg i).unbTrip ≤ stepU s i then (s.unb i).tripCount else 0)) := by
  rw [ubStep_quiet armed here untripped none_due]
  obtain ⟨whole, ⟨⟨l, unb⟩, alarms, beside⟩, complete⟩ := learnWindow_learnt i (staged i s)
  obtain ⟨kept, lastU, flag, alarm⟩ := staged_stagedUnb i s
  have all := (staged_frame i s).2.trans beside
  have staged_entries := staged_alarms i s
  refine ⟨?_, all.tbl, all.seq, ?_, fun early => ?_⟩
  · rw [unb]
    cases whole <;> exact flag.trans untripped
  · rw [alarms, droppedIf_filter (passes_otherUnbalance i), staged_entries,
      edgedAlarms_filter (passes_otherUnbalance i)]
  · have partial_window : whole = false := by
      refine Bool.eq_false_iff.mpr fun complete_now => ?_
      obtain ⟨m, learning, count⟩ := complete complete_now
      exact early m (kept.learning.symm.trans learning) count
    rw [partial_window, Bool.false_and, droppedIf_false] at alarms
    rw [partial_window, if_neg Bool.false_ne_true] at unb
    rw [unb]
    refine ⟨alarm, fun now was => ?_, fun off was => ?_, fun same => ?_, ?_, ?_⟩
    · exact alarmStands_of_raised (alarms.trans (staged_entries.trans
        (by rw [now, was, edgedAlarms_rises])))
    · refine alarmAbsent_iff.mpr ?_
      rw [alarms, staged_entries, off, was]
      exact edgedAlarms_falls ..
    · refine congrArg (entriesOf .unbalanceAlarm (.step i)) (alarms.trans (staged_entries.trans ?_))
      rw [same, edgedAlarms_same]
    · exact (congrArg Unbalance.tripTiming (staged_unb i s)).trans (ubTripStage_timing ..).1
    · exact (congrArg Unbalance.tripCount (staged_unb i s)).trans (ubTripStage_timing ..).2

end

/-- Settles O32: the arming, an armed step's stages and trip, and the same for a step that has just left CLOSED. -/
theorem unbalanceTripLocksAndOpens : Obligations.UnbalanceTripLocksAndOpens := by
  unfold Obligations.UnbalanceTripLocksAndOpens
  refine ⟨fun h s => exec_unbalanceEvaluation_good, fun i s unarmed closed unlearned here => ?_,
    fun i s => ubStep_counts, fun i s unarmed tenth closed => ?_, fun i s departed left => ?_,
    fun i s armed untripped here => ?_⟩
  · have same := armStep_idle closed here
    exact (ubStep_unarmed (by rwa [same]) (by rwa [same]) (by rwa [same])).trans same
  · have eq := ubStep_arms unarmed tenth closed
    dsimp only
    refine ⟨eq, fun here => ?_⟩
    rw [eq]
    have own := State.modUnb_unb_self i (fun x => { x with armed := true, armCount := 10 }) s
    have lastU := ubStep_lastU (i := i) (s := s.modUnb i fun x => { x with armed := true, armCount := 10 })
      (by rw [own]) (by rw [own, here])
    refine ⟨lastU, fun none_due => ?_⟩
    have untripped := ubStep_untripped (i := i) (s := s.modUnb i fun x => { x with armed := true, armCount := 10 })
      (by rw [own]) (by rw [own, here]) (ubStages_untripped ?_)
    · rw [own] at untripped
      exact untripped
    · rw [own]
      exact none_due.imp_right fun low due => absurd due.1 (Nat.not_le.mpr low)
  · exact ubStep_departed_spec departed left
  · dsimp only
    split
    · next due => exact ubStep_due_spec armed untripped here due
    · next none_due => exact ubStep_quiet_spec armed untripped here none_due

end Sys2Proof.Proofs

namespace Sys2Proof.Proofs

open Sys2Proof.Machine Sys2Proof.Safety Sys2Proof.Laws

/-! ### The setting tables (section 11.4.1) -/

/-- The bytes that name no yard setting lie before, between and after the four groups of the table. -/
theorem yardIdOf_eq_none (b : Byte) :
    yardIdOf b = none ↔ b.toNat = 0 ∨ (4 ≤ b.toNat ∧ b.toNat < 0x10) ∨ (0x1B ≤ b.toNat ∧ b.toNat < 0x30) ∨
      (0x39 ≤ b.toNat ∧ b.toNat < 0x40) ∨ 0x47 ≤ b.toNat := by
  unfold yardIdOf
  split
  case h_31 => simp only [imp_false] at *; simp only [true_iff]; omega
  all_goals simp only [reduceCtorEq, false_iff]; omega

/-- The bytes that name no per-step setting lie after the table. -/
theorem stepSettingIdOf_eq_none (b : Byte) : stepSettingIdOf b = none ↔ 11 ≤ b.toNat := by
  unfold stepSettingIdOf
  split
  case h_12 => simp only [imp_false] at *; simp only [true_iff]; omega
  all_goals simp only [reduceCtorEq, false_iff]; omega

/-- The writes that disagree: of the band, its distance to FAST_LEVEL, and the two DV levels (R115, R132). -/
theorem yardConsistent_eq_false (c : YardSettings) (y : YardId) (v : Nat) :
    yardConsistent c y v = false ↔
      (y = .bandLow ∧ c.bandHigh < v + 20) ∨ (y = .bandHigh ∧ (v < c.bandLow + 20 ∨ c.fastLevel ≤ v)) ∨
      (y = .fastLevel ∧ v ≤ c.bandHigh) ∨ (y = .dvAlarm ∧ c.dvTrip ≤ v) ∨ (y = .dvTrip ∧ v ≤ c.dvAlarm) := by
  cases y
  case bandLow | bandHigh | fastLevel | dvAlarm | dvTrip =>
    simp [yardConsistent, Decidable.imp_iff_not_or]
  all_goals simp [yardConsistent]

/-- Settles O43: the closed tables row by row, the bytes outside them, and the five settings that must agree. -/
theorem yardTableAndAgreement : Obligations.YardTableAndAgreement := by
  unfold Obligations.YardTableAndAgreement
  exact ⟨by decide, by decide, yardIdOf_eq_none, by decide, by decide, stepSettingIdOf_eq_none,
    fun i => look_replicate _ i, rfl, yardConsistent_eq_false⟩

end Sys2Proof.Proofs

namespace Sys2Proof.Proofs

open Sys2Proof.Machine Sys2Proof.Safety Sys2Proof.Laws

/-! ### DEFAULT_SETTINGS (R197) -/

/-- Every counter of voltage control capped to the default delays (R116). -/
theorem cappedTo_default_vc (s : State) :
    (cappedTo Settings.default s).vc = { s.vc with
      lowAcc := min s.vc.lowAcc 1500, highAcc := min s.vc.highAcc 1500, fastAcc := min s.vc.fastAcc 25,
      deadAcc := min s.vc.deadAcc 50 } := by
  have cycles : delayInCycles Settings.default.yard = 1500 ∧ delayOutCycles Settings.default.yard = 1500 := ⟨rfl, rfl⟩
  simp only [cappedTo, capHarmTrip, capHarmAlarm, capDead, capFast, capBand, cycles]
  rfl

/-- The default threshold of the trip stage is the same while shedding and otherwise (R124). -/
theorem tripThreshold_default (h : Harmonic) : tripThreshold Settings.default.yard h = 100 := by
  unfold tripThreshold
  split <;> rfl

/-- Every counter of the supervisor capped to the default delays (R133). -/
theorem cappedTo_default_hs (s : State) :
    (cappedTo Settings.default s).hs = { s.hs with
      vCount := min s.hs.vCount 250, iCount := min s.hs.iCount 250, tripCount := min s.hs.tripCount 100 } :=
  congrArg (fun n => { s.hs with
    vCount := min s.hs.vCount 250, iCount := min s.hs.iCount 250, tripCount := min s.hs.tripCount n })
    (tripThreshold_default _)

/-- The defaults touch nothing but the settings and the counters (R197). -/
theorem defaultSettings_frame (s : State) :
    defaultSettings s = { s with cfg := Settings.default, vc := (defaultSettings s).vc, hs := (defaultSettings s).hs,
                                 ub := (defaultSettings s).ub } := by
  simp only [defaultSettings, capHarmTrip, capHarmAlarm, capDead, capFast, capBand]

/-- Each step's unbalance counters capped to the default delays (R152). -/
theorem defaultSettings_unb (s : State) (i : StepId) :
    (defaultSettings s).unb i = { s.unb i with
      alarmCount := min (s.unb i).alarmCount 250, tripCount := min (s.unb i).tripCount 25 } :=
  look_map (capUnbalance StepSettings.default) s.ub i

/-- Settles O46: the answer, the frame, and each block's counters. -/
theorem defaultSettingsRestoreAndCap : Obligations.DefaultSettingsRestoreAndCap := by
  unfold Obligations.DefaultSettingsRestoreAndCap
  intro tag s hr
  refine ⟨defaultSettings (consume s), live_takeRequest hr 0x0A tag fun s => answer .ok [] (defaultSettings s),
    defaultSettings_frame _, cappedTo_default_vc _, cappedTo_default_hs _, defaultSettings_unb _⟩

end Sys2Proof.Proofs

namespace Sys2Proof.Proofs

open Sys2Proof.Machine Sys2Proof.Safety Sys2Proof.Laws

/-! ### SET_MODE (R98, R106, R198) -/

/-- Voltage control's withdrawal does nothing, or abandons a close of its own (R106). -/
theorem vcWithdrawClose_cases (s : State) :
    vcWithdrawClose s = s ∨ ∃ i o, (s.lane i).op = some o ∧ o.source = .vc ∧
      vcWithdrawClose s = abandonClose i .preempted none s := by
  unfold vcWithdrawClose unpulsedClose
  split
  · exact .inl rfl
  · next i o held =>
    split at held
    · cases held
    · split at held
      · cases held
      · next there =>
        cases held
        split
        · next own => exact .inr ⟨i, o, there, own, rfl⟩
        · exact .inl rfl

/-- The withdrawal touches no order, and of voltage control itself no more than an end report does (R106, R108). -/
theorem vcWithdrawClose_requesters (s : State) :
    (vcWithdrawClose s).oe = s.oe ∧
    ((vcWithdrawClose s).vc = s.vc ∨ (vcWithdrawClose s).vc = (vcEndReport s).vc) := by
  obtain same | ⟨i, o, held, own, abandoned⟩ := vcWithdrawClose_cases s
  · rw [same]
    exact ⟨rfl, .inl rfl⟩
  · obtain ⟨oe, vc⟩ := abandonClose_vc .preempted none held own
    rw [abandoned]
    exact ⟨oe, .inr vc⟩

/-- The state in which band, fast stage and right rest, and the unit's close has still to be withdrawn (R98, R110). -/
def manualRested (s : State) : State :=
  { s with
    vc := { s.vc with auto := false, lowAcc := 0, highAcc := 0, lowReached := false, highReached := false,
                      fastAcc := 0, fastDue := false, fastCondition := false },
    arb.vcRequest := .absent,
    link.alarms := causeOverIf s.vc.fastCondition .fastOv .yard s.link.alarms }

/-- On the change to MANUAL the unit comes to rest, its close is withdrawn, and then its request (R98, R106). -/
theorem enterManual_eq (s : State) :
    enterManual s = { vcWithdrawClose (manualRested s) with
      vc.noCandidate := false,
      vc.request := if (vcWithdrawClose (manualRested s)).vc.request = .operating then .operating else .idle } := by
  have rested : withdrawVc (clearFastCondition
      { clearBand s with vc.auto := false, vc.fastAcc := 0, vc.fastDue := false }) = manualRested s := by
    rw [clearFastCondition_eq]
    rfl
  simp only [enterManual, rested]

/-- What MANUAL leaves of voltage control and its request (R98, R106, R110). -/
theorem enterManual_rests (s : State) :
    let p := enterManual s
    p.vc.auto = false ∧ p.vc.lowAcc = 0 ∧ p.vc.highAcc = 0 ∧ p.vc.lowReached = false ∧ p.vc.highReached = false ∧
    p.vc.fastAcc = 0 ∧ p.vc.fastCondition = false ∧ p.vc.fastDue = false ∧ p.vc.noCandidate = false ∧
    p.vc.vctrl = s.vc.vctrl ∧ p.vc.deadAcc = s.vc.deadAcc ∧ p.vc.deadOpened = s.vc.deadOpened ∧
    (p.vc.request = .idle ∨ p.vc.request = .operating) ∧ p.arb.vcRequest = .absent ∧ p.tbl = s.tbl ∧ p.oe = s.oe := by
  have frame := vcWithdrawClose_frame (manualRested s)
  obtain ⟨oe, vc⟩ := vcWithdrawClose_requesters (manualRested s)
  have request (r : VcRequestState) : (if r = .operating then VcRequestState.operating else .idle) = .idle ∨
      (if r = .operating then VcRequestState.operating else .idle) = .operating := by
    split
    · exact .inr rfl
    · exact .inl rfl
  rw [enterManual_eq]
  generalize vcWithdrawClose (manualRested s) = w at *
  obtain ⟨-, -, -, -, tbl, -, -, -, absent, -⟩ := frame
  dsimp only
  rcases vc with vc | vc <;> rw [vc] <;>
    exact ⟨rfl, rfl, rfl, rfl, rfl, rfl, rfl, rfl, rfl, rfl, rfl, rfl, request _, absent, tbl, oe⟩

/-- Where no close waits for its pulse the change to MANUAL leaves the sequencer and the busy period (R98). -/
theorem enterManual_quiet {s : State} (quiet : ∀ j, (s.lane j).op.any Operation.unpulsed = false) :
    (enterManual s).seq = s.seq ∧ (enterManual s).arb.busy = s.arb.busy := by
  rw [enterManual_eq, vcWithdrawClose_none (s := manualRested s) quiet]
  exact ⟨rfl, rfl⟩

/-- An unpulsed close of voltage control ends with the change to MANUAL, and the right is free (R92, R106). -/
theorem enterManual_withdraws {i : StepId} {o : Operation} {s : State} (held : (s.lane i).op = some o)
    (unpulsed : o.unpulsed = true) (own : o.source = .vc) (alone : NoOtherHeldClose i s) :
    ((enterManual s).lane i).op = none ∧ (enterManual s).arb.busy = .notBusy ∧
    (enterManual s).seq.schedule = none := by
  have withdrawn := vcWithdrawClose_held (s := manualRested s) held unpulsed alone
  obtain ⟨gone, schedule, -, arb⟩ := abandonClose_spec (s := manualRested s) .preempted none held
  rw [enterManual_eq, withdrawn, if_pos own]
  exact ⟨gone, congrArg Arbiter.busy arb, schedule⟩

/-- Where every step is without a held close but any one, no step has one. -/
theorem unheld_of_noOther {s : State} (h : ∀ i, NoOtherHeldClose i s) (j : StepId) :
    (s.lane j).op.any Operation.unpulsed = false := by
  obtain ⟨i, ne⟩ := exists_ne j
  exact h i j ne.symm

/-- SET_MODE's response carries the mode in force after the request (R198). -/
theorem compose_modeAnswer (tag : Byte) (st : Status) (s : State) :
    compose 0x0B tag (modeAnswer st s) =
      respond 0x0B tag st ([if s.vc.auto then 1 else 0] ++ List.replicate 12 0) s := by
  rw [modeAnswer, compose_answer, modeByte]
  cases s.vc.auto <;> rfl

/-- SET_MODE by its mode byte (R198). -/
theorem exec_setMode {tag mode : Byte} {s : State} (hr : Ready s) :
    exec (.setMode tag mode) s = .next (
      if mode = 0 then compose 0x0B tag (modeAnswer .ok (setMode false (consume s)))
      else if mode = 1 then compose 0x0B tag (modeAnswer .ok (setMode true (consume s)))
      else compose 0x0B tag (modeAnswer .badArg (consume s))) := by
  refine (live_takeRequest hr 0x0B tag (requestMode mode)).trans ?_
  unfold requestMode
  (repeat' split) <;> rfl

/-- AUTO takes effect at once, and named again changes nothing (R98). -/
theorem setMode_auto (s : State) : setMode true s = { s with vc.auto := true } := by
  unfold setMode
  split
  · next auto => rw [← auto]
  · rfl

/-- MANUAL named again changes nothing (R98). -/
theorem setMode_manual_again {s : State} (manual : s.vc.auto = false) : setMode false s = s := if_pos manual

/-- The change to MANUAL is one event with its consequences (R98, log 13). -/
theorem setMode_manual {s : State} (auto : s.vc.auto = true) : setMode false s = settle (enterManual s) := by
  simp [setMode, auto]

/-- Settles O47: another value, AUTO, MANUAL named again, and the change to MANUAL. -/
theorem setModeActsAtOnce : Obligations.SetModeActsAtOnce := by
  unfold Obligations.SetModeActsAtOnce
  refine fun tag mode s hr => ⟨fun other => ?_, fun auto => ?_, fun manual again => ?_, fun manual was => ?_⟩
  · have ne : mode ≠ 0 ∧ mode ≠ 1 := by
      clear hr
      bv_omega
    rw [exec_setMode hr, if_neg ne.1, if_neg ne.2, compose_modeAnswer]
    rfl
  · rw [exec_setMode hr, if_neg (by rw [auto]; decide), if_pos auto, compose_modeAnswer, setMode_auto]
    rfl
  · have again : (consume s).vc.auto = false := again
    rw [exec_setMode hr, if_pos manual, compose_modeAnswer, setMode_manual_again again, again]
    rfl
  · have was : (consume s).vc.auto = true := was
    obtain ⟨auto, rests⟩ := enterManual_rests (consume s)
    refine ⟨enterManual (consume s), ?_, auto, ?_⟩
    · have settled : (settle (enterManual (consume s))).vc.auto = false := by simpa using auto
      rw [exec_setMode hr, if_pos manual, compose_modeAnswer, setMode_manual was, settled]
      rfl
    · obtain ⟨low, high, lowReached, highReached, fast, condition, due, candidate, vctrl, dead, opened, request, pending,
        tbl, oe⟩ := rests
      exact ⟨low, high, lowReached, highReached, fast, condition, due, candidate, vctrl, dead, opened, request, pending,
        tbl, oe, fun none => enterManual_quiet (s := consume s) (unheld_of_noOther (s := s) none),
        fun i tm ph held waits alone =>
          enterManual_withdraws (s := consume s) held (by simpa [Operation.unpulsed] using waits) rfl alone⟩

end Sys2Proof.Proofs

namespace Sys2Proof.Proofs

open Sys2Proof.Machine Sys2Proof.Safety Sys2Proof.Laws

/-! ### Steps that are OPENING stay so through the consequences of an event -/

/-- Every OPENING step is OPENING still. -/
def StaysOpening (s t : State) : Prop := ∀ i, (s.stepRec i).state = .opening → (t.stepRec i).state = .opening

theorem StaysOpening.after {s t u : State} (b : StaysOpening t u) (a : StaysOpening s t) : StaysOpening s u :=
  fun i h => b i (a i h)

theorem StaysOpening.of_recs {s t : State} (h : t.tbl.recs = s.tbl.recs) : StaysOpening s t := fun i opening =>
  (congrArg StepRec.state (stepRec_congr h i)).trans opening

/-- The neighbours of the step table leave every step's state. -/
theorem StaysOpening.of_core {s t : State} (h : ∀ j, Laws.core (t.stepRec j) = Laws.core (s.stepRec j)) : StaysOpening s t :=
  fun i opening => (congrArg Prod.fst (h i)).trans opening

/-- A step state change of a step that is not OPENING leaves those that are. -/
theorem staysOpening_moveStep {i : StepId} {s : State} (new : StepState) (other : (s.stepRec i).state ≠ .opening) :
    StaysOpening s (moveStep i new s) := fun j opening => by
  rw [moveStep_state, if_neg (by rintro rfl; exact other opening)]
  exact opening

theorem staysOpening_modStep {i : StepId} {f : StepRec → StepRec} (s : State) (h : ∀ r, (f r).state = r.state) :
    StaysOpening s (s.modStep i f) := fun j opening => by
  rw [State.modStep_stepRec]
  split
  · next e => rw [h, ← e]; exact opening
  · exact opening

/-- The conditions of R76 hold of an OPEN step only. -/
theorem opened_of_closeBar {i : StepId} {s : State} (clear : closeBar s i = none) : (s.stepRec i).state = .opened := by
  unfold closeBar at clear
  by_contra other
  simp only [ne_eq, other, not_false_eq_true, if_true] at clear
  (repeat' split at clear) <;> cases clear

theorem staysOpening_tryClosePulse (i : StepId) (s : State) : StaysOpening s (tryClosePulse i s) := by
  unfold tryClosePulse startClosePulse
  split
  · next clear =>
    split
    · exact .of_recs rfl
    · refine .after (staysOpening_moveStep _ ?_) (.after (staysOpening_modStep _ fun _ => rfl) (.of_recs rfl))
      rw [State.modStep_stepRec_self]
      exact fun opening => nomatch (opened_of_closeBar clear).symm.trans opening
  · exact .of_recs (by simp)

theorem staysOpening_scheduleClose (i : StepId) (frame : Word) (wave : BitVec 5) (s : State) :
    StaysOpening s (scheduleClose i frame wave s) := by
  unfold scheduleClose
  dsimp only
  split
  · exact staysOpening_tryClosePulse i s
  · exact .of_recs rfl

theorem staysOpening_takeClose (i : StepId) (src : Requester) (tm : Timing) (s : State) :
    StaysOpening s (takeClose i src tm s) := by
  have waits (t : State) : StaysOpening t (waitingClose src t) := by
    unfold waitingClose
    split <;> exact .of_recs rfl
  have goes_on (t : State) : StaysOpening t (synchronizeClose i src t) := by
    unfold synchronizeClose
    (repeat' split)
    · exact staysOpening_scheduleClose i _ _ t
    · exact .of_recs rfl
    · exact .of_recs (by simp)
  have taken : StaysOpening s (takenClose i src tm s) := .of_recs rfl
  rw [takeClose_eq]
  split
  · exact .after (.of_recs (by simp)) taken
  · split
    · exact .after (staysOpening_tryClosePulse i _) taken
    · exact .after (goes_on _) (.after (waits _) taken)

theorem staysOpening_takeOpen (i : StepId) (src : Requester) (s : State) : StaysOpening s (takeOpen i src s) := by
  unfold takeOpen startTripPulse
  dsimp only
  split
  · next closed =>
    refine .after (staysOpening_moveStep _ ?_) (.after (staysOpening_modStep _ fun _ => rfl) (.of_recs rfl))
    rw [State.modStep_stepRec_self]
    exact fun opening => nomatch closed.1.symm.trans opening
  · exact .of_recs (by simp)

/-- On a grant voltage control notes its selection, and at most one operation is handed over (R107). -/
theorem vcGranted_cases (s : State) :
    ∃ v, vcGranted s = { s with vc := v } ∨ (∃ i, vcGranted s = takeOpen i .vc { s with vc := v }) ∨
      ∃ i, vcGranted s = takeClose i .vc .synchronized { s with vc := v } := by
  unfold vcGranted
  dsimp only
  split
  · split
    · exact ⟨_, .inl rfl⟩
    · exact ⟨_, .inr (.inl ⟨_, rfl⟩)⟩
  · split
    · split
      · split
        · exact ⟨_, .inl rfl⟩
        · exact ⟨_, .inr (.inr ⟨_, rfl⟩)⟩
      · exact ⟨_, .inl rfl⟩
    · split
      · split
        · split
          · exact ⟨_, .inl rfl⟩
          · exact ⟨_, .inr (.inl ⟨_, rfl⟩)⟩
        · exact ⟨_, .inl rfl⟩
      · exact ⟨_, .inl rfl⟩

theorem staysOpening_vcGranted (s : State) : StaysOpening s (vcGranted s) := by
  obtain ⟨v, released | ⟨i, opens⟩ | ⟨i, closes⟩⟩ := vcGranted_cases s
  · rw [released]
    exact .of_recs rfl
  · rw [opens]
    exact .after (staysOpening_takeOpen i _ _) (.of_recs rfl)
  · rw [closes]
    exact .after (staysOpening_takeClose i _ _ _) (.of_recs rfl)

theorem staysOpening_handOver (x : StartItem) (s : State) : StaysOpening s (handOver x s) := by
  unfold handOver
  dsimp only
  split
  · exact .after (staysOpening_takeClose _ _ _ _) (.of_recs rfl)
  · exact .after (staysOpening_takeOpen _ _ _) (.of_recs rfl)

theorem staysOpening_runResetLockout (i : StepId) (s : State) : StaysOpening s (runResetLockout i s) := by
  have unlocked : StaysOpening s (s.modStep i fun c => { c with lockout := none }) :=
    staysOpening_modStep s fun _ => rfl
  unfold runResetLockout
  dsimp only
  split <;> exact .after (.of_recs (by simp)) unlocked

/-- No right-free order changes a step's state (R171 to R176). -/
theorem staysOpening_startRightFree (x : StartItem) (s : State) : StaysOpening s (startRightFree x s) := by
  have finished (u : State) : StaysOpening u (finishSlot x.slot .done none u) := .of_recs rfl
  have left : StaysOpening s (leavePosted x.slot s) := .of_recs rfl
  unfold startRightFree
  dsimp only
  split
  · exact .of_recs rfl
  · refine .after ?_ left
    generalize leavePosted x.slot s = t
    unfold runRightFree
    split
    · exact .after (finished _) (staysOpening_modStep t fun _ => rfl)
    · exact .after (finished _) (staysOpening_modStep t fun _ => rfl)
    · exact .after (finished _) (staysOpening_runResetLockout x.step t)
    · exact .of_recs rfl
    · exact .after (finished _) (.after (.of_core fun j => watchClose_core x.step j _)
        (staysOpening_modStep t fun _ => rfl))
    · exact .after (finished _) (.after (.of_core fun j => startCooldown_core x.step j _)
        (staysOpening_modStep t fun _ => rfl))
    · exact .of_recs rfl
    · exact .of_recs rfl

/-- The consequences of an event for orders and the right confirm no open and start none on a step that is OPENING. -/
theorem staysOpening_settle (s : State) : StaysOpening s (settle s) :=
  settle_invariant (StaysOpening s) (fun _ _ => .after (.of_recs rfl))
    (fun x _ => .after (staysOpening_startRightFree x _)) (fun _ _ => .after (.of_recs rfl))
    (fun _ _ _ => .after (.of_recs rfl)) (fun x _ => .after (staysOpening_handOver x _))
    (fun _ => .after (staysOpening_vcGranted _)) s (.of_recs rfl)

end Sys2Proof.Proofs

namespace Sys2Proof.Proofs

open Sys2Proof.Machine Sys2Proof.Safety Sys2Proof.Laws

/-! ### The entries of a kind that belongs to no step -/

/-- The entries of such a kind are among those that belong to no step. -/
theorem ofKind_of_yardOf {k : AlarmKind} (hk : subjectClass k ≠ 0) {as bs : List AlarmEntry}
    (h : yardOf as = yardOf bs) : ofKind k as = ofKind k bs := by
  have within (cs : List AlarmEntry) : ofKind k cs = ofKind k (yardOf cs) := by
    rw [ofKind, ofKind, yardOf, List.filter_filter]
    refine List.filter_congr fun e _ => ?_
    by_cases own : e.kind = k
    · simp [own, hk]
    · simp [own]
  rw [within as, within bs, h]

/-- Whether an unacknowledged entry stands goes by the entries of its kind. -/
theorem alarmStands_of_ofKind {k : AlarmKind} {sub : Subject} {s t : State}
    (h : ofKind k t.link.alarms = ofKind k s.link.alarms) (stands : AlarmStands k sub s) : AlarmStands k sub t := by
  obtain ⟨e, he, kind, subject, fresh⟩ := stands
  have mem : e ∈ ofKind k t.link.alarms := h ▸ List.mem_filter.mpr ⟨he, decide_eq_true kind⟩
  exact ⟨e, (List.mem_filter.mp mem).1, kind, subject, fresh⟩

/-- A protective open of every step leaves the entries that belong to none. -/
theorem yardOf_openAll (s : State) : yardOf (openAll s).link.alarms = yardOf s.link.alarms := by
  refine openAll_keeps (fun t => yardOf t.link.alarms) (fun i t => ?_) s
  unfold protectiveOpen startTripPulse
  (repeat' split) <;> simp

/-! ### What an evaluation of voltage control makes of a window (R100) -/

/-- The figures that steps 1 to 3 of R100 form, and what no step of R100 touches. -/
def windowFigures (s : State) :
    Receiver × Measurement × Inputs × Settings × Clock × Bool × Nat × Nat × Bool × Nat × Bool :=
  (s.rx, s.mu, s.io, s.cfg, s.clock, s.vc.auto, s.vc.vctrl, s.vc.deadAcc, s.vc.deadOpened, s.vc.fastAcc,
    s.vc.fastCondition)

/-- The window's figures stand, with the entries that belong to no step, and so does every step that is OPENING. -/
structure WindowStands (s t : State) : Prop where
  figures : windowFigures t = windowFigures s
  yard : yardOf t.link.alarms = yardOf s.link.alarms
  opening : StaysOpening s t

theorem WindowStands.after {s t u : State} (b : WindowStands t u) (a : WindowStands s t) : WindowStands s u :=
  ⟨b.figures.trans a.figures, b.yard.trans a.yard, b.opening.after a.opening⟩

theorem WindowStands.entries {s t : State} (h : WindowStands s t) {k : AlarmKind} (hk : subjectClass k ≠ 0) :
    ofKind k t.link.alarms = ofKind k s.link.alarms := ofKind_of_yardOf hk h.yard

theorem windowStands_settle (s : State) : WindowStands s (settle s) :=
  ⟨by simp [windowFigures], by simp, staysOpening_settle s⟩

theorem windowStands_openAll (s : State) : WindowStands s (openAll s) := by
  refine ⟨openAll_keeps windowFigures (fun i t => by simp [windowFigures]) s, yardOf_openAll s, fun i opening => ?_⟩
  have stays := openAll_stays (i := i) (s := s) (by simp [opening])
  exact (congrArg StepRec.state stays.1).trans opening

theorem windowStands_vcWithdrawCheck (s : State) : WindowStands s (vcWithdrawCheck s) := by
  unfold vcWithdrawCheck
  split
  · exact ⟨by simp [windowFigures], by simp, .of_recs (by simp)⟩
  · exact ⟨rfl, rfl, .of_recs rfl⟩

end Sys2Proof.Proofs

namespace Sys2Proof.Proofs

open Sys2Proof.Machine Sys2Proof.Safety Sys2Proof.Laws

/-! ### The band accumulators (R101) -/

/-- The accumulators after a window in which the bus is not dead, with whether they have reached their delays. -/
def bandMoved (y : YardSettings) (v : VoltageControl) : VoltageControl :=
  let low := if v.vctrl < v.bandLow then min (v.lowAcc + 1) (delayInCycles y)
    else if v.bandHigh < v.vctrl then 0 else v.lowAcc - 1
  let high := if v.vctrl < v.bandLow then 0
    else if v.bandHigh < v.vctrl then min (v.highAcc + 1) (delayOutCycles y) else v.highAcc - 1
  { v with lowAcc := low, highAcc := high, lowReached := decide (low = delayInCycles y),
           highReached := decide (high = delayOutCycles y) }

theorem vcBand_eq (s : State) :
    vcBand s = { s with vc :=
      (if 0 < s.vc.deadAcc then { s.vc with lowAcc := 0, highAcc := 0, lowReached := false, highReached := false }
       else bandMoved s.cfg.yard s.vc) } := by
  unfold vcBand deadCondition bandMoved
  by_cases dead : 0 < s.vc.deadAcc
  · simp only [dead, decide_true, if_true]
    rfl
  · simp only [dead, decide_false, if_false, Bool.false_eq_true]
    (repeat' split) <;> rfl

theorem windowStands_vcBand (s : State) : WindowStands s (vcBand s) := by
  rw [vcBand_eq]
  refine ⟨?_, rfl, .of_recs rfl⟩
  unfold windowFigures
  dsimp only
  split <;> rfl

/-! ### The ordinary request (R105) -/

/-- The state in which the ordinary request is decided. -/
def decidedAs (r : VcRequestState) (unfound : Bool) (pending : VcPending) (s : State) : State :=
  { s with vc := { s.vc with request := r, noCandidate := unfound }, arb := { s.arb with vcRequest := pending } }

/-- A request that is placed is ordinary, unless one pends already (R94). -/
def placedRequest (p : VcPending) : VcPending := if p = .absent then .ordinary else p

/-- A selection decides the request: with a candidate it is placed, without one it is withdrawn (R105). -/
theorem vcDecided_eq (cand : Option StepId) (pending : VcRequestState) (s : State) :
    vcDecided cand pending s =
      if cand = none then decidedAs .idle true .absent s
      else decidedAs pending false (placedRequest s.arb.vcRequest) s := by
  cases cand <;> rfl

/-- The table of R105. -/
theorem vcDecide_eq {s : State} (free : ¬(s.vc.request = .operating ∨ s.vc.request = .fastPending)) :
    vcDecide s =
      if s.vc.lowReached = true then
        if s.hs.vActive = true ∨ s.io.inp0.level = true then decidedAs .addBlocked s.vc.noCandidate .absent s
        else vcDecided (addCandidate s) .addPending s
      else if s.vc.highReached = true then vcDecided (removeCandidate s) .removePending s
      else decidedAs .idle false .absent s := by
  simp only [vcDecide, free, if_false, Bool.or_eq_true]
  rfl

theorem windowStands_decidedAs (r : VcRequestState) (n : Bool) (p : VcPending) (s : State) :
    WindowStands s (decidedAs r n p s) := ⟨rfl, rfl, .of_recs rfl⟩

theorem windowStands_vcDecide (s : State) : WindowStands s (vcDecide s) := by
  by_cases busy : s.vc.request = .operating ∨ s.vc.request = .fastPending
  · rw [vcDecide, if_pos busy]
    exact ⟨rfl, rfl, .of_recs rfl⟩
  · rw [vcDecide_eq busy]
    simp only [vcDecided_eq]
    (repeat' split) <;> exact windowStands_decidedAs _ _ _ s

/-- The selection of a step and the request it leads to (R104, R105). -/
theorem vcDecided_cases (cand : Option StepId) (pending : VcRequestState) (s : State) :
    (cand ≠ none → vcDecided cand pending s = decidedAs pending false (placedRequest s.arb.vcRequest) s) ∧
    (cand = none → vcDecided cand pending s = decidedAs .idle true .absent s) := by
  rw [vcDecided_eq]
  exact ⟨fun some => if_neg some, fun none => if_pos none⟩

end Sys2Proof.Proofs

namespace Sys2Proof.Proofs

open Sys2Proof.Machine Sys2Proof.Safety Sys2Proof.Laws

/-! ### The dead bus (R111 to R113) -/

/-- DEAD_ACC after the window. -/
def deadCount (s : State) : Nat := if busDead s then min (s.vc.deadAcc + 1) s.cfg.yard.deadDelay else 0

/-- The window opens the yard: the bus is dead and DEAD_ACC at its delay. -/
def deadFires (s : State) : Bool := busDead s && decide (deadCount s = s.cfg.yard.deadDelay)

/-- The state with the dead stage's figures after the window. -/
def deadFormed (s : State) : State :=
  { s with vc.deadAcc := deadCount s, vc.deadOpened := busDead s && (s.vc.deadOpened || deadFires s) }

/-- The state in which DEAD_ACC has counted the window and the dead opened flag is set. -/
def deadFlagged (s : State) : State :=
  { s with vc.deadAcc := min (s.vc.deadAcc + 1) s.cfg.yard.deadDelay, vc.deadOpened := true }

/-- A notice that ends the cause of a latching kind does nothing else to its entries. -/
theorem causeOver_of_causeOverIf {k : AlarmKind} {sub : Subject} {b : Bool} {s t : State}
    (h : t.link.alarms = causeOverIf b k sub s.link.alarms) : CauseOver k sub b s t :=
  (congrArg (ofKind k) h).trans (ofKind_causeOverIf b k sub s.link.alarms)

/-- The bus is not dead while one phase stands at DEAD_LEVEL or above (R111). -/
theorem busDead_false {s : State} (alive : busP s 0 < s.cfg.yard.deadLevel → busP s 1 < s.cfg.yard.deadLevel →
    s.cfg.yard.deadLevel ≤ busP s 2) : busDead s = false := by
  refine Bool.eq_false_iff.mpr fun dead => ?_
  simp only [busDead, Bool.and_eq_true, decide_eq_true_eq] at dead
  obtain ⟨⟨low0, low1⟩, low2⟩ := dead
  exact absurd (alive low0 low1) (Nat.not_le.mpr low2)

theorem vcDead_alive {s : State} (alive : busDead s = false) : vcDead s = clearDead s := by
  rw [vcDead, alive]
  rfl

theorem vcDead_counts {s : State} (dead : busDead s = true) (early : deadFires s = false) :
    vcDead s = { s with vc.deadAcc := min (s.vc.deadAcc + 1) s.cfg.yard.deadDelay } := by
  have below : min (s.vc.deadAcc + 1) s.cfg.yard.deadDelay ≠ s.cfg.yard.deadDelay := by
    simpa [deadFires, deadCount, dead] using early
  rw [vcDead, if_pos dead]
  exact if_neg below

/-- The steps are opened at every window that fires; the band is cleared and the alarm raised at the first (R112). -/
theorem vcDead_fires {s : State} (fires : deadFires s = true) :
    vcDead s = if s.vc.deadOpened then openAll (deadFlagged s)
      else raise .deadBusOpen .yard (clearBand (openAll (deadFlagged s))) := by
  obtain ⟨dead, reached⟩ : busDead s = true ∧ deadCount s = s.cfg.yard.deadDelay := by simpa [deadFires] using fires
  rw [deadCount, if_pos dead] at reached
  rw [vcDead, if_pos dead]
  refine (if_pos reached).trans ?_
  cases opened : s.vc.deadOpened
  · rfl
  · rw [deadFlagged, ← opened]

/-- What step 2 of R100 makes of a window. -/
structure DeadTaken (s t : State) : Prop where
  figures : windowFigures t = windowFigures (deadFormed s)
  opens : deadFires s = true → ∀ i, ((s.stepRec i).state = .closed ∨ (s.stepRec i).state = .closing) →
    (s.lines i).direct = false → (t.stepRec i).state = .opening
  raised : deadFires s = true → s.vc.deadOpened = false → AlarmStands .deadBusOpen .yard t
  ended : busDead s = false → CauseOver .deadBusOpen .yard s.vc.deadOpened s t
  fast : ofKind .fastOv t.link.alarms = ofKind .fastOv s.link.alarms

theorem vcDead_taken (s : State) : DeadTaken s (vcDead s) := by
  have passes : Passes (fun e => decide (e.kind = .fastOv)) .deadBusOpen .yard := passes_ofKind (by decide) _
  cases dead : busDead s with
  | false =>
    have quiet : deadFires s = false := by simp [deadFires, dead]
    rw [vcDead_alive dead, clearDead_eq]
    refine ⟨?_, by simp [quiet], by simp [quiet], fun _ => causeOver_of_causeOverIf rfl, causeOverIf_filter passes _ _⟩
    rw [deadFormed, dead, deadCount, dead]
    rfl
  | true =>
    cases fires : deadFires s with
    | false =>
      rw [vcDead_counts dead fires]
      refine ⟨?_, by simp [fires], by simp [fires], by simp [dead], rfl⟩
      rw [deadFormed, dead, fires, Bool.or_false, Bool.true_and, deadCount, dead]
      rfl
    | true =>
      have stands := windowStands_openAll (deadFlagged s)
      have opens (i : StepId) (moves : (s.stepRec i).state = .closed ∨ (s.stepRec i).state = .closing)
          (part : (s.lines i).direct = false) : ((openAll (deadFlagged s)).stepRec i).state = .opening :=
        congrArg StepRec.state (openAll_trips (s := deadFlagged s) part moves).1
      have figures : windowFigures (openAll (deadFlagged s)) = windowFigures (deadFormed s) := by
        rw [stands.figures, deadFormed, dead, fires, Bool.or_true, deadCount, dead]
        rfl
      have entries : ofKind .fastOv (openAll (deadFlagged s)).link.alarms = ofKind .fastOv s.link.alarms :=
        stands.entries (by decide)
      rw [vcDead_fires fires]
      split
      · next opened => exact ⟨figures, fun _ => opens, by simp [opened], by simp [dead], entries⟩
      · exact ⟨figures, fun _ => opens, fun _ _ => alarmStands_raise _ _ _, by simp [dead],
          (raise_filter passes _).trans entries⟩

/-! ### The fast stage (R109, R110) -/

/-- FAST_ACC after the window. -/
def fastCount (s : State) : Nat :=
  if s.cfg.yard.fastLevel ≤ s.vc.vctrl then
    if s.cfg.yard.fastDelay ≤ s.vc.fastAcc + 1 then 0 else s.vc.fastAcc + 1
  else 0

/-- The fast condition after the window. -/
def fastHolds (s : State) : Bool :=
  decide (s.cfg.yard.fastLevel ≤ s.vc.vctrl) &&
    (s.vc.fastCondition || decide (s.cfg.yard.fastDelay ≤ s.vc.fastAcc + 1))

/-- The state with the fast stage's figures after the window. -/
def fastFormed (s : State) : State := { s with vc.fastAcc := fastCount s, vc.fastCondition := fastHolds s }

/-- The state in which the removal is due and the request for the right urgent (R95, R109). -/
def fastFired (s : State) : State :=
  { s with
    vc := { s.vc with fastAcc := 0, fastDue := true, fastCondition := true,
                      request := if s.vc.request = .operating then .operating else .fastPending },
    arb := { s.arb with vcRequest := .urgent, busy := if s.arb.busy = .inOperation then .inOperation else .notBusy } }

section

variable {s : State}

theorem vcFast_fires (level : s.cfg.yard.fastLevel ≤ s.vc.vctrl) (due : s.cfg.yard.fastDelay ≤ s.vc.fastAcc + 1) :
    vcFast s = raise .fastOv .yard (fastFired s) := by
  simp only [vcFast, level, due, if_true]
  rfl

theorem vcFast_counts (level : s.cfg.yard.fastLevel ≤ s.vc.vctrl) (early : s.vc.fastAcc + 1 < s.cfg.yard.fastDelay) :
    vcFast s = { s with vc.fastAcc := s.vc.fastAcc + 1 } := by
  simp only [vcFast, level, Nat.not_le.mpr early, if_true, if_false]

theorem vcFast_below (below : s.vc.vctrl < s.cfg.yard.fastLevel) :
    vcFast s = { s with
      vc := { s.vc with fastAcc := 0, fastCondition := false },
      link.alarms := causeOverIf s.vc.fastCondition .fastOv .yard s.link.alarms } := by
  rw [vcFast, if_neg (Nat.not_le.mpr below), clearFastCondition_eq]

end

/-- Step 3 touches voltage control, its request for the right and the alarm set (R109, R110). -/
theorem vcFast_frame (s : State) :
    vcFast s = { s with vc := (vcFast s).vc, arb := (vcFast s).arb,
                        link := { s.link with alarms := (vcFast s).link.alarms } } := by
  by_cases level : s.cfg.yard.fastLevel ≤ s.vc.vctrl
  · by_cases due : s.cfg.yard.fastDelay ≤ s.vc.fastAcc + 1
    · rw [vcFast_fires level due]
      rfl
    · rw [vcFast_counts level (Nat.lt_of_not_le due)]
  · rw [vcFast_below (Nat.lt_of_not_le level)]

/-- What step 3 of R100 makes of a window in AUTO. -/
structure FastTaken (s t : State) : Prop where
  figures : windowFigures t = windowFigures (fastFormed s)
  opening : StaysOpening s t
  dead : ofKind .deadBusOpen t.link.alarms = ofKind .deadBusOpen s.link.alarms
  raised : s.cfg.yard.fastLevel ≤ s.vc.vctrl → s.cfg.yard.fastDelay ≤ s.vc.fastAcc + 1 → AlarmStands .fastOv .yard t
  ended : s.vc.vctrl < s.cfg.yard.fastLevel → CauseOver .fastOv .yard s.vc.fastCondition s t

theorem vcFast_taken (s : State) : FastTaken s (vcFast s) := by
  have passes : Passes (fun e => decide (e.kind = .deadBusOpen)) .fastOv .yard := passes_ofKind (by decide) _
  by_cases level : s.cfg.yard.fastLevel ≤ s.vc.vctrl
  · by_cases due : s.cfg.yard.fastDelay ≤ s.vc.fastAcc + 1
    · rw [vcFast_fires level due]
      refine ⟨?_, .of_recs rfl, raise_filter passes _, fun _ _ => alarmStands_raise _ _ _,
        fun below => absurd level (Nat.not_le.mpr below)⟩
      simp [windowFigures, fastFired, fastFormed, fastCount, fastHolds, level, due]
    · rw [vcFast_counts level (Nat.lt_of_not_le due)]
      refine ⟨?_, .of_recs rfl, rfl, fun _ now => absurd now due, fun below => absurd level (Nat.not_le.mpr below)⟩
      simp [windowFigures, fastFormed, fastCount, fastHolds, level, due]
  · rw [vcFast_below (Nat.lt_of_not_le level)]
    refine ⟨?_, .of_recs rfl, causeOverIf_filter passes _ _, fun now => absurd now level,
      fun _ => causeOver_of_causeOverIf rfl⟩
    simp [windowFigures, fastFormed, fastCount, fastHolds, level]

end Sys2Proof.Proofs

namespace Sys2Proof.Proofs

open Sys2Proof.Machine Sys2Proof.Safety Sys2Proof.Laws

/-! ### The evaluation as a whole (R100) -/

/-- Steps 3 to 6 of R100, with the consequences of each request. -/
def vcRest (s : State) : State :=
  settle (vcWithdrawCheck (if s.vc.auto then settle (vcDecide (vcBand (settle (vcFast s)))) else s))

/-- In AUTO step 3 forms the fast stage, and what follows leaves it; in MANUAL the window's figures stand. -/
theorem vcRest_cases (s : State) :
    (s.vc.auto = true ∧ WindowStands (vcFast s) (vcRest s)) ∨ (s.vc.auto = false ∧ WindowStands s (vcRest s)) := by
  have last (t : State) : WindowStands t (settle (vcWithdrawCheck t)) :=
    (windowStands_settle _).after (windowStands_vcWithdrawCheck t)
  unfold vcRest
  cases s.vc.auto
  · exact .inr ⟨rfl, last s⟩
  · exact .inl ⟨rfl, (last _).after ((windowStands_settle _).after ((windowStands_vcDecide _).after
      ((windowStands_vcBand _).after (windowStands_settle _))))⟩

/-- What steps 2 to 6 of R100 make of a window whose V_CTRL is formed. -/
structure VcEvaluated (s t : State) : Prop where
  figures : windowFigures t = windowFigures (if s.vc.auto then fastFormed (deadFormed s) else deadFormed s)
  opens : deadFires s = true → ∀ i, ((s.stepRec i).state = .closed ∨ (s.stepRec i).state = .closing) →
    (s.lines i).direct = false → (t.stepRec i).state = .opening
  deadRaised : deadFires s = true → s.vc.deadOpened = false → AlarmStands .deadBusOpen .yard t
  deadEnded : busDead s = false → CauseOver .deadBusOpen .yard s.vc.deadOpened s t
  fastRaised : s.vc.auto = true → s.cfg.yard.fastLevel ≤ s.vc.vctrl → s.cfg.yard.fastDelay ≤ s.vc.fastAcc + 1 →
    AlarmStands .fastOv .yard t
  fastEnded : s.vc.auto = true → s.vc.vctrl < s.cfg.yard.fastLevel → CauseOver .fastOv .yard s.vc.fastCondition s t

theorem windowFigures_iff (s t : State) :
    windowFigures t = windowFigures s ↔
      t.rx = s.rx ∧ t.mu = s.mu ∧ t.io = s.io ∧ t.cfg = s.cfg ∧ t.clock = s.clock ∧ t.vc.auto = s.vc.auto ∧
      t.vc.vctrl = s.vc.vctrl ∧ t.vc.deadAcc = s.vc.deadAcc ∧ t.vc.deadOpened = s.vc.deadOpened ∧
      t.vc.fastAcc = s.vc.fastAcc ∧ t.vc.fastCondition = s.vc.fastCondition := by
  simp only [windowFigures, Prod.mk.injEq]

/-- The fast stage goes by V_CTRL, the settings and its own figures. -/
theorem fast_congr {s t : State} (cfg : t.cfg = s.cfg) (vctrl : t.vc.vctrl = s.vc.vctrl)
    (acc : t.vc.fastAcc = s.vc.fastAcc) (condition : t.vc.fastCondition = s.vc.fastCondition) :
    fastCount t = fastCount s ∧ fastHolds t = fastHolds s := by
  rw [fastCount, fastHolds, cfg, vctrl, acc, condition]
  exact ⟨rfl, rfl⟩

theorem vcRest_evaluated (s : State) : VcEvaluated s (vcRest (vcDead s)) := by
  obtain ⟨figures, opens, raised, ended, fast⟩ := vcDead_taken s
  generalize vcDead s = u at *
  have parts := (windowFigures_iff _ _).mp figures
  obtain ⟨rx, mu, io, cfg, clock, auto, vctrl, deadAcc, deadOpened, fastAcc, condition⟩ := parts
  obtain ⟨inAuto, stands⟩ | ⟨manual, stands⟩ := vcRest_cases u
  · obtain ⟨figures', opening', dead', raised', ended'⟩ := vcFast_taken u
    obtain ⟨count, holds⟩ := fast_congr cfg vctrl fastAcc condition
    have inAuto' : s.vc.auto = true := auto.symm.trans inAuto
    rw [cfg, vctrl] at raised'
    rw [cfg, vctrl, condition] at ended'
    refine ⟨?_, fun fires i moves part => stands.opening i (opening' i (opens fires i moves part)),
      fun fires first => alarmStands_of_ofKind ((stands.entries (by decide)).trans dead') (raised fires first),
      fun alive => CauseOver.congr (ended alive) rfl ((stands.entries (by decide)).trans dead'), fun _ level due => ?_,
      fun _ below => ?_⟩
    · refine (stands.figures.trans figures').trans ((windowFigures_iff _ _).mpr ?_)
      rw [if_pos inAuto']
      exact ⟨rx, mu, io, cfg, clock, auto, vctrl, deadAcc, deadOpened, count, holds⟩
    · exact alarmStands_of_ofKind (stands.entries (by decide)) (raised' level (by rw [fastAcc]; exact due))
    · exact CauseOver.congr (ended' below) fast.symm (stands.entries (by decide))
  · have manual' : ¬s.vc.auto = true := Bool.eq_false_iff.mp (auto.symm.trans manual)
    refine ⟨?_, fun fires i moves part => stands.opening i (opens fires i moves part),
      fun fires first => alarmStands_of_ofKind (stands.entries (by decide)) (raised fires first),
      fun alive => CauseOver.congr (ended alive) rfl (stands.entries (by decide)), fun inAuto => absurd inAuto manual',
      fun inAuto => absurd inAuto manual'⟩
    refine stands.figures.trans (figures.trans ?_)
    rw [if_neg manual']

/-- The figures of an evaluated window, one by one. -/
theorem VcEvaluated.fields {s t : State} (e : VcEvaluated s t) :
    t.rx = s.rx ∧ t.mu = s.mu ∧ t.io = s.io ∧ t.cfg = s.cfg ∧ t.clock = s.clock ∧ t.vc.auto = s.vc.auto ∧
    t.vc.vctrl = s.vc.vctrl ∧ t.vc.deadAcc = deadCount s ∧
    t.vc.deadOpened = (busDead s && (s.vc.deadOpened || deadFires s)) ∧
    t.vc.fastAcc = (if s.vc.auto then fastCount s else s.vc.fastAcc) ∧
    t.vc.fastCondition = (if s.vc.auto then fastHolds s else s.vc.fastCondition) := by
  have parts := (windowFigures_iff _ _).mp e.figures
  by_cases auto : s.vc.auto = true
  · rw [if_pos auto] at parts
    rw [if_pos auto, if_pos auto]
    exact parts
  · rw [if_neg auto] at parts
    rw [if_neg auto, if_neg auto]
    exact parts

/-- The mode is read before step 3 and before step 4, and no step changes it. -/
theorem vcGood_eq (s : State) : vcGood s = vcRest (vcDead (vcForm s)) := by
  unfold vcGood vcRest
  generalize vcDead (vcForm s) = t
  have mode : (settle (vcFast t)).vc.auto = t.vc.auto := by
    have parts := (windowFigures_iff _ _).mp ((windowStands_settle _).figures.trans (vcFast_taken t).figures)
    obtain ⟨-, -, -, -, -, auto, -⟩ := parts
    exact auto
  cases auto : t.vc.auto
  · simp only [Bool.false_eq_true, if_false, auto]
  · simp only [if_true, mode, auto]

/-- The state in which voltage control has taken the window end and formed V_CTRL (R11, R99, R100). -/
def vcTaken (h : InHand) (s : State) : State :=
  vcForm { s with rx.inHand := if h.hs || h.ub then some { h with vc := false } else none }

/-- The evaluation of a good window end in hand (R100). -/
theorem exec_vcEvaluation_good {h : InHand} {s : State} (running : s.resetHeld = false) (hh : s.rx.inHand = some h)
    (vc : h.vc = true) (good : h.good = true) (published : s.mu.computing = none) :
    exec .vcEvaluation s = .next (vcRest (vcDead (vcTaken h s))) := by
  have due : dueFor InHand.vc s = some true := by simp [dueFor, hh, vc, good, published]
  have rest : consumed (fun h => { h with vc := false }) s =
      { s with rx.inHand := if h.hs || h.ub then some { h with vc := false } else none } := by
    simp [consumed, hh]
  refine (live_running s vcEvaluate running).trans ?_
  simp only [vcEvaluate, due, if_true, rest, vcGood_eq]
  rfl

/-! ### The withdrawal of the unit's own close (R106) -/

section

variable {s : State}

/-- Without the dead condition and HARM_ALARM_V nothing is withdrawn. -/
theorem vcWithdrawCheck_calm (alive : s.vc.deadAcc = 0) (inactive : s.hs.vActive = false) : vcWithdrawCheck s = s := by
  simp [vcWithdrawCheck, deadCondition, alive, inactive]

/-- Without a close that has not started its pulse there is nothing to withdraw. -/
theorem vcWithdrawCheck_quiet (none : ∀ i, NoOtherHeldClose i s) : vcWithdrawCheck s = s := by
  rw [vcWithdrawCheck, vcWithdrawClose_none (unheld_of_noOther none), ite_self]

/-- The one held close is withdrawn if it is the unit's own. -/
theorem vcWithdrawCheck_held {i : StepId} {o : Operation} (held : (s.lane i).op = some o) (unpulsed : o.unpulsed = true)
    (alone : NoOtherHeldClose i s) (cause : 0 < s.vc.deadAcc ∨ s.hs.vActive = true) :
    vcWithdrawCheck s = if o.source = .vc then abandonClose i .preempted none s else s := by
  have due : (deadCondition s.vc || s.hs.vActive) = true := by simpa [deadCondition] using cause
  rw [vcWithdrawCheck, if_pos due, vcWithdrawClose_held held unpulsed alone]

/-- A close in motion is none to withdraw. -/
theorem vcWithdrawCheck_inMotion {i : StepId} {o : Operation} (held : (s.lane i).op = some o)
    (moves : o.phase = .inMotion) (alone : NoOtherHeldClose i s) : vcWithdrawCheck s = s := by
  refine vcWithdrawCheck_quiet fun j k ne => ?_
  by_cases own : k = i
  · rw [own, held]
    exact unpulsed_inMotion moves
  · exact alone k own

end

/-! ### Voltage control at a good window -/

/-- Settles O25: the evaluation as a whole, its order, and each step by itself. -/
theorem voltageControlEvaluatesAGoodWindow : Obligations.VoltageControlEvaluatesAGoodWindow := by
  unfold Obligations.VoltageControlEvaluatesAGoodWindow
  refine ⟨fun h s running hh vc good published => ?whole, fun h s running hh vc good published => ?order,
    fun s => ⟨_, rfl⟩, fun s alive => ?dead, fun s => ?fast, vcBand_eq, fun s => ?decide, fun s => ?withdraw,
    fun s => rfl⟩
  case whole =>
    have e := vcRest_evaluated (vcTaken h s)
    refine ⟨_, exec_vcEvaluation_good running hh vc good published, ?_⟩
    generalize vcRest (vcDead (vcTaken h s)) = t at *
    obtain ⟨rx, mu, io, cfg, clock, auto, vctrl, deadAcc, deadOpened, fastAcc, condition⟩ := e.fields
    exact ⟨vctrl, auto, deadAcc, deadOpened, e.opens, e.deadRaised, e.deadEnded, e.fastEnded, fastAcc, condition,
      e.fastRaised, rx, mu, io, cfg, clock⟩
  case order =>
    obtain ⟨-, -, -, -, -, auto, -⟩ := (windowFigures_iff _ _).mp (vcDead_taken (vcTaken h s)).figures
    refine (exec_vcEvaluation_good running hh vc good published).trans ?_
    rw [vcRest, auto]
    rfl
  case dead =>
    rw [vcDead_alive (busDead_false alive), clearDead_eq]
    rfl
  case fast =>
    refine ⟨vcFast_frame s, fun level due => ?_, fun level early => vcFast_counts level early, fun below => ?_⟩
    · rw [vcFast_fires level due]
      refine ⟨rfl, congrArg (fun b : Busy => { s.arb with vcRequest := .urgent, busy := b }) ?_⟩
      cases s.arb.busy <;> rfl
    · have taken := (vcFast_taken s).ended below
      rw [vcFast_below below] at taken ⊢
      exact ⟨rfl, rfl, taken⟩
  case decide =>
    obtain ⟨added, unadded⟩ := vcDecided_cases (addCandidate s) .addPending s
    obtain ⟨removed, unremoved⟩ := vcDecided_cases (removeCandidate s) .removePending s
    dsimp only
    split
    · next busy => exact if_pos busy
    · next free =>
      rw [vcDecide_eq free]
      by_cases low : s.vc.lowReached = true
      · rw [if_pos low, if_pos low]
        refine ⟨fun blocked => if_pos blocked, fun inactive clear => ?_⟩
        rw [if_neg (by simp [inactive, clear])]
        exact ⟨added, unadded⟩
      · rw [if_neg low, if_neg low]
        by_cases high : s.vc.highReached = true
        · rw [if_pos high, if_pos high]
          exact ⟨removed, unremoved⟩
        · rw [if_neg high, if_neg high]
          rfl
  case withdraw =>
    refine ⟨vcWithdrawCheck_calm, vcWithdrawCheck_quiet, fun i o tm held kind alone cause => ⟨fun stays => ?_,
      fun own waits => ?_⟩⟩
    · by_cases moves : o.phase = .inMotion
      · exact vcWithdrawCheck_inMotion held moves alone
      · rw [vcWithdrawCheck_held held (by simpa [unpulsed_close kind] using moves) alone cause,
          if_neg (stays.resolve_right moves)]
    · obtain ⟨lane, schedule, syncWait, arb, report, -⟩ := abandonClose_ended none held
      obtain ⟨oe, vc⟩ := report own
      rw [vcWithdrawCheck_held held (by simpa [unpulsed_close kind] using waits) alone cause, if_pos own]
      exact ⟨lane, schedule, syncWait, arb, (abandonClose_tbl_closePulse i _ _ s).1, oe, vc⟩

end Sys2Proof.Proofs

namespace Sys2Proof.Proofs

open Sys2Proof.Machine Sys2Proof.Safety Sys2Proof.Laws

/-! ### What switching leaves to the harmonic supervisor -/

/-- A selection of entries without the kinds whose notices follow a pulse or a right-free order (R62, R138, R147). -/
def Unswitched (p : AlarmEntry → Bool) : Prop :=
  ∀ e : AlarmEntry, e.kind ∈ [AlarmKind.unbalanceAlarm, .positionInvalid, .unbalanceTrip] → p e = false

theorem Unswitched.passes {p : AlarmEntry → Bool} (hp : Unswitched p) {k : AlarmKind}
    (hk : k ∈ [AlarmKind.unbalanceAlarm, .positionInvalid, .unbalanceTrip]) (sub : Subject) : Passes p k sub :=
  fun e own _ => hp e (own ▸ hk)

theorem unswitched_ofKind {k : AlarmKind} (hk : k ∉ [AlarmKind.unbalanceAlarm, .positionInvalid, .unbalanceTrip]) :
    Unswitched fun e => decide (e.kind = k) := fun _ touched => decide_eq_false fun own => hk (own ▸ touched)

theorem unswitched_entriesOf {k : AlarmKind} (hk : k ∉ [AlarmKind.unbalanceAlarm, .positionInvalid, .unbalanceTrip])
    (sub : Subject) : Unswitched fun e => decide (e.kind = k ∧ e.subject = sub) :=
  fun _ touched => decide_eq_false fun own => hk (own.1 ▸ touched)

/-- The resonance suspect flags and a selection of the alarm entries. -/
def spared (p : AlarmEntry → Bool) (s : State) : (StepId → Bool) × List AlarmEntry :=
  (fun j => (s.stepRec j).suspect, s.link.alarms.filter p)

theorem spared_iff {p : AlarmEntry → Bool} {s t : State} :
    spared p t = spared p s ↔
      (∀ j, (t.stepRec j).suspect = (s.stepRec j).suspect) ∧ t.link.alarms.filter p = s.link.alarms.filter p := by
  rw [spared, spared, Prod.mk.injEq, funext_iff]

section

variable {p : AlarmEntry → Bool} (hp : Unswitched p)

theorem spared_congr {s t : State} (recs : t.tbl.recs = s.tbl.recs) (link : t.link = s.link) :
    spared p t = spared p s :=
  spared_iff.mpr ⟨fun j => congrArg StepRec.suspect (stepRec_congr recs j), by rw [link]⟩

theorem spared_modStep (i : StepId) (f : StepRec → StepRec) (s : State)
    (h : ∀ r, (f r).suspect = r.suspect := by exact fun _ => rfl) : spared p (s.modStep i f) = spared p s := by
  refine spared_iff.mpr ⟨fun j => ?_, rfl⟩
  rw [State.modStep_stepRec]
  split
  · next own => rw [h, own]
  · rfl

theorem spared_watchClose (i : StepId) (s : State) : spared p (watchClose i s) = spared p s :=
  spared_congr (by simp) (by simp)

theorem spared_endReport (src : Requester) (out : OrderOutcome) (r : Option Reason) (s : State) :
    spared p (endReport src out r s) = spared p s := spared_congr (by simp) (by simp)

/-- Notices to the alarm set leave the suspect flags. -/
theorem spared_of_filter {s t : State} (recs : t.tbl.recs = s.tbl.recs)
    (entries : t.link.alarms.filter p = s.link.alarms.filter p) : spared p t = spared p s :=
  spared_iff.mpr ⟨fun j => congrArg StepRec.suspect (stepRec_congr recs j), entries⟩

/-- An arming request touches no suspect flag and no alarm (R69, R70). -/
theorem spared_armHoldoff (i : StepId) (s : State) : spared p (armHoldoff i s) = spared p s := by
  unfold armHoldoff startHoldoff
  dsimp only
  (repeat' split)
  · exact (spared_watchClose i _).trans ((spared_modStep i _ _).trans (spared_congr rfl rfl))
  all_goals exact spared_congr rfl rfl

include hp

theorem leftAlarms_unswitched (old : StepState) (i : StepId) (s : State) :
    (leftAlarms old i s).filter p = s.link.alarms.filter p := by
  unfold leftAlarms
  split
  · exact droppedIf_filter (hp.passes (by decide) _) _ _
  · exact droppedIf_filter (hp.passes (by decide) _) _ _
  · rfl

/-- Only an entry into OPEN or FAULTED clears a suspect flag (R51, R52, R130). -/
theorem spared_moveStep {new : StepState} (marks : clearsSuspect new = false) (i : StepId) (s : State) :
    spared p (moveStep i new s) = spared p s := by
  refine spared_iff.mpr ⟨fun j => ?_, ?_⟩
  · rw [moveStep_stepRec]
    split
    · next own => rw [enteredRec_suspect, marks, leftRec_suspect, own]; rfl
    · rfl
  · have entered : (moveStep i new s).link.alarms = leftAlarms (s.stepRec i).state i s := by
      rw [moveStep_alarms]
      cases new with
      | opened => cases marks
      | faulted => cases marks
      | _ => rfl
    rw [entered, leftAlarms_unswitched hp]

theorem spared_tryClosePulse (i : StepId) (s : State) : spared p (tryClosePulse i s) = spared p s := by
  unfold tryClosePulse startClosePulse
  split
  · split
    · rfl
    · exact (spared_moveStep hp rfl i _).trans ((spared_modStep i _ _).trans (spared_congr rfl rfl))
  · exact spared_congr (by simp) (by simp)

theorem spared_scheduleClose (i : StepId) (frame : Word) (wave : BitVec 5) (s : State) :
    spared p (scheduleClose i frame wave s) = spared p s := by
  unfold scheduleClose
  dsimp only
  split
  · exact spared_tryClosePulse hp i s
  · exact spared_congr rfl rfl

theorem spared_synchronizeClose (i : StepId) (src : Requester) (s : State) :
    spared p (synchronizeClose i src s) = spared p s := by
  unfold synchronizeClose
  split
  · exact spared_scheduleClose hp i _ _ s
  · split
    · rfl
    · exact spared_congr (by simp) (by simp)

theorem spared_takeClose (i : StepId) (src : Requester) (tm : Timing) (s : State) :
    spared p (takeClose i src tm s) = spared p s := by
  have taken : spared p (takenClose i src tm s) = spared p s := spared_congr rfl rfl
  have waits (t : State) : spared p (waitingClose src t) = spared p t := by
    unfold waitingClose
    split <;> exact spared_congr rfl rfl
  rw [takeClose_eq]
  split
  · exact (spared_congr (by simp) (by simp)).trans taken
  · split
    · exact (spared_tryClosePulse hp i _).trans taken
    · exact (spared_synchronizeClose hp i src _).trans ((waits _).trans taken)

theorem spared_startTripPulse (i : StepId) (o : Operation) (s : State) :
    spared p (startTripPulse i o s) = spared p s :=
  (spared_moveStep hp rfl i _).trans ((spared_modStep i _ _).trans (spared_congr rfl rfl))

theorem spared_takeOpen (i : StepId) (src : Requester) (s : State) : spared p (takeOpen i src s) = spared p s := by
  unfold takeOpen
  dsimp only
  split
  · exact (spared_startTripPulse hp i _ _).trans (spared_congr rfl rfl)
  · exact spared_congr (by simp) (by simp)

theorem spared_protectiveOpen (i : StepId) (s : State) : spared p (protectiveOpen i s) = spared p s := by
  unfold protectiveOpen
  (repeat' split)
  · rfl
  · exact spared_startTripPulse hp i _ s
  · exact spared_startTripPulse hp i _ s
  · exact (spared_endReport _ _ _ _).trans (spared_startTripPulse hp i _ s)
  · rfl

theorem spared_vcGranted (s : State) : spared p (vcGranted s) = spared p s := by
  obtain ⟨v, released | ⟨i, opens⟩ | ⟨i, closes⟩⟩ := vcGranted_cases s
  · rw [released]
    exact spared_congr rfl rfl
  · rw [opens]
    exact (spared_takeOpen hp i _ _).trans (spared_congr rfl rfl)
  · rw [closes]
    exact (spared_takeClose hp i _ _ _).trans (spared_congr rfl rfl)

theorem spared_handOver (x : StartItem) (s : State) : spared p (handOver x s) = spared p s := by
  unfold handOver
  dsimp only
  split
  · exact (spared_takeClose hp _ _ _ _).trans (spared_congr rfl rfl)
  · exact (spared_takeOpen hp _ _ _).trans (spared_congr rfl rfl)

/-- A reset of LOCKOUT touches the unbalance alarms only (R147). -/
theorem spared_runResetLockout (i : StepId) (s : State) : spared p (runResetLockout i s) = spared p s := by
  have cleared (t : State) : spared p (clearStages i t) = spared p t := by
    rw [clearStages_eq]
    exact spared_of_filter rfl (droppedIf_filter (hp.passes (by decide) _) _ _)
  have taken (t : State) : spared p (takeDeparture i t) = spared p t := by
    refine spared_of_filter (by simp) ?_
    rw [takeDeparture_alarms]
    exact droppedIf_filter (hp.passes (by decide) _) _ _
  have untripped (t : State) : spared p (clearTripped i t) = spared p t := by
    unfold clearTripped
    split
    · rw [endCause_latching rfl]
      exact spared_of_filter rfl (causeOverIf_filter (hp.passes (by decide) _) _ _)
    · exact spared_congr rfl rfl
  rw [runResetLockout_eq, untripped, cleared, taken]
  exact spared_modStep i _ s

theorem spared_startRightFree (x : StartItem) (s : State) : spared p (startRightFree x s) = spared p s := by
  unfold startRightFree runRightFree
  dsimp only
  (repeat' split)
  · exact spared_congr rfl rfl
  · exact spared_modStep x.step (fun c => { c with hold := true }) (leavePosted x.slot s)
  · exact spared_modStep x.step (fun c => { c with hold := false }) (leavePosted x.slot s)
  · exact spared_runResetLockout hp x.step (leavePosted x.slot s)
  · exact spared_congr rfl rfl
  · exact (spared_watchClose x.step _).trans
      (spared_modStep x.step (fun c => { c with retired := true }) (leavePosted x.slot s))
  · refine (spared_watchClose x.step _).trans ((spared_modStep x.step (fun c => { c with cooling := true }) _).trans ?_)
    exact spared_modStep x.step (fun c => { c with retired := false }) (leavePosted x.slot s)
  · exact spared_congr rfl rfl
  · exact spared_congr rfl rfl

/-- The consequences of an event for orders and the right leave the suspect flags and such entries (log 13). -/
theorem spared_settle (s : State) : spared p (settle s) = spared p s :=
  settle_keeps (spared p) (fun _ _ => rfl) (spared_startRightFree hp) (fun _ _ => rfl) (fun _ _ _ => rfl)
    (spared_handOver hp) (spared_vcGranted hp) s

end

end Sys2Proof.Proofs

namespace Sys2Proof.Proofs

open Sys2Proof.Machine Sys2Proof.Safety Sys2Proof.Laws

/-! ### The distortion levels (R119) -/

/-- A channel shows a D: it is not clipped, and its D is defined (R31, R119). -/
def ShownD (s : State) (c : ChanId) (d : Nat) : Prop :=
  (look s.mu.entries c).clipped = false ∧ (look s.mu.entries c).d = some d

theorem trustedD_iff {s : State} {c : ChanId} {d : Nat} : trustedD s c = some d ↔ ShownD s c d := by
  unfold trustedD ShownD
  cases (look s.mu.entries c).clipped <;> simp

/-- A level is the highest of the figures shown, and UNDEFINED when there are none (R119). -/
def HighestOf (shown : Nat → Prop) : Option Nat → Prop
  | none => ∀ d, ¬shown d
  | some x => shown x ∧ ∀ d, shown d → d ≤ x

/-- A level that is the highest of the figures shown is told by them. -/
theorem HighestOf.told {shown : Nat → Prop} {level : Option Nat} (h : HighestOf shown level) :
    (level = none ↔ ∀ d, ¬shown d) ∧ ∀ x, level = some x ↔ shown x ∧ ∀ d, shown d → d ≤ x := by
  cases level with
  | none => exact ⟨⟨fun _ => h, fun _ => rfl⟩, fun x => ⟨nofun, fun top => absurd top.1 (h x)⟩⟩
  | some m =>
    obtain ⟨own, least⟩ := h
    refine ⟨⟨nofun, fun absent => absurd own (absent m)⟩, fun x => ⟨fun same => Option.some.inj same ▸ ⟨own, least⟩,
      fun top => congrArg some (Nat.le_antisymm (top.2 m own) (least x top.1))⟩⟩

theorem highestOf_trustedD (s : State) (c : ChanId) : HighestOf (ShownD s c) (trustedD s c) := by
  have told (d : Nat) := trustedD_iff (s := s) (c := c) (d := d)
  cases trusted : trustedD s c with
  | none => exact fun d shown => nomatch trusted.symm.trans ((told d).mpr shown)
  | some x => exact ⟨(told x).mp trusted, fun d shown =>
      (Option.some.inj (((told d).mpr shown).symm.trans trusted)).le⟩

/-- The higher of two levels is the highest of the figures of both. -/
theorem HighestOf.higher {shown shown' : Nat → Prop} {a b : Option Nat} (ha : HighestOf shown a)
    (hb : HighestOf shown' b) : HighestOf (fun d => shown d ∨ shown' d) (higher a b) := by
  cases a with
  | none =>
    cases b with
    | none => exact fun d either => either.elim (ha d) (hb d)
    | some n => exact ⟨.inr hb.1, fun d either => either.elim (fun own => absurd own (ha d)) (hb.2 d)⟩
  | some m =>
    cases b with
    | none => exact ⟨.inl ha.1, fun d either => either.elim (ha.2 d) (fun own => absurd own (hb d))⟩
    | some n =>
      refine ⟨?_, fun d either => either.elim (fun own => le_max_of_le_left (ha.2 d own))
        (fun own => le_max_of_le_right (hb.2 d own))⟩
      rcases max_choice m n with left | right
      · rw [left]
        exact .inl ha.1
      · rw [right]
        exact .inr hb.1

/-- The level formed of three channels is the highest D that they show. -/
theorem highestOf_three (s : State) (a b c : ChanId) :
    HighestOf (fun d => ShownD s a d ∨ ShownD s b d ∨ ShownD s c d)
      (higher (trustedD s a) (higher (trustedD s b) (trustedD s c))) :=
  (highestOf_trustedD s a).higher ((highestOf_trustedD s b).higher (highestOf_trustedD s c))

/-! ### An alarm stage and its entry (R121, R122) -/

/-- An alarm stage at a good window: it counts at its setting, holds down to the drop-out and ends below (R121). -/
def StageMoved (delay : Nat) (level : Option Nat) (setting count : Nat) (active : Bool) (r : Nat × Bool) : Prop :=
  match level with
  | none => r = (count, active)
  | some x =>
    (setting ≤ x → r.1 = min (count + 1) delay ∧ (r.2 = true ↔ active = true ∨ r.1 = delay)) ∧
    (x < setting → 95 * setting / 100 ≤ x → r = (count, active)) ∧
    (x < setting → x < 95 * setting / 100 → r = (0, false))

theorem alarmStage_moved (level : Option Nat) (setting delay count : Nat) (active : Bool) :
    StageMoved delay level setting count active (alarmStage level setting delay count active) := by
  cases level with
  | none => rfl
  | some x =>
    refine ⟨fun reached => ?_, fun below held => ?_, fun below out => ?_⟩
    · simp [alarmStage, reached]
    · simp [alarmStage, dropOut, Nat.not_le.mpr below, held]
    · simp [alarmStage, dropOut, Nat.not_le.mpr below, Nat.not_le.mpr out]

/-- The entry of an alarm state follows it (R122). -/
def Follows (k : AlarmKind) (was now : Bool) (s t : State) : Prop :=
  (now = true → was = false → AlarmStands k .yard t) ∧ (now = false → was = true → AlarmAbsent k .yard t) ∧
  (now = was → entriesOf k .yard t.link.alarms = entriesOf k .yard s.link.alarms)

theorem Follows.congr {k : AlarmKind} {was now : Bool} {s s' t t' : State} (h : Follows k was now s t)
    (hs : entriesOf k .yard s'.link.alarms = entriesOf k .yard s.link.alarms)
    (ht : entriesOf k .yard t'.link.alarms = entriesOf k .yard t.link.alarms) : Follows k was now s' t' := by
  obtain ⟨raised, ended, same⟩ := h
  exact ⟨fun after before => (alarmStands_congr ht).mpr (raised after before),
    fun after before => (alarmAbsent_congr ht).mpr (ended after before),
    fun still => ht.trans ((same still).trans hs.symm)⟩

/-- What the supervisor's stages leave of the window, the yard and the step table. -/
def besideStage (s : State) : Receiver × Measurement × Inputs × Settings × Clock × StepTable :=
  (s.rx, s.mu, s.io, s.cfg, s.clock, s.tbl)

/-- What an alarm stage makes of a window. -/
structure StageTaken (k : AlarmKind) (was now : Bool) (figures : Harmonic) (s t : State) : Prop where
  hs : t.hs = figures
  beside : besideStage t = besideStage s
  follows : Follows k was now s t
  others : ∀ p, Passes p k .yard → t.link.alarms.filter p = s.link.alarms.filter p

theorem alarmEdge_taken {k : AlarmKind} (hk : k.latching = false) (was now : Bool) (figures : Harmonic) (s : State) :
    StageTaken k was now figures s (alarmEdge k .yard was now { s with hs := figures }) := by
  have alarms := alarmEdge_alarms { s with hs := figures } hk .yard was now
  refine ⟨?_, ?_, ?_, fun p passes => ?_⟩
  · unfold alarmEdge
    (repeat' split) <;> simp
  · unfold alarmEdge
    (repeat' split) <;> simp [besideStage]
  · refine ⟨?_, ?_, ?_⟩
    · rintro rfl rfl
      exact alarmStands_raise k .yard _
    · rintro rfl rfl
      exact alarmAbsent_endCause hk .yard _
    · rintro rfl
      rw [alarms]
      cases now <;> simp [edgedAlarms]
  · rw [alarms, edgedAlarms]
    split
    · exact raiseIn_filter passes _ _ _
    · exact droppedIf_filter passes _ _

theorem hsStageV_taken (s : State) :
    StageTaken .harmAlarmV s.hs.vActive (stageV s).2 { s.hs with vCount := (stageV s).1, vActive := (stageV s).2 } s
      (hsStageV s) := by
  obtain ⟨hs, beside, follows, others⟩ : StageTaken .harmAlarmV s.hs.vActive (stageV s).2
    { s.hs with vCount := (stageV s).1, vActive := (stageV s).2 } s (stagedV s) := alarmEdge_taken rfl _ _ _ s
  rw [hsStageV_eq]
  split
  · have link : (vcWithdrawClose (stagedV s)).link = (stagedV s).link := by simp
    have alarms := congrArg Link.alarms link
    refine ⟨Eq.trans (by simp) hs, Eq.trans (by simp [besideStage]) beside,
      follows.congr rfl (congrArg (entriesOf _ _) alarms), fun p passes => ?_⟩
    rw [alarms, others p passes]
  · exact ⟨hs, beside, follows, others⟩

/-- The I stage's counter and state at a good window (R121). -/
def stageI (s : State) : Nat × Bool :=
  alarmStage s.hs.di s.cfg.yard.diAlarm s.cfg.yard.harmAlarmDelay s.hs.iCount s.hs.iActive

theorem hsStageI_taken (s : State) :
    StageTaken .harmAlarmI s.hs.iActive (stageI s).2 { s.hs with iCount := (stageI s).1, iActive := (stageI s).2 } s
      (hsStageI s) := alarmEdge_taken rfl _ _ _ s

/-- What both alarm stages make of a window. -/
structure StagesTaken (s t : State) : Prop where
  hs : t.hs = { s.hs with vCount := (stageV s).1, vActive := (stageV s).2,
                          iCount := (stageI s).1, iActive := (stageI s).2 }
  beside : besideStage t = besideStage s
  followsV : Follows .harmAlarmV s.hs.vActive (stageV s).2 s t
  followsI : Follows .harmAlarmI s.hs.iActive (stageI s).2 s t
  others : ∀ p, Passes p .harmAlarmV .yard → Passes p .harmAlarmI .yard →
    t.link.alarms.filter p = s.link.alarms.filter p

theorem hsStages_taken (s : State) : StagesTaken s (hsStageI (hsStageV s)) := by
  obtain ⟨hsV, besideV, followsV, othersV⟩ := hsStageV_taken s
  obtain ⟨hsI, besideI, followsI, othersI⟩ := hsStageI_taken (hsStageV s)
  have stage : stageI (hsStageV s) = stageI s := by
    have cfg : (hsStageV s).cfg = s.cfg := congrArg (·.2.2.2.1) besideV
    rw [stageI, hsV, cfg]
    rfl
  rw [stage, hsV] at hsI
  rw [stage, hsV] at followsI
  exact ⟨hsI, besideI.trans besideV, followsV.congr rfl (othersI _ (passes_entriesOf (by decide) _ _)),
    followsI.congr (othersV _ (passes_entriesOf (by decide) _ _)).symm rfl,
    fun p passV passI => (othersI p passI).trans (othersV p passV)⟩

end Sys2Proof.Proofs

namespace Sys2Proof.Proofs

open Sys2Proof.Machine Sys2Proof.Safety Sys2Proof.Laws

/-! ### The resonance watch at a good window (R60, R129, R130) -/

/-- DV has risen by RESONANCE_RISE above the snapshot of a watch, to the alarm level or above (R129). -/
def Rises (y : YardSettings) (dv : Option Nat) (w : Watch) : Prop :=
  ∃ x, dv = some x ∧ w.dvBefore + y.resonanceRise ≤ x ∧ y.dvAlarm ≤ x

/-- A step takes a resonance suspect mark (R60). -/
def TakesMark (i : StepId) (s : State) : Prop :=
  (s.stepRec i).retired = false ∧ (s.stepRec i).state = .closed ∧ i ∈ s.tbl.closedOrder

theorem riseCondition_iff {s : State} {w : Watch} : riseCondition s w = true ↔ Rises s.cfg.yard s.hs.dv w := by
  unfold riseCondition Rises
  cases s.hs.dv <;> simp

/-- The state in which a step carries the suspect mark and heads the list (R60). -/
def marked (i : StepId) (s : State) : State :=
  { s.modStep i fun c => { c with suspect := true } with
    tbl.closedOrder := i :: s.tbl.closedOrder.filter (· ≠ i) }

theorem markSuspect_takes {i : StepId} {s : State} (takes : TakesMark i s) : markSuspect i s = (marked i s, true) := by
  obtain ⟨service, closed, listed⟩ := takes
  simp [markSuspect, service, closed, listed, marked]

theorem markSuspect_refused {i : StepId} {s : State} (refused : ¬TakesMark i s) : markSuspect i s = (s, false) := by
  have closed : (!(s.stepRec i).retired && decide ((s.stepRec i).state = .closed) &&
      decide (i ∈ s.tbl.closedOrder)) = false := by
    simpa [TakesMark, and_assoc] using refused
  simp [markSuspect, closed]

section

variable {s : State} {w : Watch}

theorem hsWatch_none (closed : s.hs.watch = none) : hsWatch s = s := by simp [hsWatch, closed]

theorem hsWatch_goesOn (opened : s.hs.watch = some w) (rise : ¬Rises s.cfg.yard s.hs.dv w) : hsWatch s = s := by
  simp [hsWatch, opened, mt riseCondition_iff.mp rise]

theorem hsWatch_marks (opened : s.hs.watch = some w) (rise : Rises s.cfg.yard s.hs.dv w) (takes : TakesMark w.step s) :
    hsWatch s = raise .resonance (.step w.step) (marked w.step { s with hs.watch := none }) := by
  have mark := markSuspect_takes (s := { s with hs.watch := none }) takes
  simp [hsWatch, opened, riseCondition_iff.mpr rise, mark]

theorem hsWatch_refused (opened : s.hs.watch = some w) (rise : Rises s.cfg.yard s.hs.dv w)
    (refused : ¬TakesMark w.step s) : hsWatch s = { s with hs.watch := none } := by
  have mark := markSuspect_refused (s := { s with hs.watch := none }) refused
  simp [hsWatch, opened, riseCondition_iff.mpr rise, mark]

end

/-- What becomes of a watch, of its step and of RESONANCE at a good window with a DV (R129, R130). -/
def WatchMoved (dv : Option Nat) (s t : State) : Prop :=
  (s.hs.watch = none → t.hs.watch = none ∧ ofKind .resonance t.link.alarms = ofKind .resonance s.link.alarms) ∧
  ∀ w, s.hs.watch = some w →
    (¬Rises s.cfg.yard dv w →
      t.hs.watch = some w ∧ ofKind .resonance t.link.alarms = ofKind .resonance s.link.alarms) ∧
    (Rises s.cfg.yard dv w → t.hs.watch = none) ∧
    (Rises s.cfg.yard dv w → TakesMark w.step s →
      (t.stepRec w.step).suspect = true ∧ AlarmStands .resonance (.step w.step) t) ∧
    (Rises s.cfg.yard dv w → ¬TakesMark w.step s →
      ofKind .resonance t.link.alarms = ofKind .resonance s.link.alarms)

/-- What follows leaves the watch, the suspect flags and the entries of RESONANCE. -/
theorem WatchMoved.after {dv : Option Nat} {s t u : State} (h : WatchMoved dv s t) (watch : u.hs.watch = t.hs.watch)
    (spares : spared (fun e => decide (e.kind = .resonance)) u = spared (fun e => decide (e.kind = .resonance)) t) :
    WatchMoved dv s u := by
  obtain ⟨suspect, entries⟩ := spared_iff.mp spares
  have entries : ofKind .resonance u.link.alarms = ofKind .resonance t.link.alarms := entries
  obtain ⟨closed, opened⟩ := h
  rw [← watch, ← entries] at closed
  refine ⟨closed, fun w there => ?_⟩
  obtain ⟨goesOn, ends, marks, refused⟩ := opened w there
  rw [← watch, ← entries] at goesOn
  exact ⟨goesOn, watch.trans ∘ ends, fun rise takes => (marks rise takes).imp (suspect w.step).trans
    (alarmStands_of_ofKind entries), fun rise takes => entries.trans (refused rise takes)⟩

/-- What comes before leaves the watch, the settings, the step table and the entries of RESONANCE. -/
theorem WatchMoved.before {dv : Option Nat} {s t u : State} (h : WatchMoved dv t u) (watch : t.hs.watch = s.hs.watch)
    (cfg : t.cfg = s.cfg) (tbl : t.tbl = s.tbl)
    (entries : ofKind .resonance t.link.alarms = ofKind .resonance s.link.alarms) : WatchMoved dv s u := by
  have takes (i : StepId) : TakesMark i t = TakesMark i s := by
    rw [TakesMark, TakesMark, tbl, stepRec_congr (congrArg StepTable.recs tbl)]
  simpa only [WatchMoved, watch, cfg, entries, takes] using h

/-- What the watch makes of a window. -/
structure WatchTaken (s t : State) : Prop where
  hs : t.hs = { s.hs with watch := t.hs.watch }
  window : t.rx = s.rx ∧ t.mu = s.mu ∧ t.io = s.io ∧ t.cfg = s.cfg ∧ t.clock = s.clock
  list : t.tbl.closedOrder = [] ↔ s.tbl.closedOrder = []
  others : ∀ p, (∀ sub, Passes p .resonance sub) → t.link.alarms.filter p = s.link.alarms.filter p
  moved : WatchMoved s.hs.dv s t

theorem hsWatch_taken (s : State) : WatchTaken s (hsWatch s) := by
  cases watch : s.hs.watch with
  | none =>
    rw [hsWatch_none watch]
    exact ⟨rfl, ⟨rfl, rfl, rfl, rfl, rfl⟩, .rfl, fun _ _ => rfl, fun _ => ⟨watch, rfl⟩,
      fun w there => nomatch watch.symm.trans there⟩
  | some w =>
    have only (v : Watch) (there : s.hs.watch = some v) : v = w := Option.some.inj (there.symm.trans watch)
    by_cases rise : Rises s.cfg.yard s.hs.dv w
    · by_cases takes : TakesMark w.step s
      · rw [hsWatch_marks watch rise takes]
        refine ⟨by simp [marked], by simp [marked], ?_, fun p passes => raise_filter (passes _) _, by simp [watch],
          fun v there => ?_⟩
        · have listed : s.tbl.closedOrder ≠ [] := List.ne_nil_of_mem takes.2.2
          simp [marked, listed]
        · obtain rfl := only v there
          refine ⟨fun still => absurd rise still, fun _ => by simp [marked], fun _ _ => ⟨?_, alarmStands_raise _ _ _⟩,
            fun _ refused => absurd takes refused⟩
          rw [stepRec_congr (s := marked v.step { s with hs.watch := none }) (by simp)]
          exact congrArg StepRec.suspect (State.modStep_stepRec_self v.step (fun c => { c with suspect := true }) s)
      · rw [hsWatch_refused watch rise takes]
        refine ⟨rfl, ⟨rfl, rfl, rfl, rfl, rfl⟩, .rfl, fun _ _ => rfl, by simp [watch], fun v there => ?_⟩
        obtain rfl := only v there
        exact ⟨fun still => absurd rise still, fun _ => rfl, fun _ now => absurd now takes, fun _ _ => rfl⟩
    · rw [hsWatch_goesOn watch rise]
      refine ⟨rfl, ⟨rfl, rfl, rfl, rfl, rfl⟩, .rfl, fun _ _ => rfl, by simp [watch], fun v there => ?_⟩
      obtain rfl := only v there
      exact ⟨fun _ => ⟨there, rfl⟩, fun now => absurd now rise, fun now => absurd now rise, fun now => absurd now rise⟩

end Sys2Proof.Proofs

namespace Sys2Proof.Proofs

open Sys2Proof.Machine Sys2Proof.Safety Sys2Proof.Laws

/-! ### The trip stage and the entry of HARM_TRIP (R124 to R126) -/

/-- A shed is due, and there is a step to shed (R124, R125). -/
def ShedDue (s : State) : Prop :=
  ∃ x, s.hs.dv = some x ∧ s.cfg.yard.dvTrip ≤ x ∧
    min (s.hs.tripCount + 1) (tripThreshold s.cfg.yard s.hs) = tripThreshold s.cfg.yard s.hs ∧ s.tbl.closedOrder ≠ []

/-- The trip counter and whether shedding goes on after a window without a shed (R124, R126). -/
def tripFigures (s : State) : Nat × Bool :=
  match s.hs.dv with
  | none => (s.hs.tripCount, s.hs.shedding)
  | some x =>
    if s.cfg.yard.dvTrip ≤ x then (min (s.hs.tripCount + 1) (tripThreshold s.cfg.yard s.hs), s.hs.shedding)
    else (0, false)

/-- The state after a window without a shed. -/
def unshed (s : State) : State :=
  { s with
    hs.tripCount := (tripFigures s).1, hs.shedding := (tripFigures s).2,
    link.alarms := causeOverIf (s.hs.shedding && !(tripFigures s).2) .harmTrip .yard s.link.alarms }

theorem hsTrip_sheds {s : State} (due : ShedDue s) :
    ∃ i, hsTrip s = shed i { s with hs.tripCount := tripThreshold s.cfg.yard s.hs } := by
  obtain ⟨x, level, reached, counted, listed⟩ := due
  obtain ⟨i, choice⟩ := Option.ne_none_iff_exists'.mp (mt (shedChoice_none s).mp listed)
  rw [hsTrip_level level reached, if_pos counted, choice]
  exact ⟨i, rfl⟩

theorem hsTrip_unshed {s : State} (quiet : ¬ShedDue s) : hsTrip s = unshed s := by
  cases level : s.hs.dv with
  | none =>
    have figures : tripFigures s = (s.hs.tripCount, s.hs.shedding) := by simp [tripFigures, level]
    rw [unshed, figures, Bool.and_not_self, causeOverIf_false, hsTrip, level]
  | some x =>
    by_cases reached : s.cfg.yard.dvTrip ≤ x
    · have figures : tripFigures s =
          (min (s.hs.tripCount + 1) (tripThreshold s.cfg.yard s.hs), s.hs.shedding) := by
        simp [tripFigures, level, reached]
      rw [unshed, figures, Bool.and_not_self, causeOverIf_false, hsTrip_level level reached]
      split
      · next counted =>
        have bare : s.tbl.closedOrder = [] := by
          by_contra listed
          exact quiet ⟨x, level, reached, counted, listed⟩
        rw [(shedChoice_none s).mpr bare, counted]
      · rfl
    · have figures : tripFigures s = (0, false) := by simp [tripFigures, level, reached]
      rw [unshed, figures, Bool.not_false, Bool.and_true]
      simp only [hsTrip, level, if_neg reached, endShedding_eq]

/-- The entries for a latching kind and subject after its cause-end notice. -/
theorem entriesOf_causeOverIf (b : Bool) (k : AlarmKind) (sub : Subject) (as : List AlarmEntry) :
    entriesOf k sub (causeOverIf b k sub as) =
      if b then (entriesOf k sub as).map fun e => { e with cause := false } else entriesOf k sub as := by
  cases b with
  | false => rw [causeOverIf_false]; rfl
  | true =>
    have kept : ((fun e : AlarmEntry => decide (e.kind = k ∧ e.subject = sub)) ∘ fun e =>
        if true = true ∧ e.kind = k ∧ e.subject = sub then { e with cause := false } else e) =
        fun e => decide (e.kind = k ∧ e.subject = sub) := by
      funext e
      dsimp only [Function.comp_apply]
      split <;> rfl
    rw [entriesOf, causeOverIf, List.filter_map, kept]
    refine List.map_congr_left fun e he => if_pos ⟨rfl, ?_⟩
    simpa using (List.mem_filter.mp he).2

/-- After a raise notice the cause of every entry for its kind and subject is present (R199). -/
theorem cause_raise {k : AlarmKind} (hk : k.momentary = false) (sub : Subject) (s : State) :
    ∀ e ∈ entriesOf k sub (raise k sub s).link.alarms, e.cause = true := by
  intro e he
  obtain ⟨there, own⟩ := List.mem_filter.mp he
  have own : e.isFor k sub = true := by simpa [AlarmEntry.isFor] using own
  simp only [raise, State.modAlarms_alarms, raiseIn] at there
  split at there
  · obtain ⟨old, -, rfl⟩ := List.mem_map.mp there
    split at own
    · next its => rw [if_pos its, hk]; rfl
    · next other => exact absurd own other
  · next absent =>
    rcases List.mem_append.mp there with old | new
    · exact absurd (List.any_eq_true.mpr ⟨e, old, own⟩) absent
    · rw [List.mem_singleton.mp new, hk]
      rfl

/-- What the stages before the trip stage have formed of the supervisor (R119, R121, R129). -/
def stageFigures (h : Harmonic) : Option Nat × Option Nat × Nat × Nat × Bool × Bool × Option Watch :=
  (h.dv, h.di, h.vCount, h.iCount, h.vActive, h.iActive, h.watch)

/-- The outcome of a shed for the supervisor and HARM_TRIP (R125, R126). -/
def HasShed (t : State) : Prop :=
  t.hs.tripCount = 0 ∧ t.hs.shedding = true ∧ AlarmStands .harmTrip .yard t ∧
  ∀ e ∈ entriesOf .harmTrip .yard t.link.alarms, e.cause = true

/-- The outcome of a window without a shed (R124, R126). -/
def HasNotShed (figures : Nat × Bool) (s t : State) : Prop :=
  (t.hs.tripCount, t.hs.shedding) = figures ∧
  entriesOf .harmTrip .yard t.link.alarms =
    if s.hs.shedding && !figures.2 then (entriesOf .harmTrip .yard s.link.alarms).map fun e => { e with cause := false }
    else entriesOf .harmTrip .yard s.link.alarms

/-- What the trip stage makes of a window. -/
structure TripStaged (s t : State) : Prop where
  window : t.rx = s.rx ∧ t.mu = s.mu ∧ t.io = s.io ∧ t.cfg = s.cfg ∧ t.clock = s.clock
  figures : stageFigures t.hs = stageFigures s.hs
  others : ∀ p, Unswitched p → Passes p .harmTrip .yard → spared p t = spared p s
  sheds : ShedDue s → HasShed t
  quiet : ¬ShedDue s → HasNotShed (tripFigures s) s t

theorem shed_staged {i : StepId} {n : Nat} {s : State} (due : ShedDue s) :
    TripStaged s (shed i { s with hs.tripCount := n }) := by
  have hs := shed_hs i { s with hs.tripCount := n }
  refine ⟨by simp [shed], by rw [hs]; rfl, fun p hp passes => ?_, fun _ => ⟨by rw [hs], by rw [hs],
    alarmStands_raise .harmTrip .yard _, cause_raise rfl .yard _⟩, fun quiet => absurd due quiet⟩
  calc spared p (shed i { s with hs.tripCount := n })
      = spared p (protectiveOpen i (armHoldoff i { s with hs.tripCount := n })) :=
        spared_of_filter (by simp [shed]) (raise_filter passes _)
    _ = spared p (armHoldoff i { s with hs.tripCount := n }) := spared_protectiveOpen hp i _
    _ = spared p s := (spared_armHoldoff i _).trans (spared_congr rfl rfl)

theorem hsTrip_staged (s : State) : TripStaged s (hsTrip s) := by
  by_cases due : ShedDue s
  · obtain ⟨i, sheds⟩ := hsTrip_sheds due
    rw [sheds]
    exact shed_staged due
  · rw [hsTrip_unshed due]
    exact ⟨⟨rfl, rfl, rfl, rfl, rfl⟩, rfl, fun p _ passes => spared_of_filter rfl (causeOverIf_filter passes _ _),
      fun now => absurd now due, fun _ => ⟨rfl, entriesOf_causeOverIf _ _ _ _⟩⟩

/-- The consequences of the evaluation leave what the stages have made (log 13). -/
theorem TripStaged.settled {s t : State} (h : TripStaged s t) : TripStaged s (settle t) := by
  obtain ⟨window, figures, others, sheds, quiet⟩ := h
  have entries : entriesOf .harmTrip .yard (settle t).link.alarms = entriesOf .harmTrip .yard t.link.alarms :=
    (spared_iff.mp (spared_settle (unswitched_entriesOf (by decide) _) t)).2
  refine ⟨by simpa using window, Eq.trans (b := stageFigures t.hs) (by simp [stageFigures]) figures, fun p hp passes =>
    (spared_settle hp t).trans (others p hp passes), fun due => ?_, fun undue => ?_⟩
  · simpa only [HasShed, alarmStands_congr entries, entries, settle_frame] using sheds due
  · simpa only [HasNotShed, entries, settle_frame] using quiet undue

end Sys2Proof.Proofs

namespace Sys2Proof.Proofs

open Sys2Proof.Machine Sys2Proof.Safety Sys2Proof.Laws

/-! ### The evaluation as a whole (R120) -/

/-- What the supervisor makes of a window whose levels are formed. -/
structure Supervised (s t : State) : Prop where
  window : t.rx = s.rx ∧ t.mu = s.mu ∧ t.io = s.io ∧ t.cfg = s.cfg ∧ t.clock = s.clock
  dv : t.hs.dv = s.hs.dv
  di : t.hs.di = s.hs.di
  stageV : (t.hs.vCount, t.hs.vActive) = stageV s
  stageI : (t.hs.iCount, t.hs.iActive) = stageI s
  followsV : Follows .harmAlarmV s.hs.vActive t.hs.vActive s t
  followsI : Follows .harmAlarmI s.hs.iActive t.hs.iActive s t
  watch : WatchMoved t.hs.dv s t
  sheds : ShedDue s → HasShed t
  quiet : ¬ShedDue s → HasNotShed (tripFigures s) s t

/-- The trip stage goes by DV, its own figures, the settings and whether a step is listed. -/
theorem tripStage_congr {s t : State} (dv : t.hs.dv = s.hs.dv) (count : t.hs.tripCount = s.hs.tripCount)
    (shedding : t.hs.shedding = s.hs.shedding) (cfg : t.cfg = s.cfg)
    (list : t.tbl.closedOrder = [] ↔ s.tbl.closedOrder = []) :
    (ShedDue t ↔ ShedDue s) ∧ tripFigures t = tripFigures s := by
  have threshold : tripThreshold s.cfg.yard t.hs = tripThreshold s.cfg.yard s.hs := by
    rw [tripThreshold, tripThreshold, shedding]
  refine ⟨?_, ?_⟩
  · simp only [ShedDue, ne_eq, list, threshold, dv, count, cfg]
  · rw [tripFigures, tripFigures, dv, count, shedding, cfg, threshold]

/-- The watch and the trip stage leave the entry of an alarm state. -/
theorem settle_entries {k : AlarmKind} (hk : k ∉ [AlarmKind.unbalanceAlarm, .positionInvalid, .unbalanceTrip])
    (watch : .resonance ≠ k) (trip : .harmTrip ≠ k) (s : State) :
    entriesOf k .yard (settle (hsTrip (hsWatch s))).link.alarms = entriesOf k .yard s.link.alarms := by
  have spares := (hsTrip_staged (hsWatch s)).settled.others _ (unswitched_entriesOf hk .yard)
    (passes_entriesOf trip _ _)
  exact (spared_iff.mp spares).2.trans ((hsWatch_taken s).others _ fun _ => passes_entriesOf watch _ _)

theorem settle_supervised (s : State) : Supervised s (settle (hsTrip (hsWatch (hsStageI (hsStageV s))))) := by
  obtain ⟨hsC, beside, followsV, followsI, othersC⟩ := hsStages_taken s
  generalize hsStageI (hsStageV s) = c at *
  have entriesV := settle_entries (k := .harmAlarmV) (by decide) (by decide) (by decide) c
  have entriesI := settle_entries (k := .harmAlarmI) (by decide) (by decide) (by decide) c
  obtain ⟨hsD, windowD, listD, othersD, moved⟩ := hsWatch_taken c
  generalize hsWatch c = d at *
  obtain ⟨window, figures, othersE, sheds, quiet⟩ := (hsTrip_staged d).settled
  generalize settle (hsTrip d) = t at *
  simp only [besideStage, Prod.mk.injEq] at beside
  obtain ⟨rx, mu, io, cfg, clock, tbl⟩ := beside
  rw [rx, mu, io, cfg, clock] at windowD
  obtain ⟨rxD, muD, ioD, cfgD, clockD⟩ := windowD
  rw [rxD, muD, ioD, cfgD, clockD] at window
  rw [hsC] at hsD
  simp only [stageFigures, Prod.mk.injEq] at figures
  obtain ⟨dv, di, vCount, iCount, vActive, iActive, watch⟩ := figures
  rw [hsD] at dv di vCount iCount vActive iActive
  have dvC : c.hs.dv = s.hs.dv := by rw [hsC]
  obtain ⟨due, tripped⟩ := tripStage_congr (s := s) (t := d) (by rw [hsD]) (by rw [hsD]) (by rw [hsD]) cfgD
    (listD.trans (by rw [tbl]))
  have harmTrip : entriesOf .harmTrip .yard d.link.alarms = entriesOf .harmTrip .yard s.link.alarms :=
    (othersD _ fun _ => passes_entriesOf (by decide) _ _).trans
      (othersC _ (passes_entriesOf (by decide) _ _) (passes_entriesOf (by decide) _ _))
  have resonance : ofKind .resonance c.link.alarms = ofKind .resonance s.link.alarms :=
    othersC _ (passes_ofKind (by decide) _) (passes_ofKind (by decide) _)
  rw [due] at sheds quiet
  rw [dvC] at moved
  refine ⟨window, dv, di, Prod.ext vCount vActive, Prod.ext iCount iActive, ?_, ?_, ?_, sheds, fun undue => ?_⟩
  · rw [vActive]
    exact followsV.congr rfl entriesV
  · rw [iActive]
    exact followsI.congr rfl entriesI
  · rw [dv]
    exact (moved.before (by rw [hsC]) cfg tbl resonance).after watch
      (othersE _ (unswitched_ofKind (by decide)) (passes_ofKind (by decide) _))
  · have shedding : d.hs.shedding = s.hs.shedding := by rw [hsD]
    simpa only [HasNotShed, shedding, harmTrip, tripped] using quiet undue

/-- The entries of HARM_TRIP change where a shed raises it or the end of shedding ends its cause (R126). -/
theorem Supervised.tripEntries {s t : State} (e : Supervised s t) :
    (t.hs.shedding = false → s.hs.shedding = true →
      entriesOf .harmTrip .yard t.link.alarms =
        (entriesOf .harmTrip .yard s.link.alarms).map fun e => { e with cause := false }) ∧
    (t.hs.shedding = false → s.hs.shedding = false →
      entriesOf .harmTrip .yard t.link.alarms = entriesOf .harmTrip .yard s.link.alarms) ∧
    (t.hs.dv = none ∨ t.hs.tripCount ≠ 0 ∨ s.tbl.closedOrder = [] → t.hs.shedding = s.hs.shedding →
      entriesOf .harmTrip .yard t.link.alarms = entriesOf .harmTrip .yard s.link.alarms) := by
  by_cases due : ShedDue s
  · obtain ⟨count, shedding, -⟩ := e.sheds due
    obtain ⟨x, level, -, -, listed⟩ := due
    have defined : t.hs.dv ≠ none := by rw [e.dv, level]; exact Option.some_ne_none x
    have goesOn : t.hs.shedding ≠ false := by rw [shedding]; decide
    exact ⟨fun ends => absurd ends goesOn, fun ends => absurd ends goesOn,
      fun quiet => (quiet.elim defined fun rest => rest.elim (absurd count) listed).elim⟩
  · obtain ⟨figures, entries⟩ := e.quiet due
    rw [← congrArg Prod.snd figures] at entries
    refine ⟨fun ends began => ?_, fun ends none => ?_, fun _ same => ?_⟩
    · rwa [ends, began] at entries
    · rwa [ends, none] at entries
    · rwa [same, Bool.and_not_self] at entries

/-- The trip counter and shedding after a window (R124 to R126). -/
def TripMoved (dv : Option Nat) (s t : State) : Prop :=
  match dv with
  | none => t.hs.tripCount = s.hs.tripCount ∧ t.hs.shedding = s.hs.shedding
  | some x =>
    if s.cfg.yard.dvTrip ≤ x then
      if min (s.hs.tripCount + 1) (tripThreshold s.cfg.yard s.hs) = tripThreshold s.cfg.yard s.hs ∧
          s.tbl.closedOrder ≠ [] then
        t.hs.tripCount = 0 ∧ t.hs.shedding = true ∧ AlarmStands .harmTrip .yard t ∧
        ∀ e ∈ t.link.alarms, e.kind = .harmTrip → e.subject = .yard → e.cause = true
      else
        t.hs.tripCount = min (s.hs.tripCount + 1) (tripThreshold s.cfg.yard s.hs) ∧ t.hs.shedding = s.hs.shedding
    else t.hs.tripCount = 0 ∧ t.hs.shedding = false

theorem Supervised.tripMoved {s t : State} (e : Supervised s t) : TripMoved t.hs.dv s t := by
  rw [e.dv]
  have quiet (undue : ¬ShedDue s) : (t.hs.tripCount, t.hs.shedding) = tripFigures s := (e.quiet undue).1
  rw [tripFigures] at quiet
  unfold TripMoved
  split
  · next undefined =>
    rw [undefined] at quiet
    exact Prod.mk.inj (quiet fun ⟨x, level, _⟩ => nomatch undefined.symm.trans level)
  · next x level =>
    have only {y : Nat} (own : s.hs.dv = some y) : y = x := Option.some.inj (own.symm.trans level)
    simp only [level] at quiet
    split
    · next reached =>
      rw [if_pos reached] at quiet
      split
      · next due =>
        obtain ⟨count, shedding, stands, caused⟩ := e.sheds ⟨x, level, reached, due⟩
        exact ⟨count, shedding, stands, fun e there kind subject =>
          caused e (List.mem_filter.mpr ⟨there, decide_eq_true ⟨kind, subject⟩⟩)⟩
      · next undue =>
        exact Prod.mk.inj (quiet fun ⟨y, own, _, counted, listed⟩ => undue ⟨counted, listed⟩)
    · next below =>
      rw [if_neg below] at quiet
      exact Prod.mk.inj (quiet fun ⟨y, own, reached, _⟩ => below (only own ▸ reached))

/-- Both alarm stages after a window (R121). -/
theorem Supervised.stagesMoved {s t : State} (e : Supervised s t) :
    StageMoved s.cfg.yard.harmAlarmDelay t.hs.dv s.cfg.yard.dvAlarm s.hs.vCount s.hs.vActive
      (t.hs.vCount, t.hs.vActive) ∧
    StageMoved s.cfg.yard.harmAlarmDelay t.hs.di s.cfg.yard.diAlarm s.hs.iCount s.hs.iActive
      (t.hs.iCount, t.hs.iActive) := by
  rw [e.stageV, e.stageI, e.dv, e.di]
  exact ⟨alarmStage_moved _ _ _ _ _, alarmStage_moved _ _ _ _ _⟩

/-! ### The harmonic supervisor at a good window -/

/-- Settles O27: the levels that the evaluation forms, and what its stages make of them up to the end of the event. -/
theorem harmonicSupervisorEvaluatesAGoodWindow : Obligations.HarmonicSupervisorEvaluatesAGoodWindow := by
  unfold Obligations.HarmonicSupervisorEvaluatesAGoodWindow
  intro h s running hh hs good published
  have e := settle_supervised (hsForm { s with
    rx.inHand := if h.vc || h.ub then some { h with hs := false } else none })
  refine ⟨_, exec_harmonicEvaluation_good running hh hs good published, ?_⟩
  generalize settle _ = t at *
  have dv := (highestOf_three s 0 1 2).told
  have di := (highestOf_three s 3 4 5).told
  have formedV : t.hs.dv = higher (trustedD s 0) (higher (trustedD s 1) (trustedD s 2)) := e.dv
  have formedI : t.hs.di = higher (trustedD s 3) (higher (trustedD s 4) (trustedD s 5)) := e.di
  simp only [← formedV, not_or] at dv
  simp only [← formedI, not_or] at di
  obtain ⟨stageV, stageI⟩ := e.stagesMoved
  exact ⟨⟨dv, di, stageV, stageI, ⟨e.followsV, e.followsI, e.tripEntries⟩, e.watch, e.tripMoved⟩, e.window⟩

end Sys2Proof.Proofs

namespace Sys2Proof.Proofs

open Sys2Proof.Machine Sys2Proof.Safety Sys2Proof.Laws

/-! ### The compensated quantity u (R140) -/

theorem peakToRms_le {n : Nat} (h : n ≤ 32767) : peakToRms n ≤ 23169 := by
  unfold peakToRms
  omega

theorem formU_clipped {e : ChanEntry} (c : StepSettings) (h : e.clipped = true) : formU e c = 9999 := by
  simp [formU, h]

theorem formU_unclipped {e : ChanEntry} (c : StepSettings) (h : e.clipped = false) :
    formU e c = min (1000 * peakToRms (min (isqrt
      ((e.re - c.baselineRe).natAbs * (e.re - c.baselineRe).natAbs +
        (e.im - c.baselineIm).natAbs * (e.im - c.baselineIm).natAbs)) 32767) / c.neutralRated) 9999 := by
  simp [formU, h]

theorem formU_le (e : ChanEntry) (c : StepSettings) : formU e c ≤ 9999 := by
  cases h : e.clipped with
  | true => exact (formU_clipped c h).le
  | false =>
    rw [formU_unclipped c h]
    exact min_le_right _ _

/-- Settles O31: u case by case, with the library's square root, and its storing by the stages of an armed step. -/
theorem unbalanceFigureIsFormed : Obligations.UnbalanceFigureIsFormed := by
  unfold Obligations.UnbalanceFigureIsFormed
  refine ⟨fun e c _ _ _ _ _ _ _ _ => ?_, fun i s armed => (ubStages_evaluated i s).lastU armed⟩
  obtain ⟨low, high⟩ := isqrt_spec ((e.re - c.baselineRe).natAbs * (e.re - c.baselineRe).natAbs +
    (e.im - c.baselineIm).natAbs * (e.im - c.baselineIm).natAbs)
  exact ⟨by omega, by omega, formU_le e c, formU_clipped c, _, low, high, peakToRms_le (min_le_right _ _),
    formU_unclipped c⟩

end Sys2Proof.Proofs

namespace Sys2Proof.Proofs

open Sys2Proof.Machine Sys2Proof.Safety Sys2Proof.Laws

/-! ### The window in a learning (R148 to R150) -/

/-- The engine is IDLE, and the slot's order has ended with an outcome and a reason (R168). -/
def EndedIdle (j : SlotId) (out : OrderOutcome) (why : Option Reason) (s : State) : Prop :=
  s.oe.executing = none ∧ (s.slot j).state = .finished ∧ (s.slot j).outcome = some out ∧ (s.slot j).reason = why

theorem endedIdle_congr {j : SlotId} {out : OrderOutcome} {why : Option Reason} {s t : State} (h : t.oe = s.oe) :
    EndedIdle j out why t ↔ EndedIdle j out why s := by
  simp [EndedIdle, State.slot, h]

theorem finishExecuting_ends {j : SlotId} {s : State} (out : OrderOutcome) (why : Option Reason)
    (he : s.oe.executing = some j) : EndedIdle j out why (finishExecuting out why s) := by
  simp [EndedIdle, finishExecuting, finishSlot, he, State.slot, State.modSlot]

section

variable {i : StepId} {s : State}

/-- A disarming ends the step's learning, and its order with it (R138, R150). -/
theorem disarm_ends {j : SlotId} (h : (s.unb i).learning ≠ none) (he : s.oe.executing = some j) :
    EndedIdle j .failed (some .interrupted) (disarm i s) := by
  refine interruptLearning_some ?_ (by simpa using he)
  simpa [clearStages_unb] using h

theorem takeDeparture_oe_of (h : (s.unb i).departed = true) : (takeDeparture i s).oe = (disarm i s).oe := by
  simp only [takeDeparture, h, if_true]
  split <;> rfl

/-- A departure that is taken leaves the step unarmed and without a learning (R138, R150). -/
theorem takeDeparture_clears (h : (s.unb i).departed = true) :
    ((takeDeparture i s).unb i).learning = none ∧ ((takeDeparture i s).unb i).armed = false ∧
    ((takeDeparture i s).unb i).departed = false := by
  have disarmed : ((disarm i s).modUnb i fun u => { u with departed := false }).unb i =
      { disarmedUnb (s.unb i) with departed := false } := by
    rw [State.modUnb_unb_self, disarm_unb_of, if_pos rfl]
  simp only [takeDeparture, h, if_true]
  split
  · rw [State.modUnb_unb_self, disarmed]
    exact ⟨rfl, rfl, rfl⟩
  · rw [disarmed]
    exact ⟨rfl, rfl, rfl⟩

/-! The window by the place it takes in the learning (R148 to R150). -/

variable {l : Learning}

theorem learnWindow_clipped (hl : (s.unb i).learning = some l)
    (clipped : (look s.mu.entries (neutralChannel i)).clipped = true) : learnWindow i s = interruptLearning i s := by
  simp [learnWindow, hl, clipped]

theorem learnWindow_sixteenth (hl : (s.unb i).learning = some l)
    (clear : (look s.mu.entries (neutralChannel i)).clipped = false) (count : l.count + 1 = 16) :
    learnWindow i s = completeLearning i (l.sumRe + (look s.mu.entries (neutralChannel i)).re)
      (l.sumIm + (look s.mu.entries (neutralChannel i)).im) s := by
  simp [learnWindow, hl, clear, count]

theorem learnWindow_earlier (hl : (s.unb i).learning = some l)
    (clear : (look s.mu.entries (neutralChannel i)).clipped = false) (count : l.count + 1 ≠ 16) :
    learnWindow i s = s.modUnb i fun u => { u with learning := some ⟨l.count + 1,
      l.sumRe + (look s.mu.entries (neutralChannel i)).re, l.sumIm + (look s.mu.entries (neutralChannel i)).im⟩ } := by
  simp [learnWindow, hl, clear, count]

/-! ### A completed learning (R149) -/

variable {sumRe sumIm : Int}

theorem completeLearning_unb : (completeLearning i sumRe sumIm s).unb i =
    { stagesCleared (s.unb i) with learning := none } := by
  have ub : (completeLearning i sumRe sumIm s).ub =
      ((clearStages i (storedBaseline i sumRe sumIm s)).modUnb i fun u => { u with learning := none }).ub := by
    rw [completeLearning_eq]
    simp
  rw [unb_congr ub, State.modUnb_unb_self, clearStages_unb, if_pos rfl]
  rfl

theorem completeLearning_cfg : (completeLearning i sumRe sumIm s).cfg = (storedBaseline i sumRe sumIm s).cfg := by
  rw [completeLearning_eq]
  simp

theorem completeLearning_stepCfg (j : StepId) : (completeLearning i sumRe sumIm s).stepCfg j =
    if j = i then { s.stepCfg i with baselineRe := roundDiv sumRe 16, baselineIm := roundDiv sumIm 16 }
    else s.stepCfg j := by
  rw [State.stepCfg, completeLearning_cfg]
  exact stepCfg_put i j _ s

theorem completeLearning_ends {j : SlotId} (he : s.oe.executing = some j) :
    EndedIdle j .done none (completeLearning i sumRe sumIm s) := by
  rw [completeLearning_eq]
  exact finishExecuting_ends _ _ (by simpa [storedBaseline] using he)

end

/-! ### What the stages leave to the learning (R139, log 15) -/

section

variable (i : StepId) (s : State)

theorem alarmEdge_oe (k : AlarmKind) (sub : Subject) (was now : Bool) : (alarmEdge k sub was now s).oe = s.oe := by
  unfold alarmEdge
  (repeat' split) <;> simp

theorem staged_oe : (staged i s).oe = s.oe := by simp [staged, ubAlarm, alarmEdge_oe]

theorem ubTrip_frame : (ubTrip i s).oe = s.oe ∧ (ubTrip i s).cfg = s.cfg := by simp [ubTrip]

/-- The stages touch no order and no setting (R141 to R143). -/
theorem ubStages_frame : (ubStages i s).1.oe = s.oe ∧ (ubStages i s).1.cfg = s.cfg := by
  cases armed : (s.unb i).armed with
  | false =>
    rw [ubStages_unarmed i s armed]
    exact ⟨rfl, rfl⟩
  | true =>
    cases tripped : (s.unb i).tripped with
    | true =>
      rw [ubStages_tripped i s armed tripped]
      exact ⟨rfl, rfl⟩
    | false =>
      obtain ⟨due, quiet⟩ := ubStages_staged i s armed tripped
      have evaluated : (staged i s).oe = s.oe ∧ (staged i s).cfg = s.cfg := ⟨staged_oe i s, (staged_frame i s).1⟩
      by_cases h : TripDue i s
      · rw [due h]
        exact ⟨(ubTrip_frame i _).1.trans evaluated.1, (ubTrip_frame i _).2.trans evaluated.2⟩
      · rw [quiet h]
        exact evaluated

theorem armStep_frame : (armStep i s).oe = s.oe ∧ (armStep i s).cfg = s.cfg := by
  unfold armStep
  split <;> exact ⟨rfl, rfl⟩

theorem ubStages_leave_learning :
    let r := ubStages i (armStep i s)
    (r.1.unb i).learning = (s.unb i).learning ∧ r.1.mu = s.mu ∧ r.1.oe = s.oe ∧ r.1.cfg = s.cfg ∧
    (r.2 = true ↔ ((armStep i s).unb i).armed = true ∧ (s.unb i).tripped = false ∧ (r.1.unb i).tripped = true) := by
  obtain ⟨-, -, -, -, untripped, -, learning, -, -⟩ := armStep_figures i s
  obtain ⟨kept, beside, -, trips, tripped, -, -⟩ := ubStages_evaluated i (armStep i s)
  obtain ⟨oe, cfg⟩ := ubStages_frame i (armStep i s)
  refine ⟨kept.learning.trans learning, beside.mu.trans (beside_armStep i s).mu,
    oe.trans (armStep_frame i s).1, cfg.trans (armStep_frame i s).2, fun made => ?_, fun ⟨_, was, now⟩ => ?_⟩
  · obtain ⟨armed, was, -⟩ := trips.mp made
    exact ⟨armed, untripped ▸ was, by rw [tripped, made, Bool.or_true]⟩
  · rwa [tripped, untripped, was, Bool.false_or] at now

end

/-! ### A learning whose step departs (R149, R150, log 37) -/

section

variable {i : StepId} {l : Learning} {j : SlotId} {s : State}

theorem learnWindow_departed (departed : (s.unb i).departed = true) (hl : (s.unb i).learning = some l)
    (he : s.oe.executing = some j) :
    let t := takeDeparture i (learnWindow i s)
    let whole := l.count + 1 = 16 ∧ (look s.mu.entries (neutralChannel i)).clipped = false
    (whole → EndedIdle j .done none t) ∧ (¬whole → EndedIdle j .failed (some .interrupted) t ∧ t.cfg = s.cfg) := by
  cases clipped : (look s.mu.entries (neutralChannel i)).clipped with
  | true =>
    rw [learnWindow_clipped hl clipped]
    refine ⟨fun h => absurd h.2 (by simp), fun _ => ⟨(endedIdle_congr (takeDeparture_oe (.inr ?_))).mpr
      (interruptLearning_some (by simp [hl]) he), by simp⟩⟩
    rw [interruptLearning_unb]
  | false =>
    by_cases count : l.count + 1 = 16
    · rw [learnWindow_sixteenth hl clipped count]
      refine ⟨fun _ => (endedIdle_congr (takeDeparture_oe (.inr ?_))).mpr (completeLearning_ends he),
        fun h => absurd ⟨count, rfl⟩ h⟩
      rw [completeLearning_unb]
    · rw [learnWindow_earlier hl clipped count]
      refine ⟨fun h => absurd h.1 count, fun _ => ⟨(endedIdle_congr (takeDeparture_oe_of ?_)).mpr
        (disarm_ends ?_ he), by simp⟩⟩ <;> rw [State.modUnb_unb_self]
      · exact departed
      · exact nofun

theorem learnWindow_departure (departed : (s.unb i).departed = true) (hl : (s.unb i).learning = some l)
    (he : s.oe.executing = some j) :
    let t := takeDeparture i (learnWindow i s)
    let whole := l.count + 1 = 16 ∧ (look s.mu.entries (neutralChannel i)).clipped = false
    (t.unb i).learning = none ∧ (t.unb i).armed = false ∧ (t.unb i).departed = false ∧
    t.oe.executing = none ∧ (t.slot j).state = .finished ∧
    (whole → (t.slot j).outcome = some .done ∧ (t.slot j).reason = none) ∧
    (¬whole → (t.slot j).outcome = some .failed ∧ (t.slot j).reason = some .interrupted ∧ t.cfg = s.cfg) := by
  intro t whole
  obtain ⟨_, learnt, -⟩ := learnWindow_learnt i s
  obtain ⟨-, -, -, -, same⟩ := learnt.kept
  obtain ⟨gone, disarmed, here⟩ := takeDeparture_clears (same.trans departed)
  obtain ⟨done, interrupted⟩ := learnWindow_departed departed hl he
  refine ⟨gone, disarmed, here, ?_⟩
  by_cases h : whole
  · obtain ⟨idle, finished, outcome, reason⟩ := done h
    exact ⟨idle, finished, fun _ => ⟨outcome, reason⟩, fun broken => absurd h broken⟩
  · obtain ⟨⟨idle, finished, outcome, reason⟩, cfg⟩ := interrupted h
    exact ⟨idle, finished, fun complete => absurd complete h, fun _ => ⟨outcome, reason, cfg⟩⟩

end

/-- Settles O33: the stages by their frame, a departure by what the window made of the learning, and the window by
its place in the learning. -/
theorem learningStoresTheRoundedMean : Obligations.LearningStoresTheRoundedMean := by
  unfold Obligations.LearningStoresTheRoundedMean
  refine ⟨fun i s => ?_, fun i s => takeDeparture_none, fun i l j s => learnWindow_departure, fun i l s hl => ?_⟩
  · obtain ⟨learning, mu, oe, cfg, trips⟩ := ubStages_leave_learning i s
    exact ⟨learning, mu, oe, cfg, trips, ubStep_eq i s⟩
  · intro e t
    split
    · next clipped =>
      have interrupted : t = interruptLearning i s := learnWindow_clipped hl clipped
      rw [interrupted]
      exact ⟨by rw [interruptLearning_unb], by simp, fun j => interruptLearning_some (by simp [hl])⟩
    · next unclipped =>
      have clear := Bool.eq_false_iff.mpr unclipped
      split
      · next count =>
        have complete : t = completeLearning i (l.sumRe + e.re) (l.sumIm + e.im) s :=
          learnWindow_sixteenth hl clear count
        rw [complete, completeLearning_unb, completeLearning_stepCfg, if_pos rfl, completeLearning_cfg]
        exact ⟨rfl, rfl, rfl, rfl, rfl, rfl, rfl, fun j other => (completeLearning_stepCfg j).trans (if_neg other),
          rfl, fun j => completeLearning_ends⟩
      · next count => exact learnWindow_earlier hl clear count

end Sys2Proof.Proofs

namespace Sys2Proof.Proofs

open Sys2Proof.Machine Sys2Proof.Safety Sys2Proof.Laws

/-! ### What the order pool, the line owners and the arming depend on -/

/-- The lane holds an operation of the order engine (R75, R167). -/
def OfOrder (l : Lane) : Prop := ∃ o, l.op = some o ∧ o.source = .oe

/-- A record that a slot may keep once its order has ended: FINISHED, with no timer (R168). -/
def SlotEnded (o : Slot) : Prop := o.state = .finished ∧ o.notBeforeTimer = none ∧ o.deadlineTimer = none

/-- The EXECUTING order has become FINISHED, the engine is IDLE, and nothing else of the engine has changed (R168). -/
def OrderDone (s t : State) : Prop :=
  ∃ j o, s.oe.executing = some j ∧ SlotEnded o ∧
    t.oe = { s.oe with slots := put s.oe.slots j o, executing := none }

/-- A learning or an operation of the order engine has ended (R150, R168). -/
def WorkOver (s t : State) : Prop :=
  (∃ i, (s.unb i).learning ≠ none ∧ (t.unb i).learning = none) ∨
  ∃ i, OfOrder (s.lane i) ∧ ¬OfOrder (t.lane i)

/-- No learning and no operation of the order engine has begun (R148, R167). -/
structure NoNewWork (s t : State) : Prop where
  learning : ∀ i, (t.unb i).learning ≠ none → (s.unb i).learning ≠ none
  operation : ∀ i, OfOrder (t.lane i) → OfOrder (s.lane i)

/-- No step has become DIRECT-owned, a DIRECT-owned step stays RETIRED, MAINT_PERMIT stands, a window end that waits
at the unbalance unit waits on, and a departure is noted only while one waits (R138, R182, log 37). -/
structure GroundsKept (s t : State) : Prop where
  direct : ∀ i, (t.lines i).direct = true →
    (s.lines i).direct = true ∧ ((s.stepRec i).retired = true → (t.stepRec i).retired = true)
  permit : maintPermit s = true → maintPermit t = true
  window : WindowAtUnit t ↔ WindowAtUnit s
  departed : ∀ i, (t.unb i).departed = true → (s.unb i).departed = true ∨ WindowAtUnit t

/-- A step that may be armed: CLOSED, or with a departure that the unit has still to take (R138). -/
def MayBeArmed (i : StepId) (s : State) : Prop := (s.stepRec i).state = .closed ∨ (s.unb i).departed = true

/-- Where armed steps are CLOSED or about to be disarmed in one state they are in the other (R138). -/
def ArmingKept (s t : State) : Prop :=
  ∀ i, ((s.unb i).armed = true → MayBeArmed i s) → (t.unb i).armed = true → MayBeArmed i t

/-- Work that touches an order only to end it with its own learning or operation, and the line owners and the arming
only as the promises allow. -/
structure Steady (s t : State) : Prop where
  work : NoNewWork s t
  grounds : GroundsKept s t
  arming : ArmingKept s t
  orders : t.oe = s.oe ∨ OrderDone s t ∧ WorkOver s t

/-! ### One change after another -/

theorem NoNewWork.after {s t u : State} (b : NoNewWork t u) (a : NoNewWork s t) : NoNewWork s u where
  learning i h := a.learning i (b.learning i h)
  operation i h := a.operation i (b.operation i h)

theorem GroundsKept.after {s t u : State} (b : GroundsKept t u) (a : GroundsKept s t) : GroundsKept s u where
  direct i h :=
    have ⟨mid, later⟩ := b.direct i h
    have ⟨first, sooner⟩ := a.direct i mid
    ⟨first, fun retired => later (sooner retired)⟩
  permit h := b.permit (a.permit h)
  window := b.window.trans a.window
  departed i h := (b.departed i h).elim (fun mid => (a.departed i mid).imp_right b.window.mpr) .inr

theorem OrderDone.idle {s t : State} (h : OrderDone s t) : t.oe.executing = none := by
  obtain ⟨j, o, -, -, oe⟩ := h
  rw [oe]

theorem OrderDone.busy {s t : State} (h : OrderDone s t) : s.oe.executing ≠ none := by
  obtain ⟨j, o, running, -, -⟩ := h
  rw [running]
  nofun

theorem orderDone_congr {s s' t t' : State} (first : s'.oe = s.oe) (last : t'.oe = t.oe) (h : OrderDone s t) :
    OrderDone s' t' := by
  unfold OrderDone
  rwa [first, last]

theorem WorkOver.widen {r s t u : State} (before : NoNewWork r s) (h : WorkOver s t) (after : NoNewWork t u) :
    WorkOver r u := by
  rcases h with ⟨i, stood, gone⟩ | ⟨i, stood, gone⟩
  · exact .inl ⟨i, before.learning i stood, by_contra fun begun => after.learning i begun gone⟩
  · exact .inr ⟨i, before.operation i stood, fun begun => gone (after.operation i begun)⟩

theorem NoNewWork.refl (s : State) : NoNewWork s s := ⟨fun _ => id, fun _ => id⟩

theorem Steady.after {s t u : State} (b : Steady t u) (a : Steady s t) : Steady s u where
  work := b.work.after a.work
  grounds := b.grounds.after a.grounds
  arming i h := b.arming i (a.arming i h)
  orders := by
    rcases a.orders with same | ⟨done, ended⟩
    · rcases b.orders with same' | ⟨done, ended⟩
      · exact .inl (same'.trans same)
      · exact .inr ⟨orderDone_congr same.symm rfl done, ended.widen a.work (.refl u)⟩
    · rcases b.orders with same' | ⟨done', -⟩
      · exact .inr ⟨orderDone_congr rfl same' done, ended.widen (.refl s) b.work⟩
      · exact absurd done.idle done'.busy

theorem Steady.trans {s t u : State} (a : Steady s t) (b : Steady t u) : Steady s u := b.after a

/-- The figures that the promises speak of. -/
def duties (s : State) : OrderEngine × Vector Unbalance 8 × Vector Lane 8 × Vector StepRec 8 × Vector LineState 8 ×
    Bool × Option InHand × Option Computation :=
  (s.oe, s.ub, s.seq.lanes, s.tbl.recs, s.io.lines, s.io.inp2.level, s.rx.inHand, s.mu.computing)

/-- A change of other figures, or one of the window end in hand that leaves the unit's part in it. -/
theorem Steady.of_parts {s t : State} (oe : t.oe = s.oe) (ub : t.ub = s.ub) (lanes : t.seq.lanes = s.seq.lanes)
    (recs : t.tbl.recs = s.tbl.recs) (lines : t.io.lines = s.io.lines) (permit : t.io.inp2.level = s.io.inp2.level)
    (window : WindowAtUnit t ↔ WindowAtUnit s) : Steady s t := by
  have unb := unb_congr ub
  have record := stepRec_congr recs
  have lane (i : StepId) : t.lane i = s.lane i := congrArg (look · i) lanes
  have line (i : StepId) : t.lines i = s.lines i := congrArg (look · i) lines
  refine ⟨⟨fun i h => unb i ▸ h, fun i h => lane i ▸ h⟩, ⟨fun i h => ⟨line i ▸ h, fun retired => ?_⟩, fun h => ?_,
    window, fun i h => .inl (unb i ▸ h)⟩, fun i may armed => ?_, .inl oe⟩
  · rwa [record]
  · rwa [maintPermit, permit]
  · unfold MayBeArmed at *
    rw [unb] at armed ⊢
    rw [record]
    exact may armed

theorem Steady.of_duties {s t : State} (h : duties t = duties s) : Steady s t := by
  simp only [duties, Prod.mk.injEq] at h
  obtain ⟨oe, ub, lanes, recs, lines, permit, hand, computing⟩ := h
  exact .of_parts oe ub lanes recs lines permit (by rw [WindowAtUnit, hand, computing, WindowAtUnit])

theorem Steady.refl (s : State) : Steady s s := .of_duties rfl

/-- Rounds of an iteration are steady when each is. -/
theorem Steady.forEach {α : Type} {f : α → State → State} (h : ∀ a s, Steady s (f a s)) (l : List α) (s : State) :
    Steady s (forEach f l s) := forEach_invariant (Steady s) f (fun a _ k => (h a _).after k) l s (.refl s)

/-! ### One record changed -/

section

variable {i : StepId} {s : State}

theorem steady_modStep {f : StepRec → StepRec} (state : ∀ r, (f r).state = r.state)
    (retired : (s.lines i).direct = true → (s.stepRec i).retired = true → (f (s.stepRec i)).retired = true) :
    Steady s (s.modStep i f) := by
  refine ⟨⟨fun _ h => h, fun _ h => h⟩, ⟨fun j h => ⟨h, fun was => ?_⟩, id, Iff.rfl, fun _ => .inl⟩,
    fun j may armed => ?_, .inl rfl⟩
  · rw [State.modStep_stepRec]
    split
    · next e => exact retired (e ▸ h) (e ▸ was)
    · exact was
  · refine (may armed).imp_left fun closed => ?_
    rw [State.modStep_stepRec]
    split
    · next e => rw [state, ← e, closed]
    · exact closed

theorem steady_modLane {g : Lane → Lane} (h : OfOrder (g (s.lane i)) → OfOrder (s.lane i)) :
    Steady s (s.modLane i g) := by
  refine ⟨⟨fun _ h => h, fun j stands => ?_⟩, ⟨fun j h => ⟨h, id⟩, id, Iff.rfl, fun _ => .inl⟩, fun j may => may,
    .inl rfl⟩
  rw [State.modLane_lane] at stands
  split at stands
  · next e => exact e ▸ h stands
  · exact stands

theorem steady_modLines {g : LineState → LineState}
    (h : (g (s.lines i)).direct = true → (s.lines i).direct = true) : Steady s (s.modLines i g) := by
  refine ⟨⟨fun _ h => h, fun _ h => h⟩, ⟨fun j owned => ⟨?_, id⟩, id, Iff.rfl, fun _ => .inl⟩, fun j may => may,
    .inl rfl⟩
  rw [State.modLines_lines] at owned
  split at owned
  · next e => exact e ▸ h owned
  · exact owned

/-- A change of a step's unbalance record that begins no learning, notes no departure and arms no step that may not be
armed. -/
theorem steady_modUnb {f : Unbalance → Unbalance} (learning : (f (s.unb i)).learning ≠ none → (s.unb i).learning ≠ none)
    (departed : (f (s.unb i)).departed = true → (s.unb i).departed = true ∨ WindowAtUnit s)
    (armed : (f (s.unb i)).armed = true → ((s.unb i).armed = true → MayBeArmed i s) →
      (s.stepRec i).state = .closed ∨ (f (s.unb i)).departed = true) : Steady s (s.modUnb i f) := by
  refine ⟨⟨fun j begun => ?_, fun _ h => h⟩, ⟨fun j h => ⟨h, id⟩, id, Iff.rfl, fun j noted => ?_⟩,
    fun j may stands => ?_, .inl rfl⟩
  · rw [State.modUnb_unb] at begun
    split at begun
    · next e => exact e ▸ learning begun
    · exact begun
  · rw [State.modUnb_unb] at noted
    split at noted
    · next e => exact e ▸ departed noted
    · exact .inl noted
  · rw [State.modUnb_unb] at stands
    unfold MayBeArmed
    rw [State.modUnb_unb]
    split at stands
    · next e =>
      subst e
      rw [if_pos rfl]
      exact armed stands may
    · next ne =>
      rw [if_neg ne]
      exact may stands

/-- A change beside learning, arming and departure. -/
theorem steady_modUnb_beside {f : Unbalance → Unbalance} (learning : ∀ u, (f u).learning = u.learning)
    (armed : ∀ u, (f u).armed = u.armed) (departed : ∀ u, (f u).departed = u.departed) : Steady s (s.modUnb i f) := by
  refine steady_modUnb (fun h => ?_) (fun h => .inl ?_) fun h may => ?_
  · rwa [learning] at h
  · rwa [departed] at h
  · rw [armed] at h
    rw [departed]
    exact may h

theorem steady_raise (k : AlarmKind) (sub : Subject) (s : State) : Steady s (raise k sub s) := .of_duties rfl

theorem steady_endCause (k : AlarmKind) (sub : Subject) (s : State) : Steady s (endCause k sub s) := .of_duties rfl

/-! ### An order ends with its work (R75, R150, R168) -/

/-- The EXECUTING order, if any, ends. -/
theorem finishExecuting_orders (out : OrderOutcome) (r : Option Reason) (s : State) :
    (finishExecuting out r s).oe = s.oe ∨ OrderDone s (finishExecuting out r s) := by
  unfold finishExecuting
  split
  · exact .inl rfl
  · next j running => exact .inr ⟨j, _, running, ⟨rfl, rfl, rfl⟩, rfl⟩

theorem finishExecuting_beside (out : OrderOutcome) (r : Option Reason) (s : State) :
    duties { finishExecuting out r s with oe := s.oe } = duties s := by
  simp [duties]

/-- The order of work that has ended may end. -/
theorem Steady.finish {t : State} (h : Steady s t) (ended : WorkOver s t) (out : OrderOutcome) (r : Option Reason) :
    Steady s (finishExecuting out r t) := by
  have beside : Steady t { finishExecuting out r t with oe := t.oe } := .of_duties (finishExecuting_beside out r t)
  obtain ⟨work, grounds, arming, -⟩ := beside.after h
  refine ⟨⟨work.learning, work.operation⟩, ⟨grounds.direct, grounds.permit, grounds.window, grounds.departed⟩,
    arming, ?_⟩
  have both : WorkOver s (finishExecuting out r t) :=
    ended.widen (.refl s) ⟨beside.work.learning, beside.work.operation⟩
  rcases h.orders with same | ⟨done, -⟩
  · rcases finishExecuting_orders out r t with kept | done
    · exact .inl (kept.trans same)
    · exact .inr ⟨orderDone_congr same.symm rfl done, both⟩
  · exact .inr ⟨orderDone_congr rfl (by rw [finishExecuting, done.idle]) done, both⟩

/-- The end report of an operation that is gone from its lane (R75). -/
theorem Steady.report {t : State} {o : Operation} (h : Steady s t) (stood : (s.lane i).op = some o)
    (gone : ¬OfOrder (t.lane i)) (out : OrderOutcome) (r : Option Reason) :
    Steady s (endReport o.source out r t) := by
  cases source : o.source with
  | vc => exact h.trans (.of_duties rfl)
  | oe => exact h.finish (.inr ⟨i, ⟨o, stood, source⟩, gone⟩) out r
  | protection => exact h

/-! ### Operations over one step -/

theorem steady_clearStages (i : StepId) (s : State) : Steady s (clearStages i s) := by
  rw [clearStages_eq]
  exact .after (steady_modUnb_beside (fun _ => rfl) (fun _ => rfl) fun _ => rfl) (.of_duties rfl)

theorem steady_interruptLearning (i : StepId) (s : State) : Steady s (interruptLearning i s) := by
  unfold interruptLearning
  split
  · exact .refl s
  · next l stood =>
    have dropped : Steady s (s.modUnb i fun u => { u with learning := none }) :=
      steady_modUnb (fun h => absurd rfl h) .inl fun armed may => may armed
    refine dropped.finish (.inl ⟨i, by simp [stood], ?_⟩) _ _
    rw [State.modUnb_unb_self]

theorem steady_disarm (i : StepId) (s : State) : Steady s (disarm i s) := by
  have unarmed (u : State) : Steady u (u.modUnb i fun u => { u with armed := false, armCount := 0 }) :=
    steady_modUnb id .inl fun h => nomatch h
  exact .after (steady_interruptLearning i _) (.after (unarmed _) (steady_clearStages i s))

theorem steady_leaveClosed (i : StepId) (s : State) : Steady s (leaveClosed i s) := by
  rcases leaveClosed_cases i s with ⟨waits, eq⟩ | ⟨-, eq⟩
  · rw [eq]
    exact steady_modUnb id (fun _ => .inr waits) fun _ _ => .inr rfl
  · rw [eq]
    exact steady_disarm i s

/-- An entry into CLOSED arms no step (R136). -/
theorem steady_enterClosed (i : StepId) (s : State) : Steady s (enterClosed i s) := by
  have dropped : Steady s (s.modTimers i fun t => { t with arming := false }) := .of_duties rfl
  unfold enterClosed
  refine dropped.trans (steady_modUnb ?_ ?_ ?_)
  · split <;> exact id
  · split <;> exact .inl
  · split
    · next departed => exact fun _ _ => .inr departed
    · exact fun h => nomatch h

theorem steady_takeDeparture (i : StepId) (s : State) : Steady s (takeDeparture i s) := by
  unfold takeDeparture
  split
  · have disarmed : ((disarm i s).unb i).armed = false := by
      rw [disarm_unb_of, if_pos rfl]
      rfl
    have taken := (steady_modUnb (f := fun u => { u with departed := false }) (i := i) id (fun h => nomatch h)
      fun h => by simp [disarmed] at h).after (steady_disarm i s)
    dsimp only
    split
    · exact .after (steady_modUnb (f := Unbalance.entered) id .inl fun h => nomatch h) taken
    · exact taken
  · exact .refl s

theorem steady_abandonClose (i : StepId) (out : OrderOutcome) (r : Option Reason) (s : State) :
    Steady s (abandonClose i out r s) := by
  unfold abandonClose
  split
  · exact .refl s
  · next o stood =>
    have dropped : Steady s (s.modLane i fun l => { l with op := none }) := steady_modLane fun ⟨_, h, _⟩ => nomatch h
    have cleared : Steady s { s.modLane i fun l => { l with op := none } with
        seq.schedule := none, seq.syncWait := none } :=
      dropped.trans (.of_duties rfl)
    refine (cleared.report stood (i := i) ?_ out r).trans (.of_duties rfl)
    rintro ⟨o', stands, -⟩
    have own := State.modLane_lane_self i (fun l => { l with op := none }) s
    exact nomatch (congrArg Lane.op own).symm.trans stands

theorem steady_watchClose (i : StepId) (s : State) : Steady s (watchClose i s) := by
  unfold watchClose
  split
  · exact .refl s
  · split
    · split
      · exact .refl s
      · exact steady_abandonClose i _ _ s
    · exact .refl s

theorem steady_addLockout (i : StepId) (r : LockoutReason) (s : State) : Steady s (addLockout i r s) :=
  .after (steady_watchClose i _) (steady_modStep (fun _ => rfl) fun _ => id)

theorem steady_startCooldown (i : StepId) (s : State) : Steady s (startCooldown i s) :=
  .after (steady_watchClose i _) (.after (steady_modStep (fun _ => rfl) fun _ => id) (.of_duties rfl))

theorem steady_stopCooldown (i : StepId) (s : State) : Steady s (stopCooldown i s) :=
  .after (steady_modStep (fun _ => rfl) fun _ => id) (.of_duties rfl)

theorem steady_stopHoldoff (i : StepId) (s : State) : Steady s (stopHoldoff i s) :=
  .after (steady_modStep (fun _ => rfl) fun _ => id) (.of_duties rfl)

theorem steady_startHoldoff (i : StepId) (s : State) : Steady s (startHoldoff i s) := by
  unfold startHoldoff
  dsimp only
  split
  · exact .after (steady_watchClose i _) (.after (steady_modStep (fun _ => rfl) fun _ => id) (.of_duties rfl))
  · exact .of_duties rfl

theorem steady_armHoldoff (i : StepId) (s : State) : Steady s (armHoldoff i s) := by
  unfold armHoldoff
  split
  · exact steady_startHoldoff i s
  · exact .refl s
  · exact .refl s
  · exact .of_duties rfl

theorem steady_clearSuspect (i : StepId) (s : State) : Steady s (clearSuspect i s) := by
  unfold clearSuspect
  split
  · exact .after (steady_endCause _ _ _) (steady_modStep (fun _ => rfl) fun _ => id)
  · exact .refl s

/-! ### A step that changes its state (R51, R52, R138) -/

theorem steady_leaveState (i : StepId) (old : StepState) (s : State) : Steady s (leaveState i old s) := by
  unfold leaveState
  split
  · exact steady_stopCooldown i s
  · exact steady_leaveClosed i s
  · exact steady_endCause _ _ s
  · exact .refl s

theorem steady_enterState (i : StepId) (new : StepState) (s : State) : Steady s (enterState i new s) := by
  unfold enterState
  split
  · unfold enterOpened
    have cooled := (steady_startCooldown i _).after (steady_clearSuspect i s)
    dsimp only
    split
    · exact .after (steady_startHoldoff i _) cooled
    · exact cooled
  · exact steady_enterClosed i s
  · next c =>
    have armed : Steady s (if (s.stepRec i).suspect then s.modTimers i fun t => { t with arming := true } else s) := by
      split <;> exact .of_duties rfl
    have cleared := (steady_clearSuspect i _).after armed
    unfold enterFaulted
    dsimp only
    split
    · exact .after (steady_raise _ _ _) cleared
    · exact cleared
  · exact .refl s

/-- A step that may be armed after a change of its state is CLOSED, or its departure waits (R136, R138). -/
theorem arming_moveStep (i : StepId) (new : StepState) (s : State) : ArmingKept s (moveStep i new s) := by
  intro j may armed
  unfold MayBeArmed
  by_cases e : j = i
  · subst e
    by_cases closed : new = .closed
    · exact .inl (by rw [moveStep_state, if_pos rfl, closed])
    · refine .inr ?_
      rw [moveStep_unb, if_pos rfl, enteredUnb, if_neg closed, leftUnb] at armed ⊢
      split at armed
      · next left =>
        rw [if_pos left]
        split at armed
        · cases armed
        · next waits => rw [if_neg waits]
      · next elsewhere =>
        rw [if_neg elsewhere]
        exact (may armed).resolve_left elsewhere
  · rw [moveStep_unb, if_neg e] at armed ⊢
    rw [moveStep_stepRec, if_neg e]
    exact may armed

theorem steady_moveStep (i : StepId) (new : StepState) (s : State) : Steady s (moveStep i new s) := by
  have frame : (relisted i new s).ub = s.ub ∧ (relisted i new s).seq = s.seq ∧ (relisted i new s).oe = s.oe ∧
      (relisted i new s).io = s.io ∧ (relisted i new s).rx = s.rx ∧ (relisted i new s).mu = s.mu := by simp
  obtain ⟨ub, seq, oe, io, rx, mu⟩ := frame
  have unb := unb_congr ub
  have lane := lane_congr seq
  have work : NoNewWork s (relisted i new s) := ⟨fun j h => unb j ▸ h, fun j h => lane j ▸ h⟩
  have grounds : GroundsKept s (relisted i new s) := by
    refine ⟨fun j h => ⟨?_, fun retired => ?_⟩, fun h => ?_, ?_, fun j h => .inl (unb j ▸ h)⟩
    · rwa [State.lines, io] at h
    · rw [relisted_stepRec]
      split
      · next e => exact e ▸ retired
      · exact retired
    · rwa [maintPermit, io]
    · rw [WindowAtUnit, rx, mu, WindowAtUnit]
  have moved := (steady_leaveState i (s.stepRec i).state (relisted i new s)).trans
    ((steady_enterState i new _).trans (steady_watchClose i _))
  rw [← moveStep_eq] at moved
  refine ⟨moved.work.after work, moved.grounds.after grounds, arming_moveStep i new s, ?_⟩
  exact moved.orders.imp (fun same => same.trans oe) fun ⟨done, ended⟩ =>
    ⟨orderDone_congr oe.symm rfl done, ended.widen work (.refl _)⟩

/-- A FAULTED step stays so, whatever the cause (R45, R47). -/
theorem steady_faultInvalid {i : StepId} {c : FaultCause} {s : State} (h : (s.stepRec i).state = .faulted c) :
    Steady s (faultInvalid i s) := by
  have caused : Steady s (s.modStep i fun r => { r with state := .faulted .positionInvalid }) := by
    refine ⟨⟨fun _ h => h, fun _ h => h⟩, ⟨fun j h => ⟨h, fun was => ?_⟩, id, Iff.rfl, fun _ => .inl⟩,
      fun j may armed => ?_, .inl rfl⟩
    · rw [State.modStep_stepRec]
      split
      · next e => exact e ▸ was
      · exact was
    · refine (may armed).imp_left fun closed => ?_
      rw [State.modStep_stepRec]
      split
      · next e => simp [← e, closed] at h
      · exact closed
  unfold faultInvalid
  dsimp only
  split
  · exact caused
  · exact caused.trans (steady_raise _ _ _)

end

end Sys2Proof.Proofs

namespace Sys2Proof.Proofs

open Sys2Proof.Machine Sys2Proof.Safety Sys2Proof.Laws

/-! ### The sequencer's work is steady -/

/-- A lane with another operation of the same requester holds no more of the order engine's. -/
theorem ofOrder_source {l : Lane} {o o' : Operation} (h : l.op = some o) (source : o'.source = o.source)
    {l' : Lane} (h' : l'.op = some o') (stands : OfOrder l') : OfOrder l := by
  obtain ⟨_, hx, order⟩ := stands
  exact ⟨o, h, source.symm.trans (Option.some.inj (h'.symm.trans hx) ▸ order)⟩

theorem not_ofOrder {l : Lane} {o : Operation} (h : l.op = some o) (source : o.source ≠ .oe) : ¬OfOrder l :=
  fun ⟨_, hx, order⟩ => source (Option.some.inj (h.symm.trans hx) ▸ order)

section

variable {i : StepId} {s : State}

theorem steady_lastSource (i : StepId) (src : OpSource) (s : State) :
    Steady s (s.modStep i fun c => { c with lastSource := src }) := steady_modStep (fun _ => rfl) fun _ => id

/-- A change of pulse and confirm times. -/
theorem steady_modLane_times {g : Lane → Lane} (op : ∀ l, (g l).op = l.op) : Steady s (s.modLane i g) :=
  steady_modLane fun ⟨o, h, source⟩ => ⟨o, op (s.lane i) ▸ h, source⟩

/-- An operation that moves on stays its requester's (R75, R81). -/
theorem steady_modLane_op {g : Lane → Lane} {o o' : Operation} (stood : (s.lane i).op = some o)
    (moved : (g (s.lane i)).op = some o') (source : o'.source = o.source) : Steady s (s.modLane i g) :=
  steady_modLane (ofOrder_source stood source moved)

theorem steady_startClosePulse (i : StepId) (s : State) : Steady s (startClosePulse i s) := by
  unfold startClosePulse
  split
  · exact .refl s
  · next o stood =>
    have pulsed : Steady s (s.modLane i fun l => { l with
        op := some { o with phase := .inMotion }, closePulse := s.cfg.yard.closePulse,
        confirm := some s.cfg.yard.confirmTime }) := steady_modLane_op stood rfl rfl
    exact .after (steady_moveStep i _ _) (.after (steady_lastSource i _ _) (pulsed.trans (.of_duties rfl)))

theorem steady_tryClosePulse (i : StepId) (s : State) : Steady s (tryClosePulse i s) := by
  unfold tryClosePulse
  split
  · exact steady_startClosePulse i s
  · exact steady_abandonClose i _ _ s

theorem steady_scheduleClose (i : StepId) (frame : Word) (wave : BitVec 5) (s : State) :
    Steady s (scheduleClose i frame wave s) := by
  have scheduled :
      Steady s (s.modLane i fun l => { l with op := l.op.map fun o => { o with phase := .scheduled } }) := by
    refine steady_modLane fun ⟨_, hx, order⟩ => ?_
    obtain ⟨o, stood, rfl⟩ := Option.map_eq_some_iff.mp hx
    exact ⟨o, stood, order⟩
  unfold scheduleClose
  dsimp only
  split
  · exact steady_tryClosePulse i s
  · exact scheduled.trans (.of_duties rfl)

/-- A close goes on from where it was taken (R75 to R80). -/
theorem steady_takenClose (i : StepId) (src : Requester) (tm : Timing) (s : State) :
    Steady (takenClose i src tm s) (takeClose i src tm s) := by
  have waiting (u : State) : Steady u (waitingClose src u) := by
    unfold waitingClose
    split <;> exact .of_duties rfl
  rw [takeClose_eq]
  split
  · exact steady_abandonClose i _ _ _
  · split
    · exact steady_tryClosePulse i _
    · refine (waiting _).trans ?_
      unfold synchronizeClose
      (repeat' split)
      · exact steady_scheduleClose i _ _ _
      · exact .refl _
      · exact steady_abandonClose i _ _ _

/-- Voltage control's close is no work of an order. -/
theorem steady_takeClose_vc (i : StepId) (tm : Timing) (s : State) : Steady s (takeClose i .vc tm s) := by
  have taken : Steady s (s.modLane i fun l => { l with op := some ⟨.close tm, .vc, .awaitingValid, true⟩ }) :=
    steady_modLane fun stands => absurd stands (not_ofOrder rfl nofun)
  have busy : Steady s (takenClose i .vc tm s) := taken.trans (.of_duties rfl)
  exact busy.trans (steady_takenClose i .vc tm s)

/-- A lane with a trip's operation and its pulse (R86). -/
def pulsedTrip (c : YardSettings) (o : Operation) (l : Lane) : Lane :=
  { l with op := some { o with phase := .inMotion }, closePulse := 0, tripPulse := c.tripPulse,
           confirm := some c.confirmTime }

/-- The state in which a trip pulse has been put on a lane (R86). -/
def trippedLane (i : StepId) (o : Operation) (s : State) : State := s.modLane i (pulsedTrip s.cfg.yard o)

theorem trippedLane_op (i : StepId) (o : Operation) (s : State) :
    ((trippedLane i o s).lane i).op = some { o with phase := .inMotion } :=
  congrArg Lane.op (State.modLane_lane_self ..)

/-- A trip goes on from its pulse (R86). -/
theorem steady_trippedLane (i : StepId) (o : Operation) (s : State) :
    Steady (trippedLane i o s) (startTripPulse i o s) :=
  .after (steady_moveStep i _ _) (steady_lastSource i _ _)

/-- A trip pulse that is no order's leaves no operation of the order engine on its lane (R86, R89). -/
theorem steady_startTripPulse {o : Operation} (source : o.source ≠ .oe) (i : StepId) (s : State) :
    Steady s (startTripPulse i o s) ∧ ¬OfOrder ((startTripPulse i o s).lane i) := by
  have put_on : Steady s (trippedLane i o s) := steady_modLane fun stands => absurd stands (not_ofOrder rfl source)
  have moved := steady_trippedLane i o s
  exact ⟨put_on.trans moved, fun stands =>
    not_ofOrder (trippedLane_op i o s) source (moved.work.operation i stands)⟩

theorem steady_takeOpen_vc (i : StepId) (s : State) : Steady s (takeOpen i .vc s) := by
  unfold takeOpen
  dsimp only
  split
  · exact .after (steady_startTripPulse (by nofun) i _).1 (.of_duties rfl)
  · exact .of_duties rfl

theorem steady_protectiveOpen (i : StepId) (s : State) : Steady s (protectiveOpen i s) := by
  unfold protectiveOpen
  split
  · split
    · exact .refl s
    · exact (steady_startTripPulse (by nofun) i s).1
  · split
    · exact (steady_startTripPulse (by nofun) i s).1
    · next o stood =>
      obtain ⟨tripped, gone⟩ :=
        steady_startTripPulse (o := ⟨.trip, .protection, .inMotion, o.underRight⟩) (by nofun) i s
      exact tripped.report stood gone _ _
  · exact .refl s

theorem steady_openAll (s : State) : Steady s (openAll s) := .forEach steady_protectiveOpen _ s

/-! ### Operations that end (R82 to R88) -/

theorem steady_passIfUnder (o : Operation) (ms : Nat) (s : State) : Steady s (passIfUnder o ms s) :=
  .of_duties (by simp [duties])

/-- An operation that has gone from its lane ends after what its end brings to the step (R75, R82, R86). -/
theorem Steady.end_of_dropped {o : Operation} {t : State} (stood : (s.lane i).op = some o)
    (moved : Steady (dropOperation i s) t) (out : OrderOutcome) (r : Option Reason) (ms : Nat) :
    Steady s (passIfUnder o ms (endReport o.source out r t)) := by
  have dropped : Steady s (dropOperation i s) := steady_modLane fun ⟨_, h, _⟩ => nomatch h
  have own := State.modLane_lane_self i (fun l => { l with op := none, confirm := none }) s
  have gone : ¬OfOrder ((dropOperation i s).lane i) := fun ⟨_, h, _⟩ => nomatch (congrArg Lane.op own).symm.trans h
  exact ((dropped.trans moved).report stood (fun stands => gone (moved.work.operation i stands)) out r).trans
    (steady_passIfUnder o ms _)

variable {o : Operation}

theorem steady_confirmClose (stood : (s.lane i).op = some o) : Steady s (confirmClose i o s) := by
  have counted (u : State) : Steady u (u.modStep i fun c => { c with opCount := min (c.opCount + 1) 65535 }) :=
    steady_modStep (fun _ => rfl) fun _ => id
  have watched (u : State) : Steady u (openWatch i u) := .of_duties rfl
  have moved := (steady_moveStep i .closed (dropOperation i s)).trans ((counted _).trans (watched _))
  exact moved.end_of_dropped stood .done none _

theorem steady_confirmOpen (stood : (s.lane i).op = some o) : Steady s (confirmOpen i o s) :=
  (steady_moveStep i .opened (dropOperation i s)).end_of_dropped stood .done none _

theorem steady_judgeDelivery (i : StepId) (p : Position) (s : State) : Steady s (judgeDelivery i p s) := by
  unfold judgeDelivery
  split
  · next stood _ =>
    split
    · exact steady_confirmClose stood
    · exact steady_confirmOpen stood
    · exact .refl s
  · exact .refl s

theorem steady_closeNoIndication (stood : (s.lane i).op = some o) : Steady s (closeNoIndication i o s) := by
  have cut (u : State) : Steady u (u.modLane i fun l => { l with closePulse := 0 }) := steady_modLane_times fun _ => rfl
  have moved := (cut (dropOperation i s)).trans (steady_moveStep i (.faulted .noIndication) _)
  exact moved.end_of_dropped stood .failed (some .noIndication) _

theorem steady_closeFailure (stood : (s.lane i).op = some o) : Steady s (closeFailure i o s) := by
  obtain ⟨tripped, gone⟩ := steady_startTripPulse (o := ⟨.trip, .protection, .inMotion, o.underRight⟩) (by nofun) i s
  have locked (u : State) : Steady u (raise .closeFail (.step i) (addLockout i .closeFailure u)) :=
    (steady_addLockout i .closeFailure u).trans (steady_raise .closeFail (.step i) _)
  exact (tripped.trans (locked _)).report stood (fun stands => gone ((locked _).work.operation i stands)) .failed
    (some .position)

theorem steady_openFailure (stood : (s.lane i).op = some o) : Steady s (openFailure i o s) := by
  have cut (u : State) : Steady u (u.modLane i fun l => { l with tripPulse := 0 }) := steady_modLane_times fun _ => rfl
  have lost (u : State) :
      Steady u (moveStep i (.faulted .noIndication) (u.modLane i fun l => { l with tripPulse := 0 })) :=
    (cut u).trans (steady_moveStep i _ _)
  have locked (u : State) : Steady u (raise .switchFail (.step i) (addLockout i .switchFailure
      (moveStep i (.faulted .switchFailure) (u.modLane i fun l => { l with tripPulse := 0 })))) :=
    (cut u).trans ((steady_moveStep i _ _).trans ((steady_addLockout i _ _).trans (steady_raise _ _ _)))
  have driven {t u : State} (n : Nat) (k : Steady t u) : Steady t { u with seq.yardTrip := n } :=
    k.trans (.of_duties rfl)
  unfold openFailure
  dsimp only
  split
  · exact (driven _ (locked (dropOperation i s))).end_of_dropped stood _ _ _
  · exact (lost (dropOperation i s)).end_of_dropped stood _ _ _

/-! ### The close that has not started its pulse (R77 to R80) -/

theorem unpulsedClose_op {o : Operation} (h : unpulsedClose s = some (i, o)) : (s.lane i).op = some o := by
  unfold unpulsedClose at h
  split at h
  · cases h
  · split at h
    · cases h
    · next stood =>
      cases h
      exact stood

theorem steady_vcWithdrawClose (s : State) : Steady s (vcWithdrawClose s) := by
  unfold vcWithdrawClose
  split
  · exact .refl s
  · split
    · exact steady_abandonClose _ _ _ s
    · exact .refl s

theorem steady_loseSchedule (stood : (s.lane i).op = some o) : Steady s (loseSchedule i o s) := by
  unfold loseSchedule
  dsimp only
  split
  · split
    · exact steady_abandonClose i _ _ s
    · have waits : Steady s (s.modLane i fun l => { l with op := some { o with phase := .awaitingValid } }) :=
        steady_modLane_op stood rfl rfl
      exact waits.trans (.of_duties rfl)
  · exact steady_abandonClose i _ _ s

theorem steady_measNotice (frame : Word) (wave : BitVec 5) (s : State) : Steady s (measNotice frame wave s) := by
  unfold measNotice
  split
  · exact .refl s
  · next found =>
    split
    · split
      · exact steady_scheduleClose _ _ _ s
      · exact .refl s
    · split
      · exact steady_loseSchedule (unpulsedClose_op found)
      · exact .refl s

theorem steady_vcGranted (s : State) : Steady s (vcGranted s) := by
  obtain ⟨v, eq | ⟨i, eq⟩ | ⟨i, eq⟩⟩ := vcGranted_cases s
  · rw [eq]
    exact .of_duties rfl
  · rw [eq]
    exact .after (steady_takeOpen_vc i _) (.of_duties rfl)
  · rw [eq]
    exact .after (steady_takeClose_vc i _ _) (.of_duties rfl)

end

end Sys2Proof.Proofs

namespace Sys2Proof.Proofs

open Sys2Proof.Machine Sys2Proof.Safety Sys2Proof.Laws

/-! ### The order pool when one slot takes another record (R155, R166) -/

theorem poolOk_congr {s t : State} (h : t.oe = s.oe) : PoolOk t ↔ PoolOk s := by simp only [PoolOk, State.slot, h]

/-- One slot has taken another record; the queues, the engine and the slot's timers go by its new state. -/
structure SlotMoved (i : SlotId) (o : Slot) (s t : State) : Prop where
  slots : t.oe.slots = put s.oe.slots i o
  free : t.oe.freeQueue.Nodup ∧ ∀ k, k ∈ t.oe.freeQueue ↔ if k = i then o.state = .free else k ∈ s.oe.freeQueue
  posted : t.oe.posted.Nodup ∧ ∀ k, k ∈ t.oe.posted ↔ if k = i then o.state = .posted else k ∈ s.oe.posted
  executing : ∀ k, t.oe.executing = some k ↔ if k = i then o.state = .executing else s.oe.executing = some k
  timers : o.state ≠ .posted → o.notBeforeTimer = none ∧ o.deadlineTimer = none

section

variable {i : SlotId} {o : Slot} {s t : State}

theorem slot_of_put (h : t.oe.slots = put s.oe.slots i o) (k : SlotId) : t.slot k = if k = i then o else s.slot k := by
  rw [State.slot, h]
  exact look_put _ _ _ _

theorem SlotMoved.poolOk (h : SlotMoved i o s t) (pool : PoolOk s) : PoolOk t := by
  obtain ⟨-, -, each⟩ := pool
  refine ⟨h.free.1, h.posted.1, fun k => ?_⟩
  rw [slot_of_put h.slots, h.free.2, h.posted.2, h.executing]
  split
  · exact ⟨Iff.rfl, Iff.rfl, Iff.rfl, h.timers⟩
  · exact each k

/-- The free queue where the slot neither was FREE nor becomes so. -/
theorem poolOk_keepFree (pool : PoolOk s) (was : (s.slot i).state ≠ .free) (is : o.state ≠ .free) :
    s.oe.freeQueue.Nodup ∧ ∀ k, k ∈ s.oe.freeQueue ↔ if k = i then o.state = .free else k ∈ s.oe.freeQueue := by
  obtain ⟨nodup, -, each⟩ := pool
  refine ⟨nodup, fun k => ?_⟩
  split
  · next e => exact iff_of_false (fun h => was (e ▸ (each k).1.mp h)) is
  · exact Iff.rfl

theorem poolOk_keepPosted (pool : PoolOk s) (was : (s.slot i).state ≠ .posted) (is : o.state ≠ .posted) :
    s.oe.posted.Nodup ∧ ∀ k, k ∈ s.oe.posted ↔ if k = i then o.state = .posted else k ∈ s.oe.posted := by
  obtain ⟨-, nodup, each⟩ := pool
  refine ⟨nodup, fun k => ?_⟩
  split
  · next e => exact iff_of_false (fun h => was (e ▸ (each k).2.1.mp h)) is
  · exact Iff.rfl

/-- The posted queue without a slot that is no longer POSTED (R155). -/
theorem poolOk_leaves (pool : PoolOk s) (is : o.state ≠ .posted) :
    (s.oe.posted.filter (· ≠ i)).Nodup ∧
    ∀ k, k ∈ s.oe.posted.filter (· ≠ i) ↔ if k = i then o.state = .posted else k ∈ s.oe.posted := by
  obtain ⟨-, nodup, -⟩ := pool
  refine ⟨nodup.filter _, fun k => ?_⟩
  rw [List.mem_filter, decide_eq_true_iff]
  split
  · next e => exact iff_of_false (fun h => h.2 e) is
  · next ne => exact and_iff_left ne

/-- The engine where the slot neither was EXECUTING nor becomes so. -/
theorem poolOk_keepRunning (pool : PoolOk s) (was : (s.slot i).state ≠ .executing) (is : o.state ≠ .executing)
    (k : SlotId) : s.oe.executing = some k ↔ if k = i then o.state = .executing else s.oe.executing = some k := by
  obtain ⟨-, -, each⟩ := pool
  split
  · next e => exact iff_of_false (fun h => was (e ▸ (each k).2.2.1.mp h)) is
  · exact Iff.rfl

/-- A queue with a slot added at its tail that was not in it. -/
theorem nodup_append_new {l : List SlotId} (nodup : l.Nodup) (new : i ∉ l) : (l ++ [i]).Nodup :=
  List.nodup_append.mpr ⟨nodup, List.nodup_singleton i, fun a ha b hb e => new (by
    rw [List.mem_singleton] at hb
    exact hb ▸ e ▸ ha)⟩

theorem mem_append_new {l : List SlotId} {p : Prop} (hp : p) (k : SlotId) :
    k ∈ l ++ [i] ↔ if k = i then p else k ∈ l := by
  rw [List.mem_append, List.mem_singleton]
  split
  · next e => exact iff_of_true (.inr e) hp
  · next ne => exact or_iff_left ne

end

/-! ### Work and its order (R148, R167, R168) -/

/-- No learning stands, and no operation of the order engine. -/
def NoWork (s : State) : Prop := (∀ i, (s.unb i).learning = none) ∧ ∀ i, ¬OfOrder (s.lane i)

/-- The EXECUTING order stands in its slot: its kind is among some, and it names a step. -/
def RunsFor (kinds : List Byte) (i : StepId) (s : State) : Prop :=
  ∃ j, s.oe.executing = some j ∧ (s.slot j).kind ∈ kinds ∧ (s.slot j).step.toNat = i.val

section

variable {s t : State}

theorem engineOk_iff (s : State) : EngineOk s ↔
    (∀ i, (s.unb i).learning ≠ none → RunsFor [6] i s) ∧ ∀ i, OfOrder (s.lane i) → RunsFor [1, 2] i s := by
  simp only [EngineOk, RunsFor, OfOrder, List.mem_cons, List.not_mem_nil, or_false]
  refine and_congr (forall_congr' fun i => ?_) (forall_congr' fun i => ?_)
  · exact ⟨fun h stands => let ⟨l, hl⟩ := Option.ne_none_iff_exists'.mp stands; h l hl,
      fun h l hl => h (by simp [hl])⟩
  · exact ⟨fun h ⟨o, ho, source⟩ => h o ho source, fun h o ho source => h ⟨o, ho, source⟩⟩

theorem NoWork.engineOk (h : NoWork s) : EngineOk s :=
  (engineOk_iff s).mpr ⟨fun i stands => absurd (h.1 i) stands, fun i stands => absurd stands (h.2 i)⟩

theorem NoNewWork.noWork (h : NoNewWork s t) (none : NoWork s) : NoWork t :=
  ⟨fun i => by_contra fun begun => h.learning i begun (none.1 i), fun i begun => none.2 i (h.operation i begun)⟩

/-- An IDLE engine has no work. -/
theorem noWork_of_idle (h : EngineOk s) (idle : s.oe.executing = none) : NoWork s := by
  obtain ⟨learning, operation⟩ := (engineOk_iff s).mp h
  have nobody {kinds : List Byte} {i : StepId} : ¬RunsFor kinds i s := fun ⟨j, runs, _⟩ => nomatch idle.symm.trans runs
  exact ⟨fun i => by_contra fun stands => nobody (learning i stands), fun i stands => nobody (operation i stands)⟩

/-- The EXECUTING order stays so, with its kind and its step. -/
def SameRunning (s t : State) : Prop :=
  ∀ j, s.oe.executing = some j →
    t.oe.executing = some j ∧ (t.slot j).kind = (s.slot j).kind ∧ (t.slot j).step = (s.slot j).step

theorem SameRunning.engineOk (same : SameRunning s t) (work : NoNewWork s t) (h : EngineOk s) : EngineOk t := by
  have runs {kinds : List Byte} {i : StepId} : RunsFor kinds i s → RunsFor kinds i t := fun ⟨j, runs, kind, step⟩ => by
    obtain ⟨runs', kind', step'⟩ := same j runs
    exact ⟨j, runs', kind' ▸ kind, step' ▸ step⟩
  obtain ⟨learning, operation⟩ := (engineOk_iff s).mp h
  exact (engineOk_iff t).mpr ⟨fun i stands => runs (learning i (work.learning i stands)),
    fun i stands => runs (operation i (work.operation i stands))⟩

theorem sameRunning_of_oe (h : t.oe = s.oe) : SameRunning s t :=
  fun j runs => by simp only [State.slot, h, runs, and_self]

/-- All work is of the one EXECUTING order: where some of it has ended none is left (R148, R167). -/
theorem noWork_of_ended (h : EngineOk s) (work : NoNewWork s t) (ended : WorkOver s t) : NoWork t := by
  obtain ⟨learning, operation⟩ := (engineOk_iff s).mp h
  have same {kinds kinds' : List Byte} {i i' : StepId} (a : RunsFor kinds i s) (b : RunsFor kinds' i' s) :
      i = i' ∧ ∃ k, k ∈ kinds ∧ k ∈ kinds' := by
    obtain ⟨j, runs, kind, step⟩ := a
    obtain ⟨j', runs', kind', step'⟩ := b
    obtain rfl : j = j' := Option.some.inj (runs.symm.trans runs')
    exact ⟨Fin.ext (step.symm.trans step'), _, kind, kind'⟩
  rcases ended with ⟨i, stood, gone⟩ | ⟨i, stood, gone⟩
  · refine ⟨fun i' => by_contra fun stands => ?_, fun i' stands => ?_⟩
    · obtain ⟨rfl, -⟩ := same (learning i stood) (learning i' (work.learning i' stands))
      exact stands gone
    · obtain ⟨-, k, six, switching⟩ := same (learning i stood) (operation i' (work.operation i' stands))
      simp only [List.mem_cons, List.not_mem_nil, or_false] at six switching
      simp [six] at switching
  · refine ⟨fun i' => by_contra fun stands => ?_, fun i' stands => ?_⟩
    · obtain ⟨-, k, switching, six⟩ := same (operation i stood) (learning i' (work.learning i' stands))
      simp only [List.mem_cons, List.not_mem_nil, or_false] at six switching
      simp [six] at switching
    · obtain ⟨rfl, -⟩ := same (operation i stood) (operation i' (work.operation i' stands))
      exact gone stands

/-! ### The promises of the order pool, the line owners and the arming, kept together -/

/-- The order pool, the engine's work, the line owners and the arming are in order after a change where they were before
it. -/
structure Upholds (s t : State) : Prop where
  pool : PoolOk s → PoolOk t
  engine : PoolOk s → EngineOk s → EngineOk t
  direct : DirectOk s → DirectOk t
  armed : ArmedOk s → ArmedOk t

theorem Upholds.trans {u : State} (a : Upholds s t) (b : Upholds t u) : Upholds s u where
  pool h := b.pool (a.pool h)
  engine p h := b.engine (a.pool p) (a.engine p h)
  direct h := b.direct (a.direct h)
  armed h := b.armed (a.armed h)

theorem Upholds.after {u : State} (b : Upholds t u) (a : Upholds s t) : Upholds s u := a.trans b

theorem GroundsKept.directOk (h : GroundsKept s t) (ok : DirectOk s) : DirectOk t := fun i owned => by
  obtain ⟨was, stays⟩ := h.direct i owned
  obtain ⟨retired, permit⟩ := ok i was
  exact ⟨stays retired, h.permit permit⟩

theorem GroundsKept.armedOk (h : GroundsKept s t) (arming : ArmingKept s t) (ok : ArmedOk s) : ArmedOk t := fun i =>
  ⟨arming i (ok i).1, fun departed => (h.departed i departed).elim (fun was => h.window.mpr ((ok i).2 was)) id⟩

/-- The EXECUTING order ends (R168). -/
theorem OrderDone.poolOk (h : OrderDone s t) (pool : PoolOk s) : PoolOk t := by
  obtain ⟨j, o, runs, ⟨finished, timers⟩, oe⟩ := h
  have executing : (s.slot j).state = .executing := (pool.2.2 j).2.2.1.mp runs
  refine SlotMoved.poolOk (i := j) (o := o) ⟨by rw [oe], ?_, ?_, fun k => ?_, fun _ => timers⟩ pool
  · rw [oe]
    exact poolOk_keepFree pool (by simp [executing]) (by simp [finished])
  · rw [oe]
    exact poolOk_keepPosted pool (by simp [executing]) (by simp [finished])
  · rw [oe]
    split
    · exact iff_of_false nofun (by simp [finished])
    · next ne => exact iff_of_false nofun fun runs' => ne (Option.some.inj (runs'.symm.trans runs))

theorem Steady.upholds (h : Steady s t) : Upholds s t where
  pool pool := by
    rcases h.orders with same | ⟨done, -⟩
    · exact (poolOk_congr same).mpr pool
    · exact done.poolOk pool
  engine _ ok := by
    rcases h.orders with same | ⟨-, ended⟩
    · exact (sameRunning_of_oe same).engineOk h.work ok
    · exact (noWork_of_ended ok h.work ended).engineOk
  direct := h.grounds.directOk
  armed := h.grounds.armedOk h.arming

theorem Upholds.refl (s : State) : Upholds s s := (Steady.refl s).upholds

theorem Upholds.of_duties (h : duties t = duties s) : Upholds s t := (Steady.of_duties h).upholds

theorem Upholds.forEach {α : Type} {f : α → State → State} (h : ∀ a s, Upholds s (f a s)) (l : List α) (s : State) :
    Upholds s (forEach f l s) := forEach_invariant (Upholds s) f (fun a _ k => k.trans (h a _)) l s (.refl s)

end

end Sys2Proof.Proofs

namespace Sys2Proof.Proofs

open Sys2Proof.Machine Sys2Proof.Safety Sys2Proof.Laws

/-! ### Changes of the order pool -/

section

variable {j : SlotId} {s t : State}

/-- A change of the order pool beside all else that the promises speak of. -/
theorem upholds_of_pool (beside : duties { t with oe := s.oe } = duties s)
    (pool : PoolOk s → PoolOk t ∧ SameRunning s t) : Upholds s t := by
  obtain ⟨work, grounds, arming, -⟩ := Steady.of_duties beside
  have work : NoNewWork s t := ⟨work.learning, work.operation⟩
  have grounds : GroundsKept s t := ⟨grounds.direct, grounds.permit, grounds.window, grounds.departed⟩
  exact ⟨fun ok => (pool ok).1, fun ok => (pool ok).2.engineOk work, grounds.directOk, grounds.armedOk arming⟩

/-- The EXECUTING order stays where another slot takes another record. -/
theorem sameRunning_of_put {o : Slot} (running : t.oe.executing = s.oe.executing)
    (slots : t.oe.slots = put s.oe.slots j o) (other : s.oe.executing ≠ some j) : SameRunning s t := fun k runs => by
  have ne : k ≠ j := fun e => other (e ▸ runs)
  rw [running, slot_of_put slots, if_neg ne]
  exact ⟨runs, rfl, rfl⟩

/-- An order has left the posted queue, and its slot holds its end (R155, R168). -/
def LeftEnded (j : SlotId) (s t : State) : Prop :=
  ∃ o, SlotEnded o ∧ t.oe = { s.oe with posted := s.oe.posted.filter (· ≠ j), slots := put s.oe.slots j o }

theorem LeftEnded.pool (h : LeftEnded j s t) (posted : (s.slot j).state = .posted) (pool : PoolOk s) :
    PoolOk t ∧ SameRunning s t := by
  obtain ⟨o, ⟨finished, timers⟩, oe⟩ := h
  have other : s.oe.executing ≠ some j := fun runs =>
    absurd (posted.symm.trans ((pool.2.2 j).2.2.1.mp runs)) (by decide)
  refine ⟨SlotMoved.poolOk (i := j) (o := o) ⟨by rw [oe], ?_, ?_, ?_, fun _ => timers⟩ pool,
    sameRunning_of_put (by rw [oe]) (by rw [oe]) other⟩ <;> rw [oe]
  · exact poolOk_keepFree pool (by simp [posted]) (by simp [finished])
  · exact poolOk_leaves pool (by simp [finished])
  · exact poolOk_keepRunning pool (by simp [posted]) (by simp [finished])

/-- A POSTED order that ends after work that leaves the engine as it is. -/
theorem leftEnded_of_work {u : State} (same : u.oe = (leavePosted j s).oe) (out : OrderOutcome) (r : Option Reason) :
    LeftEnded j s (finishSlot j out r u) := by
  refine ⟨{ (leavePosted j s).slot j with
    state := .finished, outcome := some out, reason := r, finishedAt := some u.clock.seconds, notBeforeTimer := none,
    deadlineTimer := none }, ⟨rfl, rfl, rfl⟩, ?_⟩
  simp [finishSlot, State.modSlot, State.slot, same, leavePosted]

/-- A POSTED order that ends while the engine is IDLE, after steady work (R155, R166). -/
theorem upholds_leftEnded {u : State} (idle : s.oe.executing = none) (found : j ∈ s.oe.posted)
    (h : Steady (leavePosted j s) u) (out : OrderOutcome) (r : Option Reason) : Upholds s (finishSlot j out r u) := by
  have same : u.oe = (leavePosted j s).oe := h.orders.resolve_right fun done => done.1.busy idle
  have ordered (pool : PoolOk s) := (leftEnded_of_work same out r).pool ((pool.2.2 j).2.1.mp found) pool
  have work : NoNewWork s (finishSlot j out r u) := ⟨h.work.learning, h.work.operation⟩
  have grounds : GroundsKept s (finishSlot j out r u) :=
    ⟨h.grounds.direct, h.grounds.permit, h.grounds.window, h.grounds.departed⟩
  exact ⟨fun pool => (ordered pool).1, fun pool => (ordered pool).2.engineOk work, grounds.directOk,
    grounds.armedOk h.arming⟩

end

/-! ### What an order found names (R163) -/

/-- An order that is found waits in the posted queue, and its slot names its kind and its step. -/
structure Found (x : StartItem) (s : State) : Prop where
  waits : x.slot ∈ s.oe.posted
  kind : orderKindOf (s.slot x.slot).kind = some x.kind
  step : stepOfByte (s.slot x.slot).step = some x.step

theorem startable_names {s : State} {earlier : List SlotId} {j : SlotId} {k : OrderKind} {st : StepId}
    (h : startable s earlier j = some (k, st)) :
    orderKindOf (s.slot j).kind = some k ∧ stepOfByte (s.slot j).step = some st := by
  unfold startable at h
  split at h
  · next kind step =>
    split at h
    · cases h
      exact ⟨kind, step⟩
    · cases h
  · cases h

theorem oldestStartable_names {s : State} {switching : Bool} {x : StartItem} {l : List SlotId} (earlier : List SlotId)
    (h : oldestStartable s switching earlier l = some x) :
    orderKindOf (s.slot x.slot).kind = some x.kind ∧ stepOfByte (s.slot x.slot).step = some x.step := by
  induction l generalizing earlier with
  | nil => cases h
  | cons i rest ih =>
    simp only [oldestStartable] at h
    split at h
    · next k st names =>
      split at h
      · cases h
        exact startable_names names
      · exact ih _ h
    · exact ih _ h

theorem found_of_oldest {s : State} {switching : Bool} {x : StartItem}
    (h : oldestStartable s switching [] s.oe.posted = some x) : Found x s :=
  ⟨(oldestStartable_some [] h).1, (oldestStartable_names [] h).1, (oldestStartable_names [] h).2⟩

theorem stepOfByte_val {b : Byte} {i : StepId} (h : stepOfByte b = some i) : b.toNat = i.val := by
  unfold stepOfByte at h
  split at h
  · cases h
    rfl
  · cases h

/-- The code of a kind (11.9.8). -/
def kindByte : OrderKind → Byte
  | .closeStep => 1
  | .openStep => 2
  | .hold => 3
  | .release => 4
  | .resetLockout => 5
  | .learnBaseline => 6
  | .retireStep => 7
  | .reinstateStep => 8

theorem eq_kindByte {b : Byte} {k : OrderKind} (h : orderKindOf b = some k) : b = kindByte k := by
  unfold orderKindOf at h
  split at h <;> cases h
  all_goals next code => exact BitVec.eq_of_toNat_eq code

/-! ### An order becomes EXECUTING (R166, R167) -/

section

variable {x : StartItem} {s t : State}

/-- An order has left the posted queue and is EXECUTING, its kind and its step as they were (R155, R166). -/
def Begun (j : SlotId) (s t : State) : Prop :=
  ∃ o, o.state = .executing ∧ (o.notBeforeTimer = none ∧ o.deadlineTimer = none) ∧ o.kind = (s.slot j).kind ∧
    o.step = (s.slot j).step ∧
    t.oe = { s.oe with posted := s.oe.posted.filter (· ≠ j), slots := put s.oe.slots j o, executing := some j }

theorem begun_beginExecuting (j : SlotId) (s : State) : Begun j s (beginExecuting j (leavePosted j s)) := by
  refine ⟨{ s.slot j with state := .executing, notBeforeTimer := none, deadlineTimer := none }, rfl, ⟨rfl, rfl⟩, rfl,
    rfl, ?_⟩
  simp [beginExecuting, leavePosted, State.modSlot, State.slot]

theorem Begun.poolOk {j : SlotId} (h : Begun j s t) (idle : s.oe.executing = none) (waits : j ∈ s.oe.posted)
    (pool : PoolOk s) : PoolOk t := by
  obtain ⟨o, executing, timers, -, -, oe⟩ := h
  have posted : (s.slot j).state = .posted := (pool.2.2 j).2.1.mp waits
  refine SlotMoved.poolOk (i := j) (o := o) ⟨by rw [oe], ?_, ?_, fun k => ?_, fun _ => timers⟩ pool <;> rw [oe]
  · exact poolOk_keepFree pool (by simp [posted]) (by simp [executing])
  · exact poolOk_leaves pool (by simp [executing])
  · split
    · next e => exact iff_of_true (e ▸ rfl) executing
    · next ne => exact iff_of_false (fun h => ne (Option.some.inj h).symm) (by simp [idle])

/-- The work that an order which has begun may bring: a learning, or an operation of the order engine, on its step
(R148, R167). -/
structure BeginsOn (x : StartItem) (s t : State) : Prop where
  learning : ∀ i, (t.unb i).learning ≠ none → (s.unb i).learning ≠ none ∨ i = x.step ∧ x.kind = .learnBaseline
  operation : ∀ i, OfOrder (t.lane i) → OfOrder (s.lane i) ∨ i = x.step ∧ x.kind.switching = true

theorem Begun.engineOk (h : Begun x.slot s t) (idle : s.oe.executing = none) (found : Found x s)
    (work : BeginsOn x s t) (ok : EngineOk s) : EngineOk t := by
  obtain ⟨o, -, -, kind, step, oe⟩ := h
  obtain ⟨unlearned, unworked⟩ := noWork_of_idle ok idle
  have own : t.slot x.slot = o := by rw [slot_of_put (congrArg OrderEngine.slots oe), if_pos rfl]
  have runs {kinds : List Byte} (named : (s.slot x.slot).kind ∈ kinds) : RunsFor kinds x.step t :=
    ⟨x.slot, by rw [oe], by rwa [own, kind], by rw [own, step, stepOfByte_val found.step]⟩
  have code := eq_kindByte found.kind
  refine (engineOk_iff t).mpr ⟨fun i stands => ?_, fun i stands => ?_⟩
  · obtain ⟨rfl, is⟩ := (work.learning i stands).resolve_left (not_not_intro (unlearned i))
    exact runs (by simp [code, is, kindByte])
  · obtain ⟨rfl, switching⟩ := (work.operation i stands).resolve_left (unworked i)
    refine runs ?_
    rw [code]
    cases is : x.kind <;> simp_all [OrderKind.switching, kindByte]

/-- An order begins on an IDLE engine. -/
theorem upholds_begun (h : Begun x.slot s t) (idle : s.oe.executing = none) (found : Found x s)
    (work : BeginsOn x s t) (grounds : GroundsKept s t) (arming : ArmingKept s t) : Upholds s t :=
  ⟨h.poolOk idle found.waits, fun _ => h.engineOk idle found work, grounds.directOk, grounds.armedOk arming⟩

/-! ### The right-free orders (R171 to R176) -/

theorem steady_runHold (i : StepId) (s : State) : Steady s (runHold i s) := steady_modStep (fun _ => rfl) fun _ => id

theorem steady_runRelease (i : StepId) (s : State) : Steady s (runRelease i s) :=
  steady_modStep (fun _ => rfl) fun _ => id

theorem steady_runResetLockout (i : StepId) (s : State) : Steady s (runResetLockout i s) := by
  have unlocked : Steady s (s.modStep i fun c => { c with lockout := none }) :=
    steady_modStep (fun _ => rfl) fun _ => id
  have cleared := unlocked.trans ((steady_takeDeparture i _).trans (steady_clearStages i _))
  have untripped (u : State) : Steady u (u.modUnb i fun x => { x with tripped := false }) :=
    steady_modUnb_beside (fun _ => rfl) (fun _ => rfl) fun _ => rfl
  unfold runResetLockout
  dsimp only
  split
  · exact (cleared.trans (steady_endCause _ _ _)).trans (untripped _)
  · exact cleared.trans (untripped _)

theorem steady_runRetire (i : StepId) (s : State) : Steady s (runRetire i s) :=
  .after (steady_watchClose i _) (steady_modStep (fun _ => rfl) fun _ _ => rfl)

/-- A step that is put back in service is not DIRECT-owned (R176). -/
theorem startCheck_reinstate_direct {i : StepId} (h : startCheck s .reinstateStep i = none) :
    (s.lines i).direct = false := by
  by_contra direct
  rw [Bool.not_eq_false] at direct
  by_cases absent : (s.stepRec i).state = .absent <;> cases retired : (s.stepRec i).retired <;>
    simp [startCheck, firstFailing, absent, retired, direct] at h

theorem steady_runReinstate {i : StepId} (controlled : (s.lines i).direct = false) : Steady s (runReinstate i s) :=
  .after (steady_startCooldown i _) (steady_modStep (fun _ => rfl) fun direct => by simp [controlled] at direct)

/-- A learning begins with its order (R148, R174). -/
theorem upholds_learn (idle : s.oe.executing = none) (found : Found x s) (learn : x.kind = .learnBaseline) :
    Upholds s (runLearn x.step (beginExecuting x.slot (leavePosted x.slot s))) := by
  have unb (i : StepId) : (runLearn x.step (beginExecuting x.slot (leavePosted x.slot s))).unb i =
      if i = x.step then { s.unb x.step with learning := some ⟨0, 0, 0⟩ } else s.unb i := State.modUnb_unb ..
  have same (i : StepId) :
      ((runLearn x.step (beginExecuting x.slot (leavePosted x.slot s))).unb i).armed = (s.unb i).armed ∧
      ((runLearn x.step (beginExecuting x.slot (leavePosted x.slot s))).unb i).departed = (s.unb i).departed := by
    rw [unb]
    split
    · next e => exact e ▸ ⟨rfl, rfl⟩
    · exact ⟨rfl, rfl⟩
  refine upholds_begun (begun_beginExecuting _ s) idle found ⟨fun i stands => ?_, fun _ => .inl⟩
    ⟨fun _ h => ⟨h, id⟩, id, Iff.rfl, fun i departed => .inl ((same i).2 ▸ departed)⟩ fun i may armed => ?_
  · by_cases e : i = x.step
    · exact .inr ⟨e, learn⟩
    · rw [unb, if_neg e] at stands
      exact .inl stands
  · exact (may ((same i).1 ▸ armed)).imp id fun departed => (same i).2.symm ▸ departed

/-- A right-free order that starts on an IDLE engine (R166). -/
theorem upholds_startRightFree (idle : s.oe.executing = none) (found : Found x s)
    (free : x.kind.switching = false) : Upholds s (startRightFree x s) := by
  have ended {u : State} (h : Steady (leavePosted x.slot s) u) (out : OrderOutcome) (r : Option Reason) :=
    upholds_leftEnded idle found.waits h out r
  unfold startRightFree
  dsimp only
  split
  · exact ended (.refl _) _ _
  · next passes =>
    unfold runRightFree
    split
    · exact ended (steady_runHold _ _) _ _
    · exact ended (steady_runRelease _ _) _ _
    · exact ended (steady_runResetLockout _ _) _ _
    · next learn => exact upholds_learn idle found learn
    · exact ended (steady_runRetire _ _) _ _
    · next reinstate =>
      rw [reinstate] at passes
      exact ended (steady_runReinstate (startCheck_reinstate_direct passes)) _ _
    · next is => simp [is, OrderKind.switching] at free
    · next is => simp [is, OrderKind.switching] at free

/-! ### The switching orders (R167, R169, R170) -/

theorem upholds_beginExecuting (idle : s.oe.executing = none) (found : Found x s) :
    Upholds s (beginExecuting x.slot (leavePosted x.slot s)) :=
  upholds_begun (begun_beginExecuting _ s) idle found ⟨fun _ => .inl, fun _ => .inl⟩
    ⟨fun _ h => ⟨h, id⟩, id, Iff.rfl, fun _ => .inl⟩ fun _ may => may

/-- An order that has begun on an IDLE engine ends before any work of its own. -/
theorem upholds_finishExecuting (idle : s.oe.executing = none) (h : Upholds s t) (work : NoNewWork s t)
    (out : OrderOutcome) (r : Option Reason) : Upholds s (finishExecuting out r t) := by
  obtain ⟨after, grounds, arming, -⟩ := Steady.of_duties (finishExecuting_beside out r t)
  have after : NoNewWork t (finishExecuting out r t) := ⟨after.learning, after.operation⟩
  have grounds : GroundsKept t (finishExecuting out r t) :=
    ⟨grounds.direct, grounds.permit, grounds.window, grounds.departed⟩
  refine ⟨fun pool => ?_, fun _ ok => ((after.after work).noWork (noWork_of_idle ok idle)).engineOk,
    fun ok => grounds.directOk (h.direct ok), fun ok => grounds.armedOk arming (h.armed ok)⟩
  rcases finishExecuting_orders out r t with same | done
  · exact (poolOk_congr same).mpr (h.pool pool)
  · exact done.poolOk (h.pool pool)

/-- An operation of the order engine comes onto its step's lane with its order (R167). -/
theorem upholds_beginsLane (idle : s.oe.executing = none) (found : Found x s) (switching : x.kind.switching = true)
    (f : Lane → Lane) : Upholds s ((beginExecuting x.slot (leavePosted x.slot s)).modLane x.step f) := by
  refine upholds_begun (begun_beginExecuting _ s) idle found ⟨fun _ => .inl, fun i stands => ?_⟩
    ⟨fun _ h => ⟨h, id⟩, id, Iff.rfl, fun _ => .inl⟩ fun _ may => may
  by_cases e : i = x.step
  · exact .inr ⟨e, switching⟩
  · rw [State.modLane_lane, if_neg e] at stands
    exact .inl stands

/-- An order's close goes on after the order has begun (R169). -/
theorem upholds_orderClose (idle : s.oe.executing = none) (found : Found x s) (close : x.kind.switching = true)
    (tm : Timing) : Upholds s (takeClose x.step .oe tm (beginExecuting x.slot (leavePosted x.slot s))) := by
  have begun := upholds_beginsLane idle found close fun l =>
    { l with op := some ⟨.close tm, .oe, .awaitingValid, true⟩ }
  generalize beginExecuting x.slot (leavePosted x.slot s) = b at *
  have taken : Upholds s (takenClose x.step .oe tm b) := begun.trans (.of_duties rfl)
  exact taken.trans (steady_takenClose ..).upholds

/-- An order's open goes on with its trip pulse, or ends at once where the step is not CLOSED (R85, R170). -/
theorem upholds_orderOpen (idle : s.oe.executing = none) (found : Found x s) (opens : x.kind.switching = true) :
    Upholds s (takeOpen x.step .oe (beginExecuting x.slot (leavePosted x.slot s))) := by
  have begun (f : Lane → Lane) := upholds_beginsLane idle found opens f
  have bare := upholds_beginExecuting idle found
  have work : NoNewWork s (beginExecuting x.slot (leavePosted x.slot s)) := ⟨fun _ => id, fun _ => id⟩
  generalize beginExecuting x.slot (leavePosted x.slot s) = b at *
  unfold takeOpen
  dsimp only
  split
  · have pulsed : Upholds s (trippedLane x.step ⟨.trip, .oe, .inMotion, true⟩ { b with arb.busy := .inOperation }) :=
      (begun (pulsedTrip b.cfg.yard ⟨.trip, .oe, .inMotion, true⟩)).trans (.of_duties rfl)
    exact pulsed.trans (steady_trippedLane ..).upholds
  · have busy : Upholds s { b with arb.busy := .inOperation } := bare.trans (.of_duties rfl)
    have ended := upholds_finishExecuting idle busy ⟨work.learning, work.operation⟩ .preempted (some .notClosed)
    exact ended.trans (.of_duties rfl)

theorem upholds_handOver (idle : s.oe.executing = none) (found : Found x s) (switching : x.kind.switching = true) :
    Upholds s (handOver x (leavePosted x.slot s)) := by
  unfold handOver
  dsimp only
  split
  · exact upholds_orderClose idle found switching _
  · exact upholds_orderOpen idle found switching

end

/-! ### The consequences of an event (R93, R166, R167) -/

/-- A property that no update of the arbiter, no start or refusal of an order found by an IDLE engine, no order handed
over by it and no work of voltage control ends is kept by the consequences of an event (log 13). -/
theorem settle_guarded (P : State → Prop) (arb : ∀ a s, P s → P { s with arb := a })
    (start : ∀ x s, s.oe.executing = none → oldestStartable s false [] s.oe.posted = some x → P s →
      P (startRightFree x s))
    (refuse : ∀ x r s, s.oe.executing = none → oldestStartable s true [] s.oe.posted = some x → P s →
      P (finishSlot x.slot .refused (some r) (leavePosted x.slot s)))
    (hand : ∀ x s, s.oe.executing = none → oldestStartable s true [] s.oe.posted = some x → P s →
      P (handOver x (leavePosted x.slot s)))
    (vc : ∀ s, P s → P (vcGranted s)) (s : State) (hs : P s) : P (settle s) := by
  have free (n : Nat) : ∀ s, P s → P (startFree n s) := by
    induction n with
    | zero => exact fun _ h => h
    | succ n ih =>
      intro s h
      simp only [startFree]
      split
      · exact h
      · next idle =>
        split
        · exact h
        · next found => exact ih _ (start _ _ (by simpa using idle) found h)
  have granted (n : Nat) : ∀ s, P s → P (oeGranted n s) := by
    induction n with
    | zero => exact fun _ h => h
    | succ n ih =>
      intro s h
      simp only [oeGranted]
      split
      · exact h
      · next idle =>
        split
        · exact h
        · next found =>
          split
          · exact ih _ (refuse _ _ _ (by simpa using idle) found h)
          · exact hand _ _ (by simpa using idle) found h
  have round (n : Nat) : ∀ s, P s → P (settleLoop n s) := by
    induction n with
    | zero => exact fun _ h => h
    | succ n ih =>
      intro s h
      have examined : P (reexamine s) := arb _ _ (free _ _ h)
      simp only [settleLoop]
      split
      · exact examined
      · next w _ =>
        refine ih _ ?_
        cases w with
        | vc => exact vc _ (arb _ _ examined)
        | oe => exact granted _ _ (arb _ _ examined)
  exact round _ s hs

theorem upholds_settle (s : State) : Upholds s (settle s) :=
  settle_guarded (Upholds s) (fun _ _ h => h.trans (.of_duties rfl))
    (fun _ _ idle found h => h.trans
      (upholds_startRightFree idle (found_of_oldest found) (oldestStartable_some [] found).2))
    (fun _ _ _ idle found h => h.trans (upholds_leftEnded idle (found_of_oldest found).waits (.refl _) _ _))
    (fun _ _ idle found h => h.trans
      (upholds_handOver idle (found_of_oldest found) (oldestStartable_some [] found).2))
    (fun u h => h.trans (steady_vcGranted u).upholds) s (.refl s)

end Sys2Proof.Proofs

namespace Sys2Proof.Proofs

open Sys2Proof.Machine Sys2Proof.Safety Sys2Proof.Laws

/-! ### The units' work is steady -/

theorem steady_alarmEdge (k : AlarmKind) (sub : Subject) (was now : Bool) (s : State) :
    Steady s (alarmEdge k sub was now s) := by
  unfold alarmEdge
  (repeat' split) <;> exact .of_duties rfl

/-! ### Voltage control (R100, R102) -/

theorem steady_vcDead (s : State) : Steady s (vcDead s) := by
  have cleared (u : State) : Steady u (raise .deadBusOpen .yard (clearBand u)) := .of_duties rfl
  unfold vcDead
  dsimp only
  split
  · split
    · split
      · exact .after (steady_openAll _) (.of_duties rfl)
      · exact .after (cleared _) (.after (steady_openAll _) (.of_duties rfl))
    · exact .of_duties rfl
  · rw [clearDead_eq]
    exact .of_duties rfl

theorem steady_vcFast (s : State) : Steady s (vcFast s) := by
  unfold vcFast
  dsimp only
  split
  · split <;> exact .of_duties rfl
  · rw [clearFastCondition_eq]
    exact .of_duties rfl

theorem steady_vcDecide (s : State) : Steady s (vcDecide (vcBand s)) := by
  have banded : Steady s (vcBand s) := by
    unfold vcBand
    dsimp only
    (repeat' split) <;> exact .of_duties rfl
  refine .after ?_ banded
  unfold vcDecide vcDecided
  (repeat' split) <;> exact .of_duties rfl

theorem upholds_vcGood (s : State) : Upholds s (vcGood s) := by
  have inAuto {f : State → State} (hf : ∀ u, Steady u (f u)) (u : State) :
      Upholds u (if u.vc.auto then settle (f u) else u) := by
    split
    · exact (hf u).upholds.trans (upholds_settle _)
    · exact .refl u
  have withdrawn (u : State) : Steady u (vcWithdrawCheck u) := by
    unfold vcWithdrawCheck
    split
    · exact steady_vcWithdrawClose u
    · exact .refl u
  have formed : Steady s (vcForm s) := .of_duties rfl
  have dead := (formed.trans (steady_vcDead _)).upholds
  have decided := dead.trans ((inAuto steady_vcFast _).trans (inAuto steady_vcDecide _))
  exact decided.trans ((withdrawn _).upholds.trans (upholds_settle _))

theorem steady_vcFailed (s : State) : Steady s (vcFailed s) := by
  by_cases hm : s.rx.meas = .holding
  · rw [vcFailed_holding hm]
    exact .of_duties rfl
  · rw [vcFailed_clears hm]
    exact .of_duties rfl

/-- A consumer beside the unbalance unit has evaluated the window end in hand (R11). -/
theorem steady_consumed {f : InHand → InHand} (good : ∀ h, (f h).good = h.good) (ub : ∀ h, (f h).ub = h.ub)
    (s : State) : Steady s (consumed f s) := by
  refine .of_parts rfl rfl rfl rfl rfl rfl (and_congr_right fun _ => ?_)
  unfold consumed
  dsimp only
  split
  · next none_left => rw [none_left]
  · next h waits =>
    rw [waits, ← Bool.eq_iff_iff]
    cases due : h.ub <;> split <;> simp_all

theorem upholds_vcEvaluate (s : State) : Upholds s (vcEvaluate s) := by
  unfold vcEvaluate
  split
  · exact .refl s
  · have taken := (steady_consumed (f := fun h => { h with vc := false }) (fun _ => rfl) (fun _ => rfl) s).upholds
    dsimp only
    split
    · exact taken.trans (upholds_vcGood _)
    · exact taken.trans ((steady_vcFailed _).upholds.trans (upholds_settle _))

theorem upholds_setMode (auto : Bool) (s : State) : Upholds s (setMode auto s) := by
  have rested : Steady s (enterManual s) := by
    have cleared : Steady s (withdrawVc (clearFastCondition
        { clearBand s with vc.auto := false, vc.fastAcc := 0, vc.fastDue := false })) := by
      rw [clearFastCondition_eq]
      exact .of_duties rfl
    exact (cleared.trans (steady_vcWithdrawClose _)).trans (.of_duties rfl)
  unfold setMode
  split
  · exact .refl s
  · split
    · exact .of_duties rfl
    · exact rested.upholds.trans (upholds_settle _)

/-! ### The harmonic supervisor (R120, R131) -/

theorem steady_hsStageV (s : State) : Steady s (hsStageV s) := by
  have staged (n : Nat) (active : Bool) : Steady s { s with hs.vCount := n, hs.vActive := active } := .of_duties rfl
  have told (n : Nat) (was active : Bool) := (staged n active).trans (steady_alarmEdge .harmAlarmV .yard was active _)
  unfold hsStageV
  dsimp only
  split
  · exact (told _ _ _).trans (steady_vcWithdrawClose _)
  · exact told _ _ _

theorem steady_hsStageI (s : State) : Steady s (hsStageI s) := by
  have staged (n : Nat) (active : Bool) : Steady s { s with hs.iCount := n, hs.iActive := active } := .of_duties rfl
  exact (staged _ _).trans (steady_alarmEdge .harmAlarmI .yard _ _ _)

theorem steady_markSuspect (i : StepId) (s : State) : Steady s (markSuspect i s).1 := by
  have marked : Steady s (s.modStep i fun c => { c with suspect := true }) := steady_modStep (fun _ => rfl) fun _ => id
  unfold markSuspect
  dsimp only
  split
  · exact marked.trans (.of_duties rfl)
  · exact .refl s

theorem steady_hsWatch (s : State) : Steady s (hsWatch s) := by
  have ended : Steady s { s with hs.watch := none } := .of_duties rfl
  have marked (i : StepId) := ended.trans (steady_markSuspect i _)
  unfold hsWatch
  split
  · exact .refl s
  · split
    · dsimp only
      split
      · exact (marked _).trans (steady_raise _ _ _)
      · exact marked _
    · exact .refl s

theorem steady_shed (i : StepId) (s : State) : Steady s (shed i s) := by
  have opened := (steady_armHoldoff i s).trans (steady_protectiveOpen i _)
  exact opened.trans (.of_duties rfl)

theorem steady_hsTrip (s : State) : Steady s (hsTrip s) := by
  have counted (n : Nat) : Steady s { s with hs.tripCount := n } := .of_duties rfl
  unfold hsTrip
  split
  · exact .refl s
  · dsimp only
    split
    · split
      · split
        · exact counted _
        · exact (counted _).trans (steady_shed _ _)
      · exact counted _
    · rw [endShedding_eq]
      exact .of_duties rfl

theorem steady_hsFailed (s : State) : Steady s (hsFailed s) := by
  by_cases hm : s.rx.meas = .holding
  · rw [hsFailed_holding hm]
    exact .refl s
  · rw [hsFailed_clears hm]
    exact .of_duties rfl

theorem upholds_hsEvaluate (s : State) : Upholds s (hsEvaluate s) := by
  unfold hsEvaluate
  split
  · exact .refl s
  · have taken := steady_consumed (f := fun h => { h with hs := false }) (fun _ => rfl) (fun _ => rfl) s
    have formed (u : State) : Steady u (hsForm u) := .of_duties rfl
    refine .trans ?_ (upholds_settle _)
    split
    · exact (taken.trans ((formed _).trans ((steady_hsStageV _).trans ((steady_hsStageI _).trans
        ((steady_hsWatch _).trans (steady_hsTrip _)))))).upholds
    · exact (taken.trans (steady_hsFailed _)).upholds

/-! ### The unbalance unit (R139, R146) -/

theorem steady_armStep (i : StepId) (s : State) : Steady s (armStep i s) := by
  unfold armStep
  split
  · next may => exact steady_modUnb id .inl fun _ _ => may.1
  · exact .refl s

theorem steady_ubStages (i : StepId) (s : State) : Steady s (ubStages i s).1 := by
  have alarmed (u : Nat) (t : State) : Steady t (ubAlarm i u t) :=
    .after (steady_alarmEdge _ _ _ _ _) (steady_modUnb_beside (fun _ => rfl) (fun _ => rfl) fun _ => rfl)
  have tripped (t : State) : Steady t (ubTrip i t) :=
    (steady_clearStages i t).trans (.after (steady_raise _ _ _)
      (steady_modUnb_beside (fun _ => rfl) (fun _ => rfl) fun _ => rfl))
  have timed (u : Nat) (c : StepSettings) (t : State) : Steady t (t.modUnb i (ubTripStage u c)) :=
    steady_modUnb_beside (fun x => (ubTripStage_kept u c x).1.learning) (fun x => (ubTripStage_kept u c x).1.armed)
      fun x => (ubTripStage_kept u c x).1.departed
  unfold ubStages
  dsimp only
  split
  · have formed : Steady s (s.modUnb i fun x => { x with lastU := stepU s i }) :=
      steady_modUnb_beside (fun _ => rfl) (fun _ => rfl) fun _ => rfl
    split
    · exact formed
    · have ready := formed.trans ((alarmed (stepU s i) _).trans (timed (stepU s i) (s.stepCfg i) _))
      split
      · exact ready.trans (tripped _)
      · exact ready
  · exact .refl s

theorem steady_completeLearning {i : StepId} {s : State} {l : Learning} (stood : (s.unb i).learning = some l)
    (sumRe sumIm : Int) : Steady s (completeLearning i sumRe sumIm s) := by
  rw [completeLearning_eq]
  have stored : Steady s (storedBaseline i sumRe sumIm s) := .of_duties rfl
  have cleared := stored.trans (steady_clearStages i _)
  have dropped (u : State) : Steady u (u.modUnb i fun x => { x with learning := none }) :=
    steady_modUnb (fun h => absurd rfl h) .inl fun armed may => may armed
  refine (cleared.trans (dropped _)).finish (.inl ⟨i, by simp [stood], ?_⟩) _ _
  rw [State.modUnb_unb_self]

theorem steady_learnWindow (i : StepId) (s : State) : Steady s (learnWindow i s) := by
  unfold learnWindow
  split
  · exact .refl s
  · next l stood =>
    dsimp only
    split
    · exact steady_interruptLearning i s
    · split
      · exact steady_completeLearning stood _ _
      · exact steady_modUnb (fun _ => by simp [stood]) .inl fun armed may => may armed

theorem steady_ubTripOut (i : StepId) (s : State) : Steady s (ubTripOut i s) :=
  (steady_addLockout i _ s).trans (steady_protectiveOpen i _)

theorem steady_windowTaken (i : StepId) (s : State) : Steady s (windowTaken i s) :=
  (steady_armStep i s).trans ((steady_ubStages i _).trans ((steady_learnWindow i _).trans (steady_takeDeparture i _)))

theorem steady_ubStep (i : StepId) (s : State) : Steady s (ubStep i s) := by
  rw [ubStep_eq]
  split
  · exact (steady_windowTaken i s).trans (steady_ubTripOut i _)
  · exact steady_windowTaken i s

theorem steady_ubFailedStep (i : StepId) (s : State) : Steady s (ubFailedStep i s) := by
  have interrupted := steady_interruptLearning i s
  by_cases hm : s.rx.meas = .holding
  · rw [ubFailedStep_holding hm]
    exact interrupted
  · rw [ubFailedStep_clears hm]
    have counted (u : State) : Steady u (u.modUnb i fun u => { u with armCount := 0 }) :=
      steady_modUnb_beside (fun _ => rfl) (fun _ => rfl) fun _ => rfl
    have rearmed : Steady s (if (s.unb i).armed then interruptLearning i s
        else (interruptLearning i s).modUnb i fun u => { u with armCount := 0 }) := by
      split
      · exact interrupted
      · exact interrupted.trans (counted _)
    dsimp only
    split
    · exact rearmed
    · exact rearmed.trans (steady_clearStages i _)

/-! ### The unbalance unit's evaluation of a window end (R138, R139, log 37) -/

/-- With no window end waiting, the evaluation of a step leaves it no departure to take, and notes none (R138). -/
theorem ubStep_none_departed {i j : StepId} {s : State} (alone : ¬WindowAtUnit s)
    (h : j = i ∨ (s.unb j).departed = false) : ((ubStep i s).unb j).departed = false := by
  have still {u v : State} (k : Steady u v) (lone : ¬WindowAtUnit u) (none_noted : (u.unb j).departed = false) :
      (v.unb j).departed = false := by
    by_contra noted
    rcases k.grounds.departed j (by simpa using noted) with was | waits
    · simp [none_noted] at was
    · exact lone (k.grounds.window.mp waits)
  have taken : ((windowTaken i s).unb j).departed = false := by
    by_cases e : j = i
    · subst e
      unfold windowTaken
      generalize learnWindow j (ubStages j (armStep j s)).1 = w
      cases departed : (w.unb j).departed with
      | false => rw [takeDeparture_none departed, departed]
      | true => exact (takeDeparture_clears departed).2.2
    · exact still (steady_windowTaken i s) alone (h.resolve_left e)
  rw [ubStep_eq]
  split
  · exact still (steady_ubTripOut i _) (fun waits => alone ((steady_windowTaken i s).grounds.window.mp waits)) taken
  · exact taken

/-- After the evaluation of every step no departure is left (R138). -/
theorem ubSteps_departed {j : StepId} (l : List StepId) {s : State} (alone : ¬WindowAtUnit s)
    (h : j ∈ l ∨ (s.unb j).departed = false) : ((forEach ubStep l s).unb j).departed = false := by
  induction l generalizing s with
  | nil => exact h.resolve_left List.not_mem_nil
  | cons i rest ih =>
    refine ih (fun waits => alone ((steady_ubStep i s).grounds.window.mp waits)) ?_
    by_cases later : j ∈ rest
    · exact .inl later
    · refine .inr (ubStep_none_departed alone (h.imp_left fun here => ?_))
      exact (List.mem_cons.mp here).resolve_right later

/-- The unit has the window end in hand evaluated (R11). -/
theorem consumed_alone (s : State) : ¬WindowAtUnit (consumed (fun h => { h with ub := false }) s) := by
  rintro ⟨-, waits⟩
  unfold consumed at waits
  dsimp only at waits
  split at waits
  · cases waits
  · split at waits <;> simp at waits

/-- A state with the same figures of arming in which no departure stands and no window end waits. -/
theorem armedOk_of_none {s t : State} (arming : ArmingKept s t) (none_left : ∀ i, (t.unb i).departed = false)
    (ok : ∀ i, (s.unb i).armed = true → MayBeArmed i s) : ArmedOk t := fun i =>
  ⟨arming i (ok i), fun departed => by simp [none_left i] at departed⟩

theorem upholds_ubEvaluate (s : State) : Upholds s (ubEvaluate s) := by
  unfold ubEvaluate
  split
  · exact .refl s
  · next good due =>
    refine .trans ?_ (upholds_settle _)
    have alone := consumed_alone s
    have same : (consumed (fun h => { h with ub := false }) s).unb = s.unb := rfl
    have work : Steady (consumed (fun h => { h with ub := false }) s)
        (forEach (if good then ubStep else ubFailedStep) allSteps (consumed (fun h => { h with ub := false }) s)) := by
      cases good with
      | true => exact .forEach steady_ubStep _ _
      | false => exact .forEach steady_ubFailedStep _ _
    refine ⟨fun ok => work.upholds.pool ok, fun pool ok => work.upholds.engine pool ok,
      fun ok => work.upholds.direct ok, fun ok => armedOk_of_none work.arming (fun i => ?_) fun i => (ok i).1⟩
    cases good with
    | true => exact ubSteps_departed allSteps alone (.inl (mem_allSteps i))
    | false =>
      by_contra noted
      rcases work.grounds.departed i (by simpa using noted) with was | waits
      · have : WindowAtUnit s := (ok i).2 was
        rw [← dueFor_ub_good, due] at this
        cases this
      · exact alone (work.grounds.window.mp waits)

end Sys2Proof.Proofs

namespace Sys2Proof.Proofs

open Sys2Proof.Machine Sys2Proof.Safety Sys2Proof.Laws

/-! ### The sample link receiver upholds the promises -/

theorem steady_resolveFaulted {i : StepId} {c : FaultCause} {s : State} (h : (s.stepRec i).state = .faulted c)
    (p : Position) : Steady s (resolveFaulted i p s) := by
  unfold resolveFaulted
  split
  · exact steady_moveStep i _ s
  · exact steady_moveStep i _ s
  · exact steady_faultInvalid h

theorem steady_uncommandedOpen (i : StepId) (s : State) : Steady s (uncommandedOpen i s) := by
  unfold uncommandedOpen
  dsimp only
  split
  · exact steady_moveStep i _ s
  · exact (steady_moveStep i _ s).trans (steady_raise _ _ _)

theorem steady_uncommandedClose (i : StepId) (s : State) : Steady s (uncommandedClose i s) := by
  have raised (cut : Bool) (u : State) : Steady u (raiseCut .uncommandedClose (.step i) cut u) := .of_duties rfl
  unfold uncommandedClose
  dsimp only
  split
  · exact steady_moveStep i _ s
  · exact (steady_moveStep i _ s).trans (raised _ _)

/-- A delivery moves the step, finds it FAULTED or leaves it as it stands (R40). -/
theorem steady_applyDelivery (d : Delivery) (s : State) : Steady s (applyDelivery d s) := by
  have shown : Steady s (s.modStep d.1 fun c => { c with indicated := some d.2 }) :=
    steady_modStep (fun _ => rfl) fun _ => id
  unfold applyDelivery
  dsimp only
  split
  case h_1 | h_5 | h_9 => exact shown
  case h_2 | h_3 | h_4 | h_7 | h_10 => exact shown.trans (steady_moveStep _ _ _)
  case h_6 => exact shown.trans (steady_uncommandedClose _ _)
  case h_8 => exact shown.trans (steady_uncommandedOpen _ _)
  case h_11 | h_12 => exact shown.trans (steady_judgeDelivery _ _ _)
  case h_13 faulted => exact shown.trans (steady_resolveFaulted faulted _)

theorem upholds_deliver (d : Delivery) (s : State) : Upholds s (deliver d s) :=
  (steady_applyDelivery d s).upholds.trans (upholds_settle _)

theorem upholds_feedFrame (s : State) : Upholds s (feedFrame s) := by
  have returned (i : StepId) (u : State) : Upholds u (feedReturnStep i u) := by
    rw [feedReturnStep_eq]
    split
    · exact upholds_deliver _ u
    · exact .refl u
  have restarted : Upholds s { s with rx := { s.rx with feedTimer := some 20, feedLive := true } } := .of_duties rfl
  rw [feedFrame_eq]
  dsimp only
  split
  · exact restarted
  · exact restarted.trans (.forEach returned _ _)

theorem upholds_takePositions (w : Half) (s : State) : Upholds s (takePositions w s) := by
  have debounced : Upholds s (debounceAll w s) := .of_duties rfl
  exact debounced.trans (.forEach upholds_deliver _ _)

theorem upholds_frameEnd (f : SampleFrame) (s : State) : Upholds s (frameEnd f s) := by
  cases ha : s.rx.assembly with
  | none =>
    simp only [frameEnd, ha]
    exact .of_duties rfl
  | some a =>
    have formed : Upholds s (built f a s) := by
      rw [built, windowFrame_frame]
      exact .of_duties rfl
    cases hv : isValid (frameClass f a) with
    | false =>
      rw [frameEnd_invalid ha hv]
      exact formed
    | true =>
      rw [frameEnd_valid ha hv]
      exact formed.trans ((upholds_feedFrame _).trans (upholds_takePositions _ _))

theorem upholds_firstSync (s : State) : Upholds s (firstSync s) := by
  unfold firstSync
  split <;> exact .of_duties rfl

theorem upholds_scheduledPulse (s : State) : Upholds s (scheduledPulse s) := by
  unfold scheduledPulse
  split
  · exact .refl s
  · split
    · split
      · exact .refl s
      · next stood =>
        refine .trans (Steady.upholds ?_) (upholds_settle _)
        split
        · exact steady_tryClosePulse _ s
        · exact steady_loseSchedule stood
    · exact .refl s

theorem upholds_feedExpiry (s : State) : Upholds s (feedExpiry s) := by
  unfold feedExpiry
  dsimp only
  (repeat' split) <;> exact .of_duties rfl

/-- Where no window end is in hand none waits at the unbalance unit. -/
theorem not_windowAtUnit_of_none {s : State} (h : s.rx.inHand = none) : ¬WindowAtUnit s := fun ⟨_, waits⟩ => by
  simp [h] at waits

/-- A good window end is in hand, but not published (R11, R21, log 19). -/
theorem steady_handGood {s : State} (alone : s.rx.inHand = none) (frames : List Samples) (n : Word) (w : BitVec 5)
    (rest : List WindowEnd) : Steady s (handGood frames n w { s with rx.ends := rest }) := by
  have heard : Steady s (heardGood rest s) := by
    rw [heardGood_frame]
    exact .of_duties rfl
  have noticed := heard.trans (steady_measNotice n w _)
  have window := fun waits => not_windowAtUnit_of_none alone (noticed.grounds.window.mp waits)
  rw [handGood_eq]
  exact noticed.trans (.of_parts rfl rfl rfl rfl rfl rfl (iff_of_false (fun waits => nomatch waits.1) window))

/-- A failed window end is in hand (R11, R22). -/
theorem steady_handFailed {s : State} (alone : s.rx.inHand = none) (rest : List WindowEnd) :
    Steady s (handFailed { s with rx.ends := rest }) := by
  have heard : Steady s (heardFailed rest s) := by
    rw [heardFailed_frame]
    exact .of_duties rfl
  have noticed := heard.trans (steady_measNotice (heardFailed rest s).rx.frameNumber (heardFailed rest s).rx.wave _)
  have window := fun waits => not_windowAtUnit_of_none alone (noticed.grounds.window.mp waits)
  rw [handFailed_eq]
  exact noticed.trans (.of_parts rfl rfl rfl rfl rfl rfl (iff_of_false (fun waits => nomatch waits.2) window))

theorem upholds_takeWindowEnd (s : State) : Upholds s (takeWindowEnd s) := by
  unfold takeWindowEnd
  split
  · exact .refl s
  · next free =>
    have alone : s.rx.inHand = none := by
      simp only [Bool.or_eq_true, not_or] at free
      exact Option.not_isSome_iff_eq_none.mp free.1
    split
    · exact .refl s
    · exact (steady_handGood alone _ _ _ _).upholds.trans (upholds_settle _)
    · exact (steady_handFailed alone _).upholds.trans (upholds_settle _)

/-- The alarm set is no figure of the promises. -/
theorem steady_of_besideAlarms {s t : State} (h : besideAlarms t = besideAlarms s) : Steady s t :=
  .of_duties (congrArg duties h : duties (besideAlarms t) = duties (besideAlarms s))

/-- A publication brings the window end in hand to the unbalance unit, and changes nothing else of the promises (R21,
log 37). -/
theorem upholds_publish (s : State) : Upholds s (publish s) := by
  cases hw : s.mu.computing with
  | none =>
    simp only [publish, hw]
    exact .refl s
  | some w =>
    have run : publish s = forEach (clipNotice s.mu.entries) allChannels (published w s) := by
      simp only [publish, hw, published]
    have noticed : Steady (published w s) (publish s) := by
      rw [run]
      exact steady_of_besideAlarms (clipNotices_beside _ _ _)
    have replaced : Upholds s (published w s) := by
      refine ⟨id, fun _ => id, id, fun ok i => ⟨(ok i).1, fun departed => ?_⟩⟩
      obtain ⟨published, -⟩ : WindowAtUnit s := (ok i).2 departed
      rw [hw] at published
      cases published
    exact replaced.trans noticed.upholds

/-! ### Expiries (R65, R72, R80, R83, R87, R92, R164) -/

theorem upholds_settle_if {p : Prop} [Decidable p] {s t : State} (h : p → Upholds s t) :
    Upholds s (if p then settle t else s) := by
  split
  · next holds => exact (h holds).trans (upholds_settle _)
  · exact .refl s

theorem upholds_cooldownExpiry (i : StepId) (s : State) : Upholds s (cooldownExpiry i s) :=
  upholds_settle_if fun _ => (steady_stopCooldown i s).upholds

theorem upholds_holdoffExpiry (i : StepId) (s : State) : Upholds s (holdoffExpiry i s) :=
  upholds_settle_if fun _ => (steady_stopHoldoff i s).upholds

theorem upholds_closeConfirmExpiry (i : StepId) (s : State) : Upholds s (closeConfirmExpiry i s) := by
  unfold closeConfirmExpiry
  split
  · next stood _ =>
    split
    · refine .trans (Steady.upholds ?_) (upholds_settle _)
      split
      · exact steady_closeFailure stood
      · exact steady_closeNoIndication stood
    · exact .refl s
  · exact .refl s

theorem upholds_openConfirmExpiry (i : StepId) (s : State) : Upholds s (openConfirmExpiry i s) := by
  unfold openConfirmExpiry
  split
  · next stood _ =>
    split
    · exact (steady_openFailure stood).upholds.trans (upholds_settle _)
    · exact .refl s
  · exact .refl s

theorem upholds_syncWaitExpiry (s : State) : Upholds s (syncWaitExpiry s) := by
  have ended (u : State) : Steady u (endAwaiting u) := by
    unfold endAwaiting
    split
    · exact .refl u
    · split
      · exact steady_abandonClose _ _ _ u
      · exact .refl u
  have stopped : Steady s { s with seq.syncWait := some 0 } := .of_duties rfl
  unfold syncWaitExpiry
  split
  · exact (stopped.trans (ended _)).upholds.trans (upholds_settle _)
  · exact .refl s

theorem upholds_settleExpiry (s : State) : Upholds s (settleExpiry s) := by
  have freed : Upholds s (freeRight s) := .of_duties rfl
  unfold settleExpiry
  split
  · exact freed.trans (upholds_settle _)
  · exact .refl s

/-! ### A slot whose order is not EXECUTING takes another record (R155 to R164) -/

/-- A slot that is not EXECUTING may take a record, with queues that follow it (R155, R164, R166). -/
structure QueuesFollow (i : SlotId) (o : Slot) (free posted : List SlotId) (s : State) : Prop where
  was : (s.slot i).state ≠ .executing
  is : o.state ≠ .executing
  free : free.Nodup ∧ ∀ k, k ∈ free ↔ if k = i then o.state = .free else k ∈ s.oe.freeQueue
  posted : posted.Nodup ∧ ∀ k, k ∈ posted ↔ if k = i then o.state = .posted else k ∈ s.oe.posted
  timers : o.state ≠ .posted → o.notBeforeTimer = none ∧ o.deadlineTimer = none

/-- A slot that is not EXECUTING takes another record, the queues following it. -/
theorem upholds_editSlot (i : SlotId) (f : Slot → Slot) (free posted : List SlotId) (s : State)
    (h : PoolOk s → QueuesFollow i (f (s.slot i)) free posted s) :
    Upholds s (({ s with oe.freeQueue := free, oe.posted := posted } : State).modSlot i f) := by
  refine upholds_of_pool rfl fun pool => ?_
  obtain ⟨was, is, queued, waiting, timers⟩ := h pool
  have other : s.oe.executing ≠ some i := fun runs => was ((pool.2.2 i).2.2.1.mp runs)
  have running := poolOk_keepRunning pool was is
  have moved : SlotMoved i (f (s.slot i)) s
      (({ s with oe.freeQueue := free, oe.posted := posted } : State).modSlot i f) :=
    ⟨rfl, queued, waiting, running, timers⟩
  exact ⟨moved.poolOk pool, sameRunning_of_put rfl rfl other⟩

/-- A timer runs on a POSTED slot only (R164). -/
theorem posted_of_timer {i : SlotId} {s : State} (pool : PoolOk s)
    (runs : (s.slot i).notBeforeTimer.isSome = true ∨ (s.slot i).deadlineTimer.isSome = true) :
    (s.slot i).state = .posted := by
  by_contra other
  obtain ⟨notBefore, deadline⟩ := (pool.2.2 i).2.2.2 other
  simp [notBefore, deadline] at runs

/-- A change of a POSTED slot beside its state (R164). -/
theorem upholds_modPosted {i : SlotId} {f : Slot → Slot} {s : State} (state : ∀ o, (f o).state = o.state)
    (posted : PoolOk s → (s.slot i).state = .posted) : Upholds s (s.modSlot i f) := by
  refine upholds_editSlot i f s.oe.freeQueue s.oe.posted s fun pool => ?_
  have was := posted pool
  have is : (f (s.slot i)).state = .posted := (state _).trans was
  refine ⟨by simp [was], by simp [is], poolOk_keepFree pool (by simp [was]) (by simp [is]), ⟨pool.2.1, fun k => ?_⟩,
    fun other => absurd is other⟩
  split
  · next e => exact iff_of_true (e ▸ (pool.2.2 i).2.1.mpr was) is
  · exact Iff.rfl

theorem upholds_notBeforeElapsed (i : SlotId) (s : State) : Upholds s (notBeforeElapsed i s) :=
  upholds_settle_if fun runs => upholds_modPosted (fun _ => rfl) fun pool => posted_of_timer pool (.inl runs)

/-- A POSTED order ends before it has started (R160, R164). -/
theorem upholds_endPosted {i : SlotId} {s : State} (posted : PoolOk s → (s.slot i).state = .posted)
    (out : OrderOutcome) (r : Option Reason) : Upholds s (finishSlot i out r (leavePosted i s)) :=
  upholds_of_pool rfl fun pool => (leftEnded_of_work rfl out r).pool (posted pool) pool

theorem upholds_deadlineExpiry (i : SlotId) (s : State) : Upholds s (deadlineExpiry i s) :=
  upholds_settle_if fun runs => upholds_endPosted (fun pool => posted_of_timer pool (.inr runs)) _ _

/-! ### The yard inputs (R180 to R182) -/

theorem steady_returnDirect (i : StepId) (s : State) : Steady s (returnDirect i s) := by
  unfold returnDirect
  split
  · exact steady_modLines fun h => nomatch h
  · exact .refl s

theorem steady_returnAll (s : State) : Steady s (returnAll s) := .forEach steady_returnDirect _ s

/-- Permit loss leaves no step DIRECT-owned (R182). -/
theorem permitLoss_controlled (s : State) (i : StepId) : ((permitLoss s).lines i).direct = false := by
  rw [(permitLoss_spec s).2.1]
  split
  · rfl
  · next controlled => exact Bool.eq_false_iff.mpr controlled

theorem steady_permitLoss (s : State) : Steady s (permitLoss s) := by
  unfold permitLoss
  split
  · exact (steady_returnAll s).trans (steady_raise _ _ _)
  · exact .refl s

theorem steady_setInput {n : InputLine} {f : InputFilter} {s : State}
    (permit : n = .inp2 → f.level = (s.input n).level) : Steady s (s.setInput n f) := by
  cases n with
  | inp0 => exact .of_duties rfl
  | inp1 => exact .of_duties rfl
  | inp2 => exact .of_parts rfl rfl rfl rfl rfl (permit rfl) Iff.rfl

/-- MAINT_PERMIT becomes active (R182). -/
theorem steady_permitGiven (s : State) : Steady s (s.setInput .inp2 (InputFilter.settled true)) :=
  ⟨⟨fun _ => id, fun _ => id⟩, ⟨fun _ h => ⟨h, id⟩, fun _ => rfl, Iff.rfl, fun _ => .inl⟩, fun _ may => may, .inl rfl⟩

/-- MAINT_PERMIT is lost: every DIRECT-owned step is returned with it (R182). -/
theorem upholds_permitLost (s : State) : Upholds s (permitLoss (s.setInput .inp2 (InputFilter.settled false))) := by
  have lost := (steady_permitLoss (s.setInput .inp2 (InputFilter.settled false))).upholds
  exact ⟨fun ok => lost.pool ok, fun pool ok => lost.engine pool ok,
    fun _ i owned => by simp [permitLoss_controlled] at owned, fun ok => lost.armed ok⟩

theorem upholds_inhibitChanged (s : State) : Upholds s (inhibitChanged s) :=
  (Steady.forEach steady_watchClose allSteps s).upholds.trans (upholds_settle _)

theorem upholds_emergencyEdge (s : State) : Upholds s (emergencyEdge s) :=
  ((steady_returnAll s).trans ((steady_openAll _).trans (steady_raise _ _ _))).upholds.trans (upholds_settle _)

theorem upholds_levelChange (n : InputLine) (level : Bool) (s : State) : Upholds s (levelChange n level s) := by
  unfold levelChange
  split
  · exact .refl s
  · have sampled (f : InputFilter) (h : n ≠ .inp2) : Upholds s (s.setInput n f) :=
      (steady_setInput fun e => absurd e h).upholds
    unfold levelEffect
    split
    · exact (sampled _ nofun).trans (upholds_inhibitChanged _)
    · exact (sampled _ nofun).trans (upholds_emergencyEdge _)
    · exact (sampled _ nofun).trans (steady_endCause _ _ _).upholds
    · exact (steady_permitGiven s).upholds
    · exact upholds_permitLost s

end Sys2Proof.Proofs

namespace Sys2Proof.Proofs

open Sys2Proof.Machine Sys2Proof.Safety Sys2Proof.Laws

/-! ### Requests uphold the promises -/

theorem upholds_takeRequest {work : Handler} (hw : ∀ s, Upholds s (work s).1) (code tag : Byte) (s : State) :
    Upholds s (takeRequest code tag work s) := by
  unfold takeRequest
  split
  · exact .of_duties rfl
  · split
    · have consumed : Upholds s (consume s) := .of_duties rfl
      exact (consumed.trans (hw _)).trans (.of_duties rfl)
    · exact .of_duties rfl

/-- A request that gives an answer, and changes at most the alarm set and the free draws. -/
def OnlyAnswers (work : Handler) : Prop :=
  ∀ s, ∃ draws alarms, (work s).1 = { s with freeDraws := draws, link.alarms := alarms }

theorem OnlyAnswers.upholds {work : Handler} (h : OnlyAnswers work) (s : State) : Upholds s (work s).1 := by
  obtain ⟨draws, alarms, eq⟩ := h s
  rw [eq]
  exact .of_duties rfl

theorem answer_only (st : Status) (d : List Byte) : OnlyAnswers (answer st d) := fun s =>
  ⟨s.freeDraws, s.link.alarms, rfl⟩

theorem refuseOpen_only (st : Status) (echo : List Byte) (n : Nat) : OnlyAnswers (refuseOpen st echo n) := fun s =>
  ⟨s.freeDraws + 1, s.link.alarms, rfl⟩

theorem readStep_only (step page : Byte) : OnlyAnswers (readStep step page) := fun s => by
  unfold readStep
  (repeat' split) <;> exact ⟨_, _, rfl⟩

theorem readChannel_only (channel page : Byte) : OnlyAnswers (readChannel channel page) := fun s => by
  unfold readChannel
  (repeat' split) <;> exact ⟨_, _, rfl⟩

theorem readYard_only (page : Byte) : OnlyAnswers (readYard page) := fun s => by
  unfold readYard
  (repeat' split) <;> exact ⟨_, _, rfl⟩

theorem readSetting_only (ident : Byte) : OnlyAnswers (readSetting ident) := fun s => by
  unfold readSetting
  split <;> exact ⟨_, _, rfl⟩

theorem readStepSetting_only (step ident : Byte) : OnlyAnswers (readStepSetting step ident) := fun s => by
  unfold readStepSetting
  split <;> exact ⟨_, _, rfl⟩

theorem readAlarm_only (index : Byte) : OnlyAnswers (readAlarm index) := fun s => by
  unfold readAlarm
  split <;> exact ⟨_, _, rfl⟩

theorem ackAlarm_only (kind subject : Byte) : OnlyAnswers (ackAlarm kind subject) := fun s => by
  unfold ackAlarm
  (repeat' split) <;> exact ⟨_, _, rfl⟩

theorem ackAll_only : OnlyAnswers ackAll := fun s => ⟨s.freeDraws, _, rfl⟩

theorem readOrder_only (mode slot generation page : Byte) : OnlyAnswers (readOrder mode slot generation page) :=
  fun s => by
    unfold readOrder
    (repeat' split) <;> exact ⟨_, _, rfl⟩

/-! ### Settings and mode (R196 to R198) -/

theorem upholds_writeSetting (ident : Byte) (value : Word) (s : State) : Upholds s (writeSetting ident value s).1 := by
  have stored (y : YardId) (v : Nat) : Upholds s (storeYard y v s) := by
    rw [storeYard_frame]
    exact .of_duties rfl
  unfold writeSetting
  split
  · exact (refuseOpen_only _ _ _).upholds s
  · dsimp only
    split
    · exact stored _ _
    · exact .refl s

theorem steady_storeStep (i : StepId) (p : StepSettingId) (v : Int) (s : State) : Steady s (storeStep i p v s) := by
  by_cases hp : p = .operationCount
  · subst hp
    rw [storeStep_operationCount]
    exact steady_modStep (fun _ => rfl) fun _ => id
  · have stored : Steady s { s with cfg.perStep := put s.cfg.perStep i (stepSettingWrite (s.stepCfg i) p v) } :=
      .of_duties rfl
    rw [storeStep_eq hp, stepStored_eq]
    exact stored.trans (steady_modUnb_beside (fun _ => rfl) (fun _ => rfl) fun _ => rfl)

theorem upholds_writeStepSetting (step ident : Byte) (value : Word) (s : State) :
    Upholds s (writeStepSetting step ident value s).1 := by
  unfold writeStepSetting
  split
  · dsimp only
    split
    · exact (steady_storeStep _ _ _ s).upholds
    · exact .refl s
  · exact (refuseOpen_only _ _ _).upholds s

/-- Every unbalance record changed beside learning, arming and departure. -/
theorem steady_mapUnb {g : Unbalance → Unbalance} (learning : ∀ u, (g u).learning = u.learning)
    (armed : ∀ u, (g u).armed = u.armed) (departed : ∀ u, (g u).departed = u.departed) (s : State) :
    Steady s { s with ub := s.ub.map g } := by
  have unb (i : StepId) : ({ s with ub := s.ub.map g } : State).unb i = g (s.unb i) := look_map _ _ _
  refine ⟨⟨fun i h => ?_, fun _ h => h⟩, ⟨fun _ h => ⟨h, id⟩, id, Iff.rfl, fun i h => .inl ?_⟩, fun i may h => ?_,
    .inl rfl⟩
  · rwa [unb, learning] at h
  · rwa [unb, departed] at h
  · rw [unb, armed] at h
    unfold MayBeArmed
    rw [unb, departed]
    exact may h

theorem steady_defaultSettings (s : State) : Steady s (defaultSettings s) := by
  have capped : Steady s (cappedTo Settings.default s) :=
    .of_duties (by simp [duties, cappedTo, capHarmTrip, capHarmAlarm, capDead, capFast, capBand])
  rw [defaultSettings_eq]
  exact capped.trans
    (steady_mapUnb (g := capUnbalance StepSettings.default) (fun _ => rfl) (fun _ => rfl) (fun _ => rfl) _)

theorem upholds_requestMode (mode : Byte) (s : State) : Upholds s (requestMode mode s).1 := by
  unfold requestMode
  split
  · exact upholds_setMode false s
  · split
    · exact upholds_setMode true s
    · exact .refl s

/-! ### Lines (R184 to R187) -/

theorem steady_noteDirect (i : StepId) (rises : Bool) (s : State) : Steady s (noteDirect i rises s) := by
  unfold noteDirect
  split
  · exact steady_lastSource i _ s
  · exact .refl s

theorem upholds_stageLines (step close trip : Byte) (s : State) : Upholds s (stageLines step close trip s).1 := by
  have staged (i : StepId) (c t : Bool) :
      Steady s (s.modLines i fun l => { l with stagedClose := c, stagedTrip := t }) :=
    steady_modLines id
  unfold stageLines
  split
  · exact .refl s
  · exact (staged _ _ _).upholds

/-- A step becomes DIRECT-owned where HANDOVER may be taken (R182, R185). -/
theorem upholds_becomeDirect {i : StepId} {s : State} (may : handoverAllowed s i = true) :
    Upholds s (becomeDirect i s) := by
  obtain ⟨permit, retired⟩ : maintPermit s = true ∧ (s.stepRec i).retired = true := by
    simp only [handoverAllowed, Bool.and_eq_true] at may
    exact ⟨may.1.1.1, may.1.1.2⟩
  have owned : Upholds s (s.modLines i fun l =>
      { l with direct := true, directClose := l.stagedClose, directTrip := l.stagedTrip }) := by
    refine ⟨id, fun _ => id, fun ok j owned => ?_, id⟩
    by_cases e : j = i
    · exact ⟨e ▸ retired, permit⟩
    · rw [State.modLines_lines, if_neg e] at owned
      exact ok j owned
  have cut (u : State) : Steady u (u.modLane i fun x => { x with closePulse := 0, tripPulse := 0 }) :=
    steady_modLane_times fun _ => rfl
  exact owned.trans ((cut _).trans (steady_noteDirect i _ _)).upholds

theorem upholds_handover (step : Byte) (s : State) : Upholds s (handover step s).1 := by
  unfold handover
  split
  · exact (refuseOpen_only _ _ _).upholds s
  · next i _ =>
    split
    · next may =>
      show Upholds s (if (s.lines i).direct then s else becomeDirect i s)
      split
      · exact .refl s
      · exact upholds_becomeDirect may
    · exact .refl s

theorem upholds_driveLines (step close trip : Byte) (s : State) : Upholds s (driveLines step close trip s).1 := by
  unfold driveLines
  split
  · exact .refl s
  · split
    · next owned => exact ((steady_modLines fun _ => owned).trans (steady_noteDirect _ _ _)).upholds
    · exact .refl s

theorem upholds_returnLines (step : Byte) (s : State) : Upholds s (returnLines step s).1 := by
  unfold returnLines giveBack
  split
  · exact (refuseOpen_only _ _ _).upholds s
  · next i _ =>
    show Upholds s (if (s.lines i).direct then returnDirect i s else _)
    split
    · exact (steady_returnDirect i s).upholds
    · exact (steady_modLines id).upholds

/-! ### Orders (R157 to R161) -/

theorem upholds_byHandle {work : SlotId → State → State × Answer} (hw : ∀ i s, Upholds s (work i s).1)
    (slot gen : Byte) (s : State) : Upholds s (byHandle slot gen work s).1 := by
  unfold byHandle
  split
  · exact .refl s
  · split
    · exact hw _ s
    · exact .refl s

section

variable {i : SlotId} {s : State}

/-- A slot leaves the free queue at its head as a DRAFT (R157). -/
theorem upholds_takeSlot (s : State) : Upholds s (takeSlot s).1 := by
  unfold takeSlot
  split
  · exact .refl s
  · next i rest queue =>
    refine upholds_editSlot i (fun o => { Slot.cleared o.generation with state := .draft }) rest s.oe.posted s
      fun pool => ?_
    obtain ⟨nodup, -, each⟩ := id pool
    have was : (s.slot i).state = .free := (each i).1.mp (by simp [queue])
    rw [queue, List.nodup_cons] at nodup
    refine ⟨by simp [was], nofun, ⟨nodup.2, fun k => ?_⟩, poolOk_keepPosted pool (by simp [was]) nofun,
      fun _ => ⟨rfl, rfl⟩⟩
    split
    · next e => exact iff_of_false (e ▸ nodup.1) nofun
    · next ne => simp [queue, ne]

/-- A DRAFT is filled (R158). -/
theorem upholds_fillSlot (kind step timing : Byte) (notBefore deadline : Half) (i : SlotId) (s : State) :
    Upholds s (fillSlot kind step timing notBefore deadline i s).1 := by
  unfold fillSlot
  split
  · next draft =>
    refine upholds_editSlot i (fun o => { o with
      kind := kind, step := step, timing := timing, notBefore := min notBefore.toNat 600,
      deadline := min deadline.toNat 3600 }) s.oe.freeQueue s.oe.posted s fun pool => ?_
    exact ⟨by simp [draft], by simp [draft], poolOk_keepFree pool (by simp [draft]) (by simp [draft]),
      poolOk_keepPosted pool (by simp [draft]) (by simp [draft]), (pool.2.2 i).2.2.2⟩
  · exact .refl s

/-- A DRAFT is posted at the tail of the queue (R159). -/
theorem upholds_placeOrder (draft : (s.slot i).state = .draft) : Upholds s (placeOrder i s) := by
  refine upholds_editSlot i (fun o => { o with
    state := .posted, postedAt := some s.clock.seconds, notBeforeTimer := delayTimer o.notBefore,
    deadlineTimer := delayTimer o.deadline }) s.oe.freeQueue (s.oe.posted ++ [i]) s fun pool => ?_
  have new : i ∉ s.oe.posted := fun waits => nomatch draft.symm.trans ((pool.2.2 i).2.1.mp waits)
  exact ⟨by simp [draft], nofun, poolOk_keepFree pool (by simp [draft]) nofun,
    ⟨nodup_append_new pool.2.1 new, mem_append_new rfl⟩, fun other => absurd rfl other⟩

theorem upholds_postSlot (i : SlotId) (s : State) : Upholds s (postSlot i s).1 := by
  unfold postSlot
  split
  · exact .refl s
  · next draft =>
    split
    · exact .refl s
    · split
      · exact .refl s
      · exact (upholds_placeOrder (not_not.mp draft)).trans (upholds_settle _)

theorem upholds_withdrawSlot (i : SlotId) (s : State) : Upholds s (withdrawSlot i s).1 := by
  unfold withdrawSlot
  split
  · next posted => exact (upholds_endPosted (fun _ => posted) _ _).trans (upholds_settle _)
  · exact .refl s
  · exact .refl s

/-- A slot returns to the free queue at its tail (R161). -/
theorem upholds_freeSlot (h : (s.slot i).state = .finished ∨ (s.slot i).state = .draft) : Upholds s (freeSlot i s) := by
  refine upholds_editSlot i (fun o => Slot.cleared (o.generation + 1)) (s.oe.freeQueue ++ [i]) s.oe.posted s
    fun pool => ?_
  have was : (s.slot i).state ≠ .free ∧ (s.slot i).state ≠ .posted ∧ (s.slot i).state ≠ .executing := by
    rcases h with h | h <;> simp [h]
  obtain ⟨free, posted, executing⟩ := was
  exact ⟨executing, nofun, ⟨nodup_append_new pool.1 fun queued => free ((pool.2.2 i).1.mp queued), mem_append_new rfl⟩,
    poolOk_keepPosted pool posted nofun, fun _ => ⟨rfl, rfl⟩⟩

theorem upholds_retireSlot (i : SlotId) (s : State) : Upholds s (retireSlot i s).1 := by
  unfold retireSlot
  split
  · next finished => exact upholds_freeSlot (.inl finished)
  · next draft => exact upholds_freeSlot (.inr draft)
  · exact .refl s

end

end Sys2Proof.Proofs

namespace Sys2Proof.Proofs

open Sys2Proof.Machine Sys2Proof.Safety Sys2Proof.Laws

/-! ### Every command and every step upholds the promises -/

theorem upholds_frameAbort (bits : Nat) (s : State) : Upholds s (frameAbort bits s) := by
  unfold frameAbort
  (repeat' split) <;> exact .of_duties rfl

theorem upholds_fillerFrame (s : State) : Upholds s (fillerFrame s) := by
  unfold fillerFrame
  (repeat' split) <;> exact .of_duties rfl

theorem upholds_responseLoad (s : State) : Upholds s (responseLoad s) := by
  unfold responseLoad
  split <;> exact .of_duties rfl

/-- RESET cuts the pulses and leaves every operation on its lane (R97). -/
theorem upholds_assertReset (s : State) : Upholds s (assertReset s) := by
  have lane (i : StepId) : (assertReset s).lane i = { s.lane i with closePulse := 0, tripPulse := 0 } := look_map _ _ _
  refine Steady.upholds ⟨⟨fun _ => id, fun i h => ?_⟩, ⟨fun _ h => ⟨h, id⟩, id, Iff.rfl, fun _ => .inl⟩,
    fun _ may => may, .inl rfl⟩
  rw [lane] at h
  exact h

/-- A release brings a state that meets every promise (R97, R153, R183). -/
theorem upholds_release (pins : Pins) (s : State) :
    Upholds s { State.released pins with
      pending := s.pending, freeDraws := s.freeDraws, extraBits := s.extraBits } :=
  ⟨fun _ => released_poolOk pins s.pending s.freeDraws s.extraBits,
    fun _ _ => released_engineOk pins s.pending s.freeDraws s.extraBits,
    fun _ => released_directOk pins s.pending s.freeDraws s.extraBits,
    fun _ => released_armedOk pins s.pending s.freeDraws s.extraBits⟩

/-- A command outside reset upholds what its effect upholds; while RESET is held it has none. -/
theorem upholds_live {f : State → State} {s t : State} (run : live s f = .next t) (hf : ∀ s, Upholds s (f s)) :
    Upholds s t := by
  cases run
  split
  · exact .refl s
  · exact hf s

theorem upholds_request {work : Handler} {code tag : Byte} {s t : State}
    (run : live s (takeRequest code tag work) = .next t) (hw : ∀ s, Upholds s (work s).1) : Upholds s t :=
  upholds_live run (upholds_takeRequest hw code tag)

theorem upholds_reading {work : Handler} {code tag : Byte} {s t : State}
    (run : live s (takeRequest code tag work) = .next t) (hw : OnlyAnswers work) : Upholds s t :=
  upholds_request run hw.upholds

theorem exec_upholds (c : Instr) {s t : State} (run : exec c s = .next t) : Upholds s t := by
  cases c with
  | resetAssert =>
    cases run
    exact upholds_assertReset s
  | resetRelease pins =>
    cases run
    exact upholds_release pins s
  | frameEnd f => exact upholds_live run (upholds_frameEnd f)
  | scheduledClosePulse => exact upholds_live run upholds_scheduledPulse
  | windowTimerExpiry => exact upholds_live (f := endWindow (.failed .timeout)) run fun _ => .of_duties rfl
  | feedTimerExpiry => exact upholds_live run upholds_feedExpiry
  | windowEnd => exact upholds_live run upholds_takeWindowEnd
  | publication => exact upholds_live run upholds_publish
  | vcEvaluation => exact upholds_live run upholds_vcEvaluate
  | harmonicEvaluation => exact upholds_live run upholds_hsEvaluate
  | unbalanceEvaluation => exact upholds_live run upholds_ubEvaluate
  | cooldownExpiry i => exact upholds_live run (upholds_cooldownExpiry i)
  | holdoffExpiry i => exact upholds_live run (upholds_holdoffExpiry i)
  | closePulseEnd i =>
    exact upholds_live (f := fun s => s.modLane i _) run fun _ =>
      (steady_modLane_times (g := fun l => { l with closePulse := 0 }) fun _ => rfl).upholds
  | tripPulseEnd i =>
    exact upholds_live (f := fun s => s.modLane i _) run fun _ =>
      (steady_modLane_times (g := fun l => { l with tripPulse := 0 }) fun _ => rfl).upholds
  | closeConfirmExpiry i => exact upholds_live run (upholds_closeConfirmExpiry i)
  | openConfirmExpiry i => exact upholds_live run (upholds_openConfirmExpiry i)
  | yardTripEnd => exact upholds_live (f := fun s => { s with seq.yardTrip := 0 }) run fun _ => .of_duties rfl
  | syncWaitExpiry => exact upholds_live run upholds_syncWaitExpiry
  | settleExpiry => exact upholds_live run upholds_settleExpiry
  | resonanceWatchExpiry => exact upholds_live (f := fun s => { s with hs.watch := none }) run fun _ => .of_duties rfl
  | notBeforeElapsed i => exact upholds_live run (upholds_notBeforeElapsed i)
  | deadlineExpiry i => exact upholds_live run (upholds_deadlineExpiry i)
  | inputLevelChange n level => exact upholds_live run (upholds_levelChange n level)
  | frameAbort bits => exact upholds_live run (upholds_frameAbort bits)
  | fillerFrame => exact upholds_live run upholds_fillerFrame
  | responseLoad => exact upholds_live run upholds_responseLoad
  | badCode code tag => exact upholds_reading run (answer_only _ _)
  | poll tag => exact upholds_request run fun _ => .refl _
  | readIdent tag => exact upholds_reading run (answer_only _ _)
  | readStep tag step page => exact upholds_reading run (readStep_only step page)
  | readChannel tag channel page => exact upholds_reading run (readChannel_only channel page)
  | readYard tag page => exact upholds_reading run (readYard_only page)
  | readSetting tag ident => exact upholds_reading run (readSetting_only ident)
  | writeSetting tag ident value => exact upholds_request run (upholds_writeSetting ident value)
  | readStepSetting tag step ident => exact upholds_reading run (readStepSetting_only step ident)
  | writeStepSetting tag step ident value => exact upholds_request run (upholds_writeStepSetting step ident value)
  | defaultSettings tag => exact upholds_request run fun s => (steady_defaultSettings s).upholds
  | setMode tag mode => exact upholds_request run (upholds_requestMode mode)
  | readAlarm tag index => exact upholds_reading run (readAlarm_only index)
  | ackAlarm tag kind subject => exact upholds_reading run (ackAlarm_only kind subject)
  | ackAll tag => exact upholds_reading run ackAll_only
  | takeSlot tag => exact upholds_request run upholds_takeSlot
  | fillOrder tag slot generation kind step timing notBefore deadline =>
    exact upholds_request run
      (upholds_byHandle (upholds_fillSlot kind step timing notBefore deadline) slot generation)
  | postOrder tag slot generation => exact upholds_request run (upholds_byHandle upholds_postSlot slot generation)
  | withdrawOrder tag slot generation =>
    exact upholds_request run (upholds_byHandle upholds_withdrawSlot slot generation)
  | retireOrder tag slot generation => exact upholds_request run (upholds_byHandle upholds_retireSlot slot generation)
  | readOrder tag mode slot generation page => exact upholds_reading run (readOrder_only mode slot generation page)
  | stageLines tag step close trip => exact upholds_request run (upholds_stageLines step close trip)
  | handover tag step => exact upholds_request run (upholds_handover step)
  | driveLines tag step close trip => exact upholds_request run (upholds_driveLines step close trip)
  | returnLines tag step => exact upholds_request run (upholds_returnLines step)
  | readLines tag => exact upholds_request run fun _ => .refl _
  | firstFrameSync => exact upholds_live run upholds_firstSync

/-! ### The tick -/

/-- A countdown stops no timer and starts none, and leaves orders and operations as they are (R164). -/
theorem upholds_countDown (s : State) : Upholds s (countDown s) := by
  have work : NoNewWork s (countDown s) := ⟨fun _ => id, fun i h => by
    rw [countDown_lane] at h
    exact h⟩
  have grounds : GroundsKept s (countDown s) := ⟨fun _ h => ⟨h, id⟩, id, Iff.rfl, fun _ => .inl⟩
  have running : SameRunning s (countDown s) := fun j runs => by
    rw [countDown_slot]
    exact ⟨runs, rfl, rfl⟩
  refine ⟨fun ⟨free, posted, each⟩ => ⟨free, posted, fun j => ?_⟩, fun _ => running.engineOk work, grounds.directOk,
    grounds.armedOk fun _ may => may⟩
  obtain ⟨queued, waits, runs, timers⟩ := each j
  rw [countDown_slot]
  refine ⟨queued, waits, runs, fun other => ?_⟩
  obtain ⟨notBefore, deadline⟩ := timers other
  simp [Slot.down, notBefore, deadline]

theorem tick_upholds {s t : State} (run : tick s = .next t) : Upholds s t := by
  have expiry (c : Instr) (u t : State) (h : Upholds s u) (run : takeExpiry c u = .next t) : Upholds s t := by
    unfold takeExpiry at run
    split at run
    · exact h.trans (exec_upholds c run)
    · cases run
      exact h
  have sampled (n : InputLine) (u t : State) (h : Upholds s u) (run : sampleInput n u = .next t) : Upholds s t := by
    unfold sampleInput at run
    dsimp only at run
    split at run
    · exact h.trans (exec_upholds _ run)
    · cases run
      exact h.trans (steady_setInput fun _ => sampleFilter_level _).upholds
  refine andThen_invariant (fun u => inTurn_invariant expiry _ (upholds_countDown s)) (fun u t hu => ?_) run
  refine andThen_invariant (fun v => sampled .inp0 u v hu) fun v t hv => ?_
  exact andThen_invariant (fun w => sampled .inp1 v w hv) fun w t hw => sampled .inp2 w t hw

/-- A step is a command, a tick, or nothing (log 1, log 2). -/
theorem step_upholds {s t : State} (run : step s = .next t) : Upholds s t := by
  unfold step at run
  split at run
  · unfold idle at run
    split at run
    · cases run
      exact .refl s
    · split at run
      · exact exec_upholds _ run
      · exact tick_upholds run
  · next c rest _ =>
    have queued : Upholds s { s with pending := rest } := .of_duties rfl
    exact queued.trans (exec_upholds c run)

/-- Settles O9: every step moves a slot with the queues that hold it, begins work only with its order and ends an
EXECUTING order only with its work. -/
theorem orderPoolStaysPartitioned : Obligations.OrderPoolStaysPartitioned := by
  unfold Obligations.OrderPoolStaysPartitioned
  exact ⟨fun _ _ pool run => (step_upholds run).pool pool, fun _ _ pool ok run => (step_upholds run).engine pool ok⟩

/-- Settles O11: every step keeps the grounds of a DIRECT owner and of an armed step. -/
theorem ownershipAndArmingStand : Obligations.OwnershipAndArmingStand := by
  unfold Obligations.OwnershipAndArmingStand
  exact ⟨fun _ _ ok run => (step_upholds run).direct ok, fun _ _ ok run => (step_upholds run).armed ok⟩

end Sys2Proof.Proofs
